-- ==== Sys2Proof/Word.lean ====
section
/-! DEFINITION. Word types and the index types of the module's parts (Table 0.3, Table 1.3). -/

namespace Sys2Proof

abbrev Byte := BitVec 8
abbrev W32 := BitVec 32
abbrev W64 := BitVec 64

/-- Base die P0–P5. -/
abbrev BaseDie := Fin 6
/-- Compute die C0–C11. -/
abbrev Die := Fin 12
/-- HBM4 stack H0–H11. -/
abbrev StackIx := Fin 12
/-- Logical ward of a compute die (Table 2.2). -/
abbrev LWard := Fin 24
/-- Physical ward of a compute die, 24 being the spare ward (R49). -/
abbrev PWard := Fin 25
/-- Logical tumbler of a ward. -/
abbrev LTum := Fin 64
/-- Physical tumbler of a ward, 64–67 being the spares (R48). -/
abbrev PTum := Fin 68
/-- Optical engine E0–E7. -/
abbrev EngineIx := Fin 8
/-- Fiber pair of an engine, 8 being the spare F8. -/
abbrev FiberIx := Fin 9
/-- Wavelength slot 0–17 (Table 7.1). -/
abbrev SlotIx := Fin 18
/-- Laser 0–17 of an engine's set (R202). -/
abbrev LaserIx := Fin 18
/-- Logical lane of a link direction. -/
abbrev LaneIx := Fin 16
/-- Link 0–63, 8n + m for E<n>.F<m> (Table 0.3). -/
abbrev LinkIx := Fin 64
/-- Context 0–1,023 (R100). -/
abbrev CtxId := Fin 1024
/-- Context generation, modulo 16 (R100). -/
abbrev Gen := BitVec 4
/-- Command ring 0–63 of a dispatcher (Table 4.2). -/
abbrev RingIx := Fin 64
/-- Application core, module-wide index (R60). -/
abbrev CoreIx := Fin 24
/-- Die-to-die edge in the order of R364. -/
abbrev EdgeIx := Fin 7
/-- Mailbox 0–15 (Table 11.8). -/
abbrev MbxIx := Fin 16
/-- Module identifier in a domain (R282). -/
abbrev ModId := BitVec 8
/-- Module physical address (R134). -/
abbrev PAddr := BitVec 48
/-- Channel identifier: kind in bits 31..24, index in bits 23..0 (R364). -/
abbrev Chan := BitVec 32

end Sys2Proof
end

