-- ==== Sys2Proof/Syntax/Types.lean ====
section
/-! DEFINITION. The enumerations and operand records that commands and the state share. -/

namespace Sys2Proof

/-- Stop conditions of the power stage (R390, R392). -/
inductive PsStopCause where
  | undervoltage | overvoltage | outputOver | overcurrent | hotspot | busUnder
deriving DecidableEq, Repr

/-- The six sampled position straps POS[2:0] (R166). -/
structure Straps where
  p0 : Fin 8
  p1 : Fin 8
  p2 : Fin 8
  p3 : Fin 8
  p4 : Fin 8
  p5 : Fin 8
deriving DecidableEq, Repr

/-- Logical ports of a base die, numbered as Table 6.2: 0 N, 1 E, 2 S, 3 W. -/
inductive Port4 where
  | n | e | s | w
deriving DecidableEq, Repr

/-- Direction of an edge: 0 runs from the lower-indexed die to the higher (R364). -/
inductive Dir where
  | up | down
deriving DecidableEq, Repr

/-- The two PCIe ports (R302). -/
inductive HostPort where
  | a | b
deriving DecidableEq, Repr

/-- PLAN of Table 6.7: width code per group and direction (0 off, 1 four, 2 eight, 3 sixteen lanes). -/
structure PlanMsg where
  widthsUp : List Nat
  widthsDown : List Nat
  digest : W32
  roleMap : Byte
  round : Nat
deriving DecidableEq, Repr

/-- Where a tumbler stands: logical indices only (R14). -/
structure TumId where
  die : Die
  ward : LWard
  tum : LTum
deriving DecidableEq, Repr

/-- A load that a step issues (R37): a home address, a length up to 4 KiB, an SRAM address and a load group. -/
structure LoadReq where
  global : Bool
  module : ModId
  addr : PAddr
  len : Nat
  sram : Nat
  group : Fin 8
deriving DecidableEq, Repr


/-- Format codes of Table 3.1; Bronze has none. -/
inductive Fmt where
  | fp32 | fp16 | bf16 | e4m3 | e5m2 | e3m2 | e2m3 | e2m1 | int8 | int4 | int32 | pewter
deriving DecidableEq, Repr

/-- Scaling modes of Table 3.3. -/
inductive Scaling where
  | none | perTensor | mx | block16
deriving DecidableEq, Repr

/-- Rounding modes of R78; the reserved code is nearest even. -/
inductive Rounding where
  | nearest | towardZero | stochastic
deriving DecidableEq, Repr

/-- A row of elements in tumbler SRAM, its form resolved: where the packed elements, the block scales and the 2:4 index nibbles begin,
and how they are read (R67–R73, R83). -/
structure SramRow where
  fmt : Fmt
  scaling : Scaling
  tensorScale : W32
  sparse : Bool
  elems : Nat
  scales : Nat
  metaAt : Nat
deriving DecidableEq, Repr

/-- Vector-unit functions of R97: the correctly rounded ones, then those the manual bounds only. -/
inductive VecFn where
  | add | mul | fma
  | recip | sqrt | rsqrt | exp | ln | tanh | logistic | gelu
deriving DecidableEq, Repr

/-- Epilogues of MATMUL (Table 4.10, R479). -/
inductive Epilogue where
  | none | relu | gelu | silu
deriving DecidableEq, Repr

/-- Reductions of Table 4.10. -/
inductive RedOp where
  | sum | max | min | mean
deriving DecidableEq, Repr

/-- How a row that a step reads or writes is formed: as a tensor of the operator's table describes it (R113), or in a form of
the micro-image's own for what it keeps in SRAM between steps. -/
inductive RowForm where
  | tensor (i : Nat)
  | own (fmt : Fmt) (scaling : Scaling) (tensorScale : W32) (sparse : Bool)
deriving DecidableEq, Repr

/-- A row as a step names it: its form, and where its elements, block scales and index nibbles begin in SRAM. -/
structure RowRef where
  form : RowForm
  elems : Nat
  scales : Nat
  metaAt : Nat
deriving DecidableEq, Repr

/-- One piece of arithmetic that a running step carries out on its tumbler's SRAM. The encoding of the sequencer is
not published (R51), so which pieces a step carries out, and where in SRAM, is an operand of STEP_END; what each piece computes
is chapter 3's, with the formats, scales, rounding and saturation of the operator's descriptors. -/
inductive ArithOp where
  /-- Clear a Bronze accumulator held as a spill word at an SRAM address (R91). -/
  | clearBronze (acc : Nat)
  /-- Add the chunks of a dot product of `n` elements of two rows into the Bronze word at `acc` (R82–R90). -/
  | dot (acc : Nat) (a b : RowRef) (from_ n : Nat) (weights : Bool)
  /-- The same for every row of a sliver against every column, with the padding of R45: Bronze words from `acc` on, one for each
  column of each row, rows padded to a multiple of 16 and columns to a multiple of 32. -/
  | tile (acc : Nat) (rows cols : List RowRef) (from_ n : Nat) (weights : Bool)
  /-- Combine one Bronze spill word into another: a partial result carried between tumblers (R30, R91). -/
  | combine (op : RedOp) (acc src : Nat)
  /-- Multiply a Bronze word by the per-tensor scales of the operands, with one rounding (R89). -/
  | scaleBronze (acc : Nat) (operands : List RowRef)
  /-- Multiply a Bronze sum by 1 / n (R478). -/
  | meanBronze (acc n : Nat)
  /-- Convert `n` elements of a row into another row (R74–R82). -/
  | convert (src dst : RowRef) (n : Nat)
  /-- Round a Bronze word to FP32 at `dst` (R479 step 1). -/
  | bronzeToFp32 (acc dst : Nat)
  /-- Store Bronze words `acc`, `acc + 8`, … as `n` elements of a row (R81, R82). -/
  | storeBronze (acc : Nat) (dst : RowRef) (n : Nat)
  /-- Store `n` columns of each row of a padded tile, and none of its padding (R45). -/
  | storeTile (acc : Nat) (dst : List RowRef) (n : Nat)
  /-- A vector-unit function over `n` FP32 words (R97). -/
  | vec (fn : VecFn) (x y z dst : Nat) (n : Nat)
  /-- The tail of MATMUL after the dot product, on one FP32 word: alpha, beta and C, bias, epilogue, the last three and alpha from
  the operator's parameter words (R479); C and bias are an element of a row. -/
  | matmulTail (p : Nat) (c bias : Option (RowRef × Nat)) (dst : Nat)
  /-- The epilogue that the operator's parameter words name, on one FP32 word (Table 4.10). -/
  | epilogue (src dst : Nat)
  /-- Store `n` FP32 words as elements of a row (R479 step 6). -/
  | storeFp32 (src : Nat) (dst : RowRef) (n : Nat)
  /-- Reduce `n` elements of a row into the Bronze word at `dst` (R478). -/
  | reduce (op : RedOp) (src : RowRef) (n : Nat) (dst : Nat)
  /-- Move bytes within SRAM, as COPY moves them (R478). -/
  | copy (src dst n : Nat)
deriving DecidableEq, Repr

/-- A token in flight: the fields of Table 2.2 with its payload beats (R28). -/
structure Token where
  header : W64
  beats : List (BitVec 512)
deriving DecidableEq, Repr

/-- What a start token carries: the operator's serial, its image and the sliver of its tumbler (R29, R44), with the descriptors that
its micro-image reads (R115, R123). Log: DESIGN CHOICE 155. -/
structure StartTok where
  ctx : CtxId
  gen : Gen
  dest : TumId
  opSerial : W32
  image : W32
  index : Nat
  origin : List Nat
  extent : List Nat
  empty : Bool
  desc : PAddr
  /-- The operator descriptor and the tensor descriptors as the dispatcher has checked them. -/
  word : BitVec 1024
  tensors : List (BitVec 512)
deriving DecidableEq, Repr

/-- Readers of a home, for Table 5.6. -/
inductive Reader where
  | tumbler (t : TumId) (ctx : CtxId) (opSerial : W32)
  | dispatcher (d : BaseDie)
  | appCore (c : CoreIx)
  | host (p : HostPort)
  | keeper
  | peer (m : ModId) (tag : BitVec 16)
  | scrub
deriving DecidableEq, Repr

/-- Writers at a home, in the words of R141 and R158. -/
inductive Writer where
  | tumbler (t : TumId) (ctx : CtxId) (gen : Gen) (opSerial : W32)
  | dispatcher (d : BaseDie)
  | appCore (c : CoreIx)
  | host (p : HostPort) (ctx : CtxId)
  | keeper
  | latch (d : BaseDie)
  | peer (m : ModId) (ctx : CtxId) (gen : Gen)
deriving DecidableEq, Repr

/-- Home atomic operations of Table 5.4. Log: DESIGN CHOICE 15. -/
inductive AtomicOp where
  | addU64 | addFp32 | addBf16 | swap | cas
deriving DecidableEq, Repr

/-- Ring kinds of an optical lane. -/
inductive RingKind where
  | modulator | drop
deriving DecidableEq, Repr

/-- A write that a step issues (R38): up to 256 B of tumbler SRAM to a home, or an atomic operation there (R144) with its
operand in SRAM and its compare value. -/
structure WriteReq where
  global : Bool
  module : ModId
  addr : PAddr
  len : Nat
  sram : Nat
  op : Option (AtomicOp × W64)
deriving DecidableEq, Repr

/-- One optical ring (R206). -/
structure RingId where
  engine : EngineIx
  fiber : FiberIx
  slot : SlotIx
  kind : RingKind
deriving DecidableEq, Repr

/-- Outcome of reading one tone set, in 0.1 dB: target over the strongest other tone, and over the noise floor (R210). -/
structure ToneReading where
  overOthers : Int
  overNoise : Int
  heaterInWindow : Bool
  /-- A receive training pattern is found there, which confirms lock for an engine without key tones (Table 6.11). -/
  pattern : Bool := false
deriving DecidableEq, Repr

/-- A codeword of 272 ten-bit symbols as a lane receives it (R217). -/
abbrev Codeword := List (BitVec 10)

/-- One condition of a margin test on one lane: bit errors before FEC in its 10 ms, and whether a codeword was uncorrectable (R221). -/
structure MarginRun where
  errors : Nat
  uncorrectable : Bool
deriving DecidableEq, Repr

/-- A lane's margin test: its runs under the conditions of R220, in order. -/
abbrev LaneMargin := List MarginRun

/-- Fade classes of Table 7.4. -/
inductive FadeClass where
  | scheduled | urgent | failed
deriving DecidableEq, Repr

/-- A STATUS message of Table 7.6: margin in 0.1 dB and slot per logical lane, uncorrectable codewords. -/
structure OptStatus where
  margins : List Int
  slots : List Nat
  uncorrectable : Nat
  ok : Bool
deriving DecidableEq, Repr

/-- A flow unit as it arrives: its 256 bytes (R239). -/
structure FlowUnit where
  bytes : List Byte
  /-- Outside ACTIVE, what other lanes carried in its place: each carries a complete copy (R243). -/
  copies : List (List Byte) := []
deriving DecidableEq, Repr

/-- Retrain kinds of Table 8.6. -/
inductive RetrainKind where
  | full | short
deriving DecidableEq, Repr

/-- Causes of a retrain, in the order of Table 8.6. -/
inductive RetrainCause where
  | ninthNak | noData | silence | lanes | received | keys
deriving DecidableEq, Repr

/-- TRAIN of Table 8.4, less what the model does not use. -/
structure TrainMsg where
  ok : Bool
  version : Nat
  moduleId : ModId
  linkIx : Byte
  serial : W64
  bootCount : W32
  txMask : BitVec 16
  rxMask : BitVec 16
  slots : List Nat
  expect : BitVec 12
  extCount : W64
  restart : Bool
  encrypt : Bool
  keyIds : List W32
  rttNs : Nat
  round : Nat
deriving DecidableEq, Repr

/-- OPEN and OPEN_ECHO of Table 8.4. -/
structure OpenMsg where
  ok : Bool
  widthTx : BitVec 16
  widthRx : BitVec 16
  resumeTx : BitVec 12
  resumeRx : BitVec 12
  restart : Bool
  /-- Extended count base of the leader's transmit direction, and of the other. -/
  extTx : W64
  extRx : W64
  rtu : Nat
  round : Nat
deriving DecidableEq, Repr

/-- A domain message as its header and data (Table 9.2), with the flow-unit fields it travelled under. -/
structure DomMsg where
  vc : Fin 8
  opcode : Byte
  srcModule : ModId
  destModule : ModId
  ctx : CtxId
  gen : Gen
  hops : BitVec 4
  poison : Bool
  targetCtx : CtxId
  targetGen : Gen
  offset : PAddr
  length : Nat
  tag : BitVec 16
  status : Byte
  returnDie : BitVec 3
  data : List Byte
deriving DecidableEq, Repr

/-- Who issues a firmware command (R355, R318). -/
inductive Caller where
  /-- Host mailbox 0–11, rung through a port. -/
  | host (m : Fin 12) (p : HostPort)
  /-- Entry of the firmware command ring, covered by a doorbell through a port (R352). -/
  | fwRing (p : HostPort)
  /-- MCTP endpoint on binding 0 (port A VDM), 1 (port B VDM) or 2 (SMBus). -/
  | mctp (binding : Fin 3) (eid : Byte)
  /-- The service console, mailbox 15. -/
  | console
deriving DecidableEq, Repr

/-- Header of a firmware command (Table 11.9): who sends it, its sequence number, whether its buffer flag is set,
and its buffer. -/
structure CmdHdr where
  caller : Caller
  seq : Byte
  buffer : Bool
  userTag : W64
  /-- Reserved bits of the header are 0 and its lengths are the command's (R354). -/
  argsOk : Bool
deriving DecidableEq, Repr

/-- Command codes of Table 11.14. -/
inductive CmdCode where
  | identify | statusAck | cancel | fmName | portRole | reset | serviceHold
  | ctxCreate | ctxTeardown | ctxQuery | ctxRelease | ringCreate | ringDelete | bar2Map | appcoreStart | appcoreStop
  | imageInstall | imageRemove | imageList
  | domainAssign | windowWrite | windowRemove | linksetWrite | fwdWrite | groupWrite | twinSet | f8Mode | linkKey
  | linkRelease | peerReset
  | fwWrite | fwVerify | fwActivate | fwInfo | profileWrite | profileRead
  | faultRead | faultNClear | ledgerRead | dumpRead | dumpRelease
  | selftest | linkMargin | calRun | ownerKey | debugUnlock
deriving DecidableEq, Repr

/-- A memory region of a context: base and length in bytes, both multiples of 4 KiB (R101). -/
structure Region where
  base : PAddr
  len : Nat
deriving DecidableEq, Repr

/-- Owner of a command ring (R103). -/
inductive RingOwner where
  | host | core (c : CoreIx)
deriving DecidableEq, Repr

/-- The 22 profile words of Table 11.3a as critical words (R481). -/
abbrev ProfileWords := List W64

/-- A fault cause of Table 12.3. -/
inductive Cause where
  | critAbsent | critAbsentSubmit | threshold | retryFail | selftestFail | trainFail
  | uncorrectable | poisonRead | unmapped | isolation | reservedSram | partialPoisonWrite | protectedWrite | withdrawn
  | tokenWait | windowRefused | remoteStatus | routeDiscard | linkDown | tagFail | stragglers
  | edgeLost | clockLoss | latchLost | keeperMemory | cartridgeLost | position | malformedFlit | thermal
deriving DecidableEq, Repr

/-- What a unit reports to its complex (R369, R365). -/
inductive Report where
  /-- `n` transients counted against a channel. -/
  | transient (chan : Chan) (n : Nat)
  /-- A channel meets a condition of Table 12.2 that makes it permanent at once. -/
  | permanent (chan : Chan) (cause : Cause) (detail : W64) (data : W32)
  /-- A fault with its suspect, which is confirmed before it is acted on when it is not the reporter. -/
  | fault (cause : Cause) (suspect reporter : Chan) (detail : W64) (ctx : Option (CtxId × Gen)) (ops : List W32)
  /-- A critical value read with disagreeing halves (R362, R363). -/
  | critical (word : W64) (suspect : Chan) (detail : W64) (submitted : Bool)
deriving DecidableEq, Repr

/-- Causes of a whole-module reset (Table 12.8). -/
inductive ResetCause where
  | cmdReset | fatal (code : BitVec 16) | watchdog | resetN | perstPair | perst0Single | refclk
deriving DecidableEq, Repr

/-- Units that quiesce (Table 12.9). -/
inductive QUnit where
  | dispatchers | wards | homes | engines | latches | keeper | flash
deriving DecidableEq, Repr

/-- SPDM transports: a PCIe DOE port, or MCTP on one of three bindings (R433). -/
inductive SpdmConn where
  | doe (p : HostPort)
  | mctp (binding : Fin 3) (eid : Byte)
deriving DecidableEq, Repr

/-- Agents that write registers. -/
inductive Agent where
  | host (p : HostPort) | core (c : CoreIx) | keeper | console
deriving DecidableEq, Repr

/-- Registers of the blocks (Tables 4.3, 5.10, 6.12, 7.7, 8.13, 9.8, 10.11, 11.8, 12.12, 13.10, 14.5, 15.5), named by
their instance where a block holds several sets. -/
inductive Reg where
  | mbxCmd (n : MbxIx) | mbxBuf (n : MbxIx) | mbxArg (n : MbxIx) (k : Fin 24) | mbxCstat (n : MbxIx)
  | mbxRes (n : MbxIx) (k : Fin 5) | mbxStatus | mbxStart
  | dblMbxRing | dblMbxBusy | dblMbxLost | dblFwcTail | dblFwcHead | dblFwrTail | dblFwrHead | dblEvtTail | dblEvtHead
  | dblEvtMask
  | telTimestamp | telInterval | telCtrl | telStat | telPortMode | telPortA | telPortB | telMctp | telBar2Seg (n : Fin 64)
  | opxRingCtrl (d : BaseDie) (r : RingIx) | opxRingBase (d : BaseDie) (r : RingIx) | opxRingHead (d : BaseDie) (r : RingIx)
  | opxCplTail (d : BaseDie) (r : RingIx) | opxCplHead (d : BaseDie) (r : RingIx) | opxRingStat (d : BaseDie) (r : RingIx)
  | hbmMapCtrl (d : BaseDie) | hbmScrubCtrl (d : BaseDie) | hbmScrubProgress (d : BaseDie)
  | hbmStackStatus (k : StackIx) | hbmTrainResult (k : StackIx) | hbmRefresh (k : StackIx) | hbmEccStat (k : StackIx)
  | hbmLaneRepair (k : StackIx) | hbmRowRepair (k : StackIx) | hbmRetireCount (k : StackIx) | hbmRetireMap (k : StackIx)
  | d2dPosition (d : BaseDie) | d2dHinge (d : BaseDie) | d2dClkStatus (d : BaseDie) | d2dRoute (d : BaseDie)
  | d2dRoleMap (d : BaseDie) (p : Port4) | d2dEdgeStatus (d : BaseDie) (p : Port4) | d2dLaneMask (d : BaseDie) (p : Port4)
  | d2dSpareUse (d : BaseDie) (p : Port4) | d2dRetryStat (d : BaseDie) (p : Port4) | d2dEqPreset (d : BaseDie) (p : Port4)
  | d2dWidthLog (d : BaseDie) (p : Port4) | d2dUcieStatus (e : EngineIx) | d2dUcieDescLocal (e : EngineIx)
  | d2dUcieDescPeer (e : EngineIx) | d2dUcieOutcome (e : EngineIx)
  | optEngineStatus (e : EngineIx) | optEngineCtrl (e : EngineIx) | optLaserSel (e : EngineIx) | optLaserStatus (e : EngineIx)
  | optRingSel (e : EngineIx) | optRingState (e : EngineIx) | optLaneMap (e : EngineIx) | optMargin (e : EngineIx)
  | optMigration (e : EngineIx) | optFfStatus (e : EngineIx) | optFecStat (e : EngineIx) | optAtten (e : EngineIx)
  | optEventStat (e : EngineIx) | optCartStatus (c : Fin 2)
  | lnkState (l : LinkIx) | lnkPeer (l : LinkIx) | lnkCtrl (l : LinkIx) | lnkTwin (l : LinkIx) | lnkSeq (l : LinkIx)
  | lnkRtu (l : LinkIx) | lnkVcLimit (l : LinkIx) | lnkPool (l : LinkIx) | lnkKeyStatus (l : LinkIx) | lnkHold (l : LinkIx)
  | lnkStat (l : LinkIx)
  | domConfig | domWindowSel | domWindowPort (word : Fin 4) | domLinkSet | domFwd | domGroup | domPeerReset | domGenRecord
  | domStat (d : BaseDie)
  | fltQueueHead | fltQueueTail | fltQueueOverflow | fltFatal | fltPolicy | fltFaultN | fltOpen (d : BaseDie)
  | fltResetCause | fltCapacity | fltStat (d : BaseDie) | fltThreshold
  | pwrInput | pwrPsStatus | pwrRailSel (d : BaseDie) | pwrRail (d : BaseDie) | pwrPhase (d : BaseDie) | pwrTripStat (d : BaseDie)
  | thmHotspot (d : BaseDie) | thmCoolant | thmDiodeSel (d : BaseDie) | thmDiode (d : BaseDie) | thmNode (d : BaseDie)
  | thmStat (d : BaseDie)
  | govLevel (c : Die) | govPower (c : Die) | govRamp (c : Die) | govFiring (c : Die)
  | calStore (d : BaseDie) | calRef (d : BaseDie) | calSel (d : BaseDie) | calWord (d : BaseDie) | calRun (d : BaseDie)
  | calStat (d : BaseDie)
  | secFuseState | secSvn | secOwnerHash | secDebugState | secDebugNonce | secMeasure | secSpdmStat
  | coreRingPending (c : CoreIx) | coreKeeperPending (c : CoreIx) | coreRingEnable (c : CoreIx) | coreKeeperEnable (c : CoreIx)
  /-- An offset that no register of the block has (R307). -/
  | unlisted (offset : Nat)
deriving DecidableEq, Repr

/-- Quantities of Table 14.2 that CMD_CAL_RUN takes. -/
inductive CalQuantity where
  | railSense | senseGain | senseSelect | thermistor | diode | thermalModel | heaterEff | ringCal | attenStep
  | comparator | d2dEq
deriving DecidableEq, Repr

/-- One measured item of a calibration run: its index, the stored word it would take, whether the measurement lies in
the plausible range, and whether the reference it uses was present (R413, R420). -/
structure CalItem where
  index : Nat
  word : W64
  plausible : Bool
  refPresent : Bool
deriving DecidableEq, Repr

/-- A debug unlock token (R438). -/
structure DebugToken where
  magic : W32
  serial : W64
  bootCount : W32
  scopes : BitVec 4
  keyIndex : W32
  nonce : BitVec 384
  sig : BitVec 768
deriving DecidableEq, Repr

/-- Console commands of chapter 16 that Table 16.1 does not list with a command row of their own. -/
inductive ConsoleCmd where
  | info | status | faults | ledger | reset | holdEnter | holdLeave | unknown
deriving DecidableEq, Repr

end Sys2Proof
end

