-- ==== Sys2Proof/Syntax.lean ====
section
/-! DEFINITION. The commands of the block: one constructor for each row of spec/opcode_table.json, in its order, with
the operands the row's rule gives the event. -/

namespace Sys2Proof

/-- The commands. Each docstring gives the row's mnemonic, the rule that governs it, and the row's own summary. -/
inductive Instr where
  /-- INPUT_POWER_APPLIED (R390): The 64 V input rises to 52–72 V and holds for 10 ms, so the power stage starts and brings up the 12 V bus. -/
  | inputPowerApplied (mv : Nat) (serial : W64) (calibrated : Bool)
  /-- INPUT_UNDERVOLTAGE (R390): The input stays below 48 V for 1 ms, so the power stage stops and the module loses power. -/
  | inputUndervoltage
  /-- INPUT_OVERVOLTAGE (R390): The input stays above 76 V for 10 µs, so the power stage stops within 10 µs. -/
  | inputOvervoltage
  /-- OVERVOLTAGE_RESTART (R390): After an overvoltage stop, the input stays at or below 72 V for 1 s, so the power stage restarts. -/
  | overvoltageRestart (mv : Nat)
  /-- INPUT_BAND_CHANGE (R390): The running input enters or leaves the 48–54 V or 72–76 V band, so P_cap is recomputed and a LOG event is written. -/
  | inputBandChange (mv : Nat)
  /-- PS_STOP (R392): A power-stage stop condition occurs (output overvoltage, overcurrent, hotspot or bus undervoltage), so the PS stops and records the cause. -/
  | psStop (cause : PsStopCause) (sinceFirstStopS : Nat)
  /-- PS_RESTART_TIMER (R392): 5 s after a power-stage stop the PS restarts once; a second stop within 60 s keeps it off. -/
  | psRestartTimer
  /-- LIVE_INPUT_MATE (R470): The input connector is mated to a live bus, so the PS limits inrush and charges its input capacitance. -/
  | liveInputMate
  /-- RAIL_SEQUENCE (R396): The 12 V bus reaches regulation, so the rails come up in the order of Table 13.3. -/
  | railSequence
  /-- RAIL_REGULATION_TIMEOUT (R396): A rail is not in regulation by 20 ms, so its loads are left absent or the module does not start. -/
  | railRegulationTimeout (rail : Byte)
  /-- MODULE_START (R340): All rails are in regulation with RESET_N, PERST0_N and PERST1_N high, so the start sequence of Table 11.4 begins at time 0. -/
  | moduleStart (straps : Straps)
  /-- PLL_LOCK (R192): A die's PLL reports lock, so that die's blocks leave reset; at P0 the boot ROM starts and the timestamp counter starts. -/
  | pllLock (die : BaseDie)
  /-- BOOT_IMAGE_VERIFIED (R336): Verification of the chosen package ends, so the boot ROM derives the keys and starts Idore, or sets FAILED if no image verifies. -/
  | bootImageVerified
  /-- LATCH_IMAGE_DELIVERY (R428): A latch receives its image and digest across an open edge, recomputes the digest and runs the image only on a match. -/
  | latchImageDelivery (die : BaseDie) (image : List Byte) (digest : BitVec 384)
  /-- STACK_TRAINING_COMPLETE (R147): A stack's training ends, so the stack is cleared or, on failure, padlocked as a whole. -/
  | stackTrainingComplete (stack : StackIx) (failedStep : Option (Fin 6))
  /-- HBM_CLEAR_COMPLETE (R161): A controller's zeroing pass over its stack ends. -/
  | hbmClearComplete (stack : StackIx)
  /-- DUMP_COPY_COMPLETE (R338): The copy of the retained region to a dump slot ends, so shelf SRAM may be cleared and a new retained header written. -/
  | dumpCopyComplete
  /-- READY_ENTRY (R342): Every unit has reported, so the status word enters READY or DEGRADED, vector 68 is raised and MODULE_READY is sent. -/
  | readyEntry
  /-- POS_MESSAGE (R168): A POS sideband message arrives, so the edge end compares the announced position with its hinge map and opens or closes the edge. -/
  | posMessage (die : BaseDie) (port : Port4) (pos expects : W64)
  /-- EDGE_PRBS_COMPLETE (R181): The 100 ms PRBS31 test of an edge's lanes ends, so the masks are formed and MASK and PLAN are exchanged. -/
  | edgePrbsComplete (edge : EdgeIx) (failUp failDown : BitVec 136)
  /-- EDGE_OPEN_TIMEOUT (R181): An edge is not open by 250 ms, so it is left closed and routes are built without it. -/
  | edgeOpenTimeout (edge : EdgeIx)
  /-- MASK_MESSAGE (R187): A MASK sideband message arrives, so the end computes the plan from the agreed masks and sends PLAN. -/
  | maskMessage (edge : EdgeIx) (fromLow : Bool) (tx rx : BitVec 136) (round : Nat) (ok : Bool)
  /-- PLAN_MESSAGE (R187): A PLAN arrives, so the ends compare plans and the leader sends APPLY, or the round disagrees; the follower writes the carried role map. -/
  | planMessage (edge : EdgeIx) (fromLow : Bool) (plan : PlanMsg) (ok : Bool)
  /-- APPLY_MESSAGE (R187): APPLY arrives, so both ends switch changed groups to the new plan at the named sequences and replay unacknowledged flits. -/
  | applyMessage (edge : EdgeIx) (seqUp seqDown : List (BitVec 10)) (ok : Bool)
  /-- RETRAIN_REQ_MESSAGE (R189): A RETRAIN_REQ arrives, so a retrain starts, or a round in progress ends and restarts. -/
  | retrainReqMessage (edge : EdgeIx) (fromLow : Bool) (groups : Byte) (cause : Cause) (ok : Bool)
  /-- QTEST_MESSAGE (R188): A QTEST result arrives, so each group runs at width 4 on the first passing quarter or turns off. -/
  | qtestMessage (edge : EdgeIx) (fromLow : Bool) (pass : BitVec 32) (ok : Bool)
  /-- TIME_MESSAGE (R194): A TIME message from the clock-tree parent arrives, so the die aligns its copy of the timestamp counter. -/
  | timeMessage (die : BaseDie) (time : W64) (ok : Bool)
  /-- SIDEBAND_ROUND_TIMEOUT (R187): MASK or PLAN is missing 100 µs into a retrain round, so the round disagrees and a fresh round starts, or the fallback begins after three. -/
  | sidebandRoundTimeout (edge : EdgeIx)
  /-- QUARTER_TEST_COMPLETE (R188): The 1 ms PRBS test of a quarter in the narrowest-width fallback ends, so its result is reported in QTEST. -/
  | quarterTestComplete (edge : EdgeIx) (dir : Dir) (group : Fin 8) (quarter : Fin 4) (errors : Nat)
  /-- FLIT_RECEIVE (R178): A die-to-die flit arrives and is checked, so it is accepted in sequence or discarded, and credits and acknowledgements are taken. -/
  | flitReceive (edge : EdgeIx) (dir : Dir) (group : Fin 8) (flit : BitVec 576)
  /-- RETRY_REQUEST_RECEIVE (R179): A retry request arrives, so the sender replays from the carried sequence and counts a transient. -/
  | retryRequestReceive (edge : EdgeIx) (dir : Dir) (group : Fin 8) (seq : BitVec 10)
  /-- RETRY_RESEND_TIMEOUT (R179): The expected flit has not arrived 200 ns after a retry request, so the receiver sends the request again. -/
  | retryResendTimeout (edge : EdgeIx) (dir : Dir) (group : Fin 8)
  /-- ISOLATION_TEST_COMPLETE (R182): The 16 µs isolation test ends, so failing lanes are declared permanent and a retrain runs, or the group resumes. -/
  | isolationTestComplete (edge : EdgeIx) (group : Fin 8) (errUp errDown : List Nat) (lostUp lostDown : BitVec 16) (lowest : Fin 16) (lowestDir : Dir)
  /-- D2D_ROLE_MAP_WRITE (R172): A write to the RWL D2D_ROLE_MAP sets the edge's group roles before the lock; a map with no mesh group gets group 0 made mesh. -/
  | d2dRoleMapWrite (die : BaseDie) (port : Port4) (value : Byte)
  /-- CLOCK_INPUT_LOSS (R193): A non-P0 die loses its forwarded clock, so it and its descendants stop and the keeper performs a whole-module reset. -/
  | clockInputLoss (die : BaseDie)
  /-- REFCLK_LOSS (R193): P0 detects REFCLK lost, so it holds the module in reset with no quiesce. -/
  | refclkLoss
  /-- REFCLK_RESTORED (R193): REFCLK has been present for 10 ms, so P0 starts the module. -/
  | refclkRestored
  /-- SITE_DESCRIPTOR_RECEIVE (R198): An engine's capability descriptor arrives, so the base die resolves each item by Table 6.11 and closes or configures the site. -/
  | siteDescriptorReceive (engine : EngineIx) (desc : BitVec 512)
  /-- SITE_DESCRIPTOR_TIMEOUT (R197): No valid engine descriptor has arrived by 10 ms, so the site is treated as failing a required item and closes. -/
  | siteDescriptorTimeout (engine : EngineIx)
  /-- UCIE_MAINBAND_TRAINED (R197): A site's mainband finishes training, so the site is reported to the keeper and the optics start. -/
  | ucieMainbandTrained (engine : EngineIx) (full half : Nat)
  /-- START_TOKEN_ARRIVAL (R43): A start token reaches a ward and waits in its tumbler's start queue. -/
  | startTokenArrival (tok : StartTok)
  /-- OPERATOR_START_ON_TUMBLER (R43): The head start token of an idle tumbler proceeds, so its operator becomes resident on the tumbler. -/
  | operatorStartOnTumbler (t : TumId)
  /-- IMAGE_LOAD_COMPLETE (R56): An image's code or tables finish loading into a tumbler's instruction slot or table region. -/
  | imageLoadComplete (t : TumId) (image : W32) (tables : Bool)
  /-- STEP_FIRE (R33): The sequencer finds a ready step and fires it: it debits credits, reserves write slots, pops input beats and issues the step's loads. -/
  | stepFire (t : TumId) (step : Fin 16) (loads : List LoadReq) (writes : List WriteReq) (sramTouched : Option Nat)
  /-- STEP_END (R32): A running step finishes computing, so its output tokens enter the output queues and the step table is evaluated again. -/
  | stepEnd (t : TumId) (work : List ArithOp) (tags : List Byte) (beats : List Nat)
  /-- LOAD_DATA_LAND (R37): 256 B of a load land in tumbler SRAM, so a read slot is freed and the group's counter falls. -/
  | loadDataLand (t : TumId) (load : Nat) (data : List Byte)
  /-- WRITE_ACK (R38): A home acknowledges a write, so its write slot is freed and a pending write of a long step may issue. -/
  | writeAck (t : TumId) (write : Nat)
  /-- TOKEN_FORWARD (R41): The ward switch or router forwards a token from an output queue toward its destination ward or die. -/
  | tokenForward (t : TumId) (queue : Fin 4)
  /-- TOKEN_ARRIVAL (R30): A data token enters its destination input queue. -/
  | tokenArrival (tok : Token)
  /-- CREDIT_TOKEN_ARRIVAL (R33): A credit token returns beats of credit to the sending tumbler's output queue. -/
  | creditTokenArrival (tok : Token)
  /-- TOKEN_WAIT_TIMEOUT (R40): A tumbler's wait timer reaches 10 ms, so it reports a token-wait timeout naming a suspect. -/
  | tokenWaitTimeout (t : TumId)
  /-- WARD_COMPLETION_SEND (R21): All output writes of a ward's tumblers for an operator have been acknowledged, so the ward sends its completion token. -/
  | wardCompletionSend (die : Die) (ward : LWard) (ctx : CtxId) (opSerial : W32)
  /-- GENERATION_CHANGE_ARRIVAL (R42): A generation change reaches a ward, so it stops and aborts the context's steps, discards its tokens and releases its tumblers. -/
  | generationChangeArrival (die : Die) (ward : LWard) (ctx : CtxId) (newGen : Gen) (arg : BitVec 16)
  /-- WARD_DRAINED_SEND (R126): Every slot of the context on a ward is free, so the ward sends its drained token to each named dispatcher. -/
  | wardDrainedSend (die : Die) (ward : LWard) (ctx : CtxId)
  /-- ABORT_ARRIVAL (R374): An abort reaches a ward, so it releases the operator's tumblers and returns its completion token. -/
  | abortArrival (die : Die) (ward : LWard) (ctx : CtxId) (opSerial : W32)
  /-- PROBE_ARRIVAL (R369): A probe reaches a ward, so the ward answers with its firing state. -/
  | probeArrival (die : Die) (ward : LWard) (sender : BaseDie)
  /-- PROBE_ANSWER_RECEIVE (R369): A probe answer arrives, so the suspect is cleared and the record gets action 6. -/
  | probeAnswerReceive (suspect : Chan) (fired resident : Bool)
  /-- PROBE_TIMEOUT (R369): A probed ward or home does not answer within 100 µs, so it is declared permanent and padlocked. -/
  | probeTimeout (suspect : Chan)
  /-- SPARE_SELFTEST_COMPLETE (R48): A spare tumbler or ward finishes self-test, so the ward resumes or the next spare is tried. -/
  | spareSelftestComplete (spare : Chan) (failed : List (Fin 68))
  /-- DOORBELL_WRITE (R104): A doorbell write through BAR4 or the application-core local range carries a ring's new tail, which is accepted, held before ready, or ignored and counted. -/
  | doorbellWrite (agent : Agent) (ring : RingIx) (value : W64) (bytes : Nat)
  /-- RING_NOP (R111): The dispatcher reads a NOP entry, checks it and completes it with status 0x00. -/
  | ringNop (die : BaseDie) (ring : RingIx)
  /-- RING_DISPATCH (R115): The dispatcher reads a DISPATCH entry and makes its stage-1 checks before fetching the operator descriptor. -/
  | ringDispatch (die : BaseDie) (ring : RingIx)
  /-- DESCRIPTOR_FETCH_COMPLETE (R476): A fetched operator or tensor descriptor arrives, so the next stage of dispatch checks runs and the placement is resolved. -/
  | descriptorFetchComplete (die : BaseDie) (ring : RingIx)
  /-- RING_SIGNAL (R109): The dispatcher reads a SIGNAL entry and writes its fence value after every earlier entry of the ring has completed. -/
  | ringSignal (die : BaseDie) (ring : RingIx)
  /-- RING_WAIT (R109): The dispatcher reads a WAIT entry and holds later entries until the fence word reaches the fence value. -/
  | ringWait (die : BaseDie) (ring : RingIx)
  /-- RING_BARRIER (R111): The dispatcher reads a BARRIER entry and holds later entries until every earlier entry has completed. -/
  | ringBarrier (die : BaseDie) (ring : RingIx)
  /-- RING_RESERVED_OPCODE (R111): The dispatcher reads an entry with a reserved opcode and ends it with status 0x01. -/
  | ringReservedOpcode (die : BaseDie) (ring : RingIx)
  /-- FENCE_WORD_WRITE_NOTIFY (R109): A write to a fence word notifies waiting dispatchers, which re-evaluate their WAIT entries. -/
  | fenceWordWriteNotify (addr : PAddr)
  /-- START_ORDER_LOCK_ACQUIRE (R108): A dispatcher obtains the start-order locks of its placement's dies in order, delivers all start tokens, then releases the locks. -/
  | startOrderLockAcquire (die : BaseDie) (ring : RingIx)
  /-- START_QUEUE_CREDIT_RETURN (R43): A start-queue slot frees, so a dispatcher waiting for a control-class credit may send its next start token. -/
  | startQueueCreditReturn (t : TumId)
  /-- REGION_TABLE_FREED (R138): A ward frees a context's region table, so a dispatcher waiting to deliver a start token may load its own table. -/
  | regionTableFreed (die : Die) (ward : LWard) (ctx : CtxId)
  /-- COMPLETION_TOKEN_RECEIVE (R21): A dispatcher receives a ward's completion token; on the last one it writes the completion record and raises the notification. -/
  | completionTokenReceive (disp : BaseDie) (die : Die) (ward : LWard) (ctx : CtxId) (opSerial : W32) (status : Byte)
  /-- OPX_CPL_HEAD_WRITE (R118): The owner writes OPX_CPL_HEAD to free completion slots; a write beyond the tail or backward is ignored and counted. -/
  | opxCplHeadWrite (agent : Agent) (die : BaseDie) (ring : RingIx) (value : W32)
  /-- APPCORE_RING_SLOT_STORE (R158): An application core stores into a ring entry slot; the home checks ownership and discards stores outside the core's own rings. -/
  | appcoreRingSlotStore (core : CoreIx) (addr : PAddr) (data : List Byte)
  /-- INTERRUPT_CLAIM_READ (R60): A read of claim in an application core's interrupt file returns the lowest pending enabled identity and clears its bit. -/
  | interruptClaimRead (core : CoreIx)
  /-- DISPATCHER_STOP_CONFIRM (R125): Every dispatcher holding a ring of a tearing-down context confirms stop of issue, so the generation advances and the change is sent. -/
  | dispatcherStopConfirm (die : BaseDie) (ctx : CtxId)
  /-- DRAINED_TOKEN_RECEIVE (R127): A dispatcher receives a drained token and decides each started operator's outcome from the order of its tokens. -/
  | drainedTokenReceive (disp : BaseDie) (die : Die) (ward : LWard) (ctx : CtxId)
  /-- DRAIN_PROBE_TIMER (R480): 1 ms after the generation change, and every 1 ms after, the keeper probes each ward from which a drained token is missing. -/
  | drainProbeTimer (ctx : CtxId)
  /-- DRAIN_TIME_EXPIRY (R126): A context's drain time expires, so wards free slots held by unanswered remote requests and count stragglers. -/
  | drainTimeExpiry (ctx : CtxId)
  /-- LOCAL_DRAIN_COMPLETE (R125): Every named dispatcher has reported, so the context moves to Scrubbing or Quarantined once fences have returned or time has expired. -/
  | localDrainComplete (ctx : CtxId)
  /-- SCRUB_COMPLETE (R162): Every home has finished scrubbing a context's regions, so the context enters Free and the teardown reaches DONE. -/
  | scrubComplete (ctx : CtxId)
  /-- HOME_READ (R140): A read arrives at its home and is answered with the line's last applied value, or poisoned per Table 5.6. -/
  | homeRead (reader : Reader) (addr : PAddr) (len : Nat)
  /-- HOME_WRITE (R148): A write arrives at its home and is applied line by line; a partial write to a poisoned line is discarded and raises a fault. -/
  | homeWrite (writer : Writer) (addr : PAddr) (data : List Byte) (poison : Bool)
  /-- HOME_ATOMIC (R144): An atomic operation arrives at its home and is applied as one access, or answered as a poisoned read. -/
  | homeAtomic (reader : Reader) (op : AtomicOp) (addr : PAddr) (operand compare : W64) (wantOld : Bool)
  /-- PATROL_SCRUB_READ (R164): The patrol reads the next line of a stack and writes back a corrected line unless a newer write arrived. -/
  | patrolScrubRead (stack : StackIx) (line : Nat) (corrected : Nat) (uncorrectable writtenSince : Bool)
  /-- REFRESH_RATE_FALL (R150): A stack's modelled temperature has stayed 2 °C below a threshold for 100 ms, so its refresh rate falls. -/
  | refreshRateFall (stack : StackIx)
  /-- LANE_REMAP_APPLY (R151): At the next refresh window an HBM data lane remap to a redundant lane takes effect. -/
  | laneRemapApply (stack : StackIx) (pc : Fin 64)
  /-- PAGE_COPY_COMPLETE (R153): The copy of a retiring page ends, so the retirement map entry is written and dual-write turns off. -/
  | pageCopyComplete (stack : StackIx) (page : BitVec 20)
  /-- HBM_MAP_CTRL_WRITE (R136): A write to the RWL interleave_gib field sets the interleave share, with values above 47 written as 47. -/
  | hbmMapCtrlWrite (agent : Agent) (value : Nat)
  /-- RING_LOCK_LOSS (R207): A ring's tracking error exceeds ±20 GHz for 5 µs, so the ring releases and searches in service. -/
  | ringLockLoss (ring : RingId)
  /-- RESONANCE_TONE_MEASURED (R210): The 2 ms tone measurement at a resonance ends, so the ring accepts the lock or counts a wrong lock and continues the search. -/
  | resonanceToneMeasured (ring : RingId) (tone : ToneReading)
  /-- RING_SEARCH_TIMEOUT (R210): A ring has not locked 20 ms after its search began, so the search has failed. -/
  | ringSearchTimeout (ring : RingId) (light : Bool)
  /-- DROP_RING_RESEARCH (R210): Every 100 ms a drop ring whose search failed for want of light searches again. -/
  | dropRingResearch (ring : RingId)
  /-- RING_TONE_RECHECK (R211): Every 10 ms a locked ring remeasures its tones and releases after two failing measurements. -/
  | ringToneRecheck (ring : RingId) (tone : ToneReading)
  /-- HEATER_SEGMENT_FAULT (R212): A heater segment's current is out of range for 20 updates, so it is made permanent and the next segment replaces it. -/
  | heaterSegmentFault (ring : RingId)
  /-- FF_WORD_PUBLISH (R214): Every 1 µs a compute die beside engines publishes its power word to its engine sites. -/
  | ffWordPublish (die : Die) (power : BitVec 16)
  /-- FF_WORD_RECEIVE (R215): An engine takes a feed-forward word into its ring heater commands, or treats it as stale. -/
  | ffWordReceive (engine : EngineIx) (word : W32)
  /-- FF_FEED_STALE (R216): No feed word arrives for 4 µs, so the engine holds the last value and the latch limits that die's power steps. -/
  | ffFeedStale (engine : EngineIx) (die : Die)
  /-- FF_FEED_RECOVERED (R216): After 1 ms of good feed words the ramp limit is lifted. -/
  | ffFeedRecovered (engine : EngineIx) (die : Die)
  /-- STATUS_MESSAGE_SEND (R223): Every 10 ms a receiver sends STATUS with each lane's margin, slot and uncorrectable count. -/
  | statusMessageSend (link : LinkIx) (margins : List Int)
  /-- STATUS_MESSAGE_RECEIVE (R223): An engine receives STATUS and attributes margin conditions to lasers or to lanes. -/
  | statusMessageReceive (link : LinkIx) (msg : OptStatus)
  /-- LASER_FADE_THRESHOLD (R224): A laser meets a scheduled or urgent condition of Table 7.4, so a spare slot is chosen and a migration is scheduled. -/
  | laserFadeThreshold (engine : EngineIx) (laser : LaserIx) (cls : FadeClass)
  /-- MIGRATION_BEGIN (R225): A migration begins once other tuning work ends or, if urgent, at once, tuning a spare laser if needed. -/
  | migrationBegin (engine : EngineIx) (laser : LaserIx)
  /-- TUNABLE_LASER_TUNED (R203): A tunable laser reaches its slot with its tone confirmed, so the ledger entry is written and lanes are duplicated and offered. -/
  | tunableLaserTuned (engine : EngineIx) (laser : LaserIx) (freqErrGHz : Int) (toneOk : Bool)
  /-- MIG_OFFER_RECEIVE (R226): A MIG_OFFER arrives, so the far end locks its drop ring on the new slot and compares codewords. -/
  | migOfferReceive (link : LinkIx) (lane : LaneIx) (oldSlot newSlot : SlotIx) (ok : Bool)
  /-- MIGRATION_COMPARE_COMPLETE (R226): The 4,096-codeword comparison ends, so the receiver switches at flow unit q and returns MIG_DONE, or refuses. -/
  | migrationCompareComplete (link : LinkIx) (lane : LaneIx) (pairs : List (Codeword × Codeword)) (newMargin oldMargin : Int) (urgent : Bool)
  /-- MIG_DONE_RECEIVE (R225): MIG_DONE arrives, so the old or new ring on that fiber parks, and the laser is retired once every fiber has answered. -/
  | migDoneReceive (link : LinkIx) (lane : LaneIx) (newSlot : SlotIx) (accept : Bool) (q : W32) (ok : Bool)
  /-- MIG_OFFER_TIMEOUT (R227): No MIG_DONE arrives 100 ms after an offer, so the offer is resent up to twice, then duplication continues. -/
  | migOfferTimeout (link : LinkIx) (lane : LaneIx)
  /-- MIGRATION_TIMEOUT (R225): 1 s (scheduled) or 100 ms (urgent) after begin, the laser is turned off and padlocked. -/
  | migrationTimeout (engine : EngineIx) (laser : LaserIx)
  /-- LASER_FAILURE (R229): A laser fails under Table 7.4, so its lanes move without duplication and the laser is retired at once. -/
  | laserFailure (engine : EngineIx) (laser : LaserIx)
  /-- LANE_REQ_RECEIVE (R231): A LANE_REQ arrives, so the transmitter moves the lane or answers with a refusing MIG_DONE. -/
  | laneReqReceive (link : LinkIx) (lane : LaneIx) (ok : Bool)
  /-- MARGIN_TEST_COMPLETE (R221): A link's margin test ends, so failing lanes are substituted or dropped, the result is published and the link is handed over. -/
  | marginTestComplete (link : LinkIx) (tx rx : List LaneMargin)
  /-- FIBER_DARK (R234): 12 or more receive lanes of a fiber have been dark for 1 s, so the fiber is permanent and F8 in spare mode is opened. -/
  | fiberDark (engine : EngineIx) (fiber : FiberIx) (darkLanes : Nat) (spareLight : Bool)
  /-- ATTENUATOR_SHUT (R235): All receive lanes of a pair lose light for 10 µs, so the transmit attenuator shuts. -/
  | attenuatorShut (engine : EngineIx) (fiber : FiberIx)
  /-- ATTENUATOR_PROBE (R235): Every 1 s a shut fiber sends a 2 ms probe of attenuated light. -/
  | attenuatorProbe (engine : EngineIx) (fiber : FiberIx)
  /-- FIBER_LIGHT_RETURN (R235): Light returns on a shut fiber's receive lanes, so the attenuator reopens within 1 ms. -/
  | fiberLightReturn (engine : EngineIx) (fiber : FiberIx)
  /-- CARTRIDGE_PRESENCE_LOSS (R236): A cartridge contact is open for 100 µs outside service hold, so its lasers turn off, its links go down and an uncorrected fault is raised. -/
  | cartridgePresenceLoss (cart : Fin 2)
  /-- CARTRIDGE_BLOCK_OVERTEMP (R400): A laser block stays above 55 °C for 1 s, so its lasers turn off and a THERMAL record is raised. -/
  | cartridgeBlockOvertemp (cart : Fin 2)
  /-- FLOW_UNIT_RECEIVE (R245): A flow unit arrives and is checked against the expected prefix, so it is accepted or discarded and its header fields are taken. -/
  | flowUnitReceive (link : LinkIx) (unit : FlowUnit) (tagOk : Bool)
  /-- NAK_RECEIVE (R247): A NAK arrives, so the sender acknowledges below e and replays from e, or ignores the NAK; a ninth NAK starts a full retrain. -/
  | nakReceive (link : LinkIx) (seq : BitVec 12) (withinRtt : Bool)
  /-- NAK_RESEND_TIMEOUT (R246): Unit e is not accepted 1.5 µs after the last NAK, so NAK(e) is sent again. -/
  | nakResendTimeout (link : LinkIx)
  /-- ACK_TIMER (R249): 200 ns after the first unacknowledged acceptance, the receiver sends a cumulative acknowledgement. -/
  | ackTimer (link : LinkIx)
  /-- NO_ACCEPT_TIMEOUT (R255): A sender has accepted no unit for 1 µs, so it treats every VC as XOFF. -/
  | noAcceptTimeout (link : LinkIx)
  /-- ENCRYPTED_KEEPALIVE (R275): Under encryption an end idle for 500 ns sends an empty VC 0 data unit carrying its fields. -/
  | encryptedKeepalive (link : LinkIx)
  /-- LINK_IDLE_TIMEOUT (R263): No unit, or no data unit while NAKs are outstanding, is accepted for 10 µs, so a full retrain starts. -/
  | linkIdleTimeout (link : LinkIx)
  /-- LINK_WIDTH_CHANGE (R257): A lane is to be added or dropped, so a short retrain starts. -/
  | linkWidthChange (link : LinkIx) (txMask rxMask : BitVec 16)
  /-- RETRAIN_MESSAGE (R263): A RETRAIN control message arrives, so the peer stops data units and joins or starts the retrain. -/
  | retrainMessage (link : LinkIx) (kind : RetrainKind) (peer : ModId) (peerLink : Byte) (round : Nat) (ok : Bool)
  /-- TRAIN_MESSAGE (R259): A TRAIN message arrives, so masks, slots, sequences and round trip are exchanged and the leader is fixed. -/
  | trainMessage (link : LinkIx) (msg : TrainMsg)
  /-- OPEN_MESSAGE (R260): The follower receives OPEN and returns OPEN_ECHO with its own computation. -/
  | openMessage (link : LinkIx) (msg : OpenMsg)
  /-- OPEN_ECHO_MESSAGE (R260): OPEN_ECHO arrives, so both ends enter ACTIVE and resume or restart their sequences, or the round disagrees. -/
  | openEchoMessage (link : LinkIx) (msg : OpenMsg)
  /-- TRAIN_ROUND_TIMEOUT (R260): OPEN or OPEN_ECHO is missing after 100 µs, so the round disagrees; three disagreeing rounds fail the training. -/
  | trainRoundTimeout (link : LinkIx)
  /-- TRAIN_REPEAT (R262): A link in WAITING or training resends TRAIN every 100 µs or 1 ms. -/
  | trainRepeat (link : LinkIx)
  /-- RETRAIN_LIMIT_MISS (R264): A retrain misses its time limit and fails, so a full retrain follows or the link goes DOWN. -/
  | retrainLimitMiss (link : LinkIx)
  /-- ACTIVE_STABLE_TIMER (R266): 1 s in ACTIVE after a successful retrain clears the failure count. -/
  | activeStableTimer (link : LinkIx)
  /-- LINK_LOST_RECEIVE (R267): A peer's LINK_LOST arrives on the twin, so the down link's unaccepted units are sent on the twin. -/
  | linkLostReceive (link : LinkIx) (expect : BitVec 12)
  /-- LINK_LOST_TIMEOUT (R267): The peer's LINK_LOST has not arrived within 1 ms, so the traffic is held. -/
  | linkLostTimeout (link : LinkIx)
  /-- DOWN_TRAINING_ATTEMPT (R270): Every 1 s a DOWN link with light present attempts training. -/
  | downTrainingAttempt (link : LinkIx) (light : Bool)
  /-- KEY_SLOT_SWITCH (R273): After the peer confirms a key installation, a sender switches key slot and later erases the old slot. -/
  | keySlotSwitch (link : LinkIx) (tx : Bool)
  /-- KEY_USE_THRESHOLD (R277): A key reaches 2^47 units, so new keys are requested; at 2^48 without a switch the link goes DOWN. -/
  | keyUseThreshold (link : LinkIx)
  /-- UNIT_FORWARD (R290): A data unit for another module is forwarded with hops incremented, or discarded with a route fault. -/
  | unitForward (arrival : LinkIx) (msg : DomMsg)
  /-- READ_MESSAGE (R294): A READ arrives at the target, is checked by Table 9.4 and answered with READ_DATA. -/
  | readMessage (link : LinkIx) (msg : DomMsg)
  /-- READ_DATA_MESSAGE (R294): READ_DATA lands in the requester's reserved space, or is discarded if its generation is stale. -/
  | readDataMessage (link : LinkIx) (msg : DomMsg)
  /-- WRITE_MESSAGE (R294): A WRITE arrives at the target, is checked and applied, and is answered with WRITE_ACK. -/
  | writeMessage (link : LinkIx) (msg : DomMsg)
  /-- WRITE_ACK_MESSAGE (R294): WRITE_ACK arrives at the requester and frees the write slot, or maps a bad status to a fault. -/
  | writeAckMessage (link : LinkIx) (msg : DomMsg)
  /-- ATOMIC_MESSAGE (R294): An ATOMIC arrives at the target, is checked and applied, and is answered with ATOMIC_RESP. -/
  | atomicMessage (link : LinkIx) (msg : DomMsg)
  /-- ATOMIC_RESP_MESSAGE (R294): ATOMIC_RESP arrives at the requester with the old value or a status. -/
  | atomicRespMessage (link : LinkIx) (msg : DomMsg)
  /-- RED_OPERAND_MESSAGE (R295): A reduction operand is taken by the reduction agent with space for its result held. -/
  | redOperandMessage (link : LinkIx) (msg : DomMsg)
  /-- RED_RESULT_MESSAGE (R295): A reduction result lands in space reserved by its consumer. -/
  | redResultMessage (link : LinkIx) (msg : DomMsg)
  /-- FENCE_MESSAGE (R296): A FENCE arrives, so the target records the source context's generation and discards stragglers. -/
  | fenceMessage (link : LinkIx) (msg : DomMsg)
  /-- FENCE_REQUESTS_ANSWERED (R296): Every old request accepted before a fence is answered, so FENCE_DONE is returned. -/
  | fenceRequestsAnswered (src : ModId) (ctx : CtxId)
  /-- FENCE_DONE_MESSAGE (R125): FENCE_DONE returns to the tearing-down module and counts a returned fence. -/
  | fenceDoneMessage (link : LinkIx) (msg : DomMsg)
  /-- BAR2_READ (R310): A host read through BAR2 is translated by its segment and completed with data, all ones or EP. -/
  | bar2Read (port : HostPort) (offset len : Nat)
  /-- BAR2_WRITE (R310): A host write through BAR2 is translated, checked and applied, or discarded with a fault record or a count. -/
  | bar2Write (port : HostPort) (offset : Nat) (data : List Byte) (ep : Bool)
  /-- BAR2_ATOMIC (R310): A host AtomicOp through BAR2 is applied at its home or refused. -/
  | bar2Atomic (port : HostPort) (op : AtomicOp) (offset bytes : Nat) (operand compare : W64)
  /-- BAR0_WINDOW_WRITE (R308): A host write to a BAR0 shelf SRAM window is applied by the dispatcher or keeper, or discarded and counted. -/
  | bar0WindowWrite (port : HostPort) (offset : Nat) (data : List Byte)
  /-- PERST_ASSERT (R314): One port's PERST is asserted, so only that port's controller and link reset and go down, or in single mode the module resets. -/
  | perstAssert (port : HostPort)
  /-- PERST_PAIR_ASSERT (R314): Both PERST inputs are low in the same 11 samples, so a whole-module reset follows. -/
  | perstPairAssert
  /-- RESET_N_ASSERT (R466): RESET_N is low for 11 consecutive samples, so a whole-module reset or restart of the start follows. -/
  | resetNAssert
  /-- PORT_DOWN (R315): A port enters DL_Down, so writes it received drain and, if it was active, the module fails over to the other port. -/
  | portDown (port : HostPort)
  /-- PORT_UP (R315): A port trains again and enumerates as standby. -/
  | portUp (port : HostPort) (rate width : Nat)
  /-- VECTOR_DELIVERY (R313): A held MSI-X vector is sent once when its port can deliver it. -/
  | vectorDelivery (port : HostPort) (vec : Byte)
  /-- MCTP_CONTROL_MESSAGE (R317): An MCTP control message such as Set Endpoint ID is answered on its binding. -/
  | mctpControlMessage (binding : Fin 3) (setEid : Option Byte)
  /-- SMBUS_LOW_TIMEOUT (R467): An SMBus line is held low for 35 ms, so the module releases SMB_DAT, resets its interface and discards the packet. -/
  | smbusLowTimeout
  /-- PLDM_BASE_REQUEST (R319): A PLDM base discovery, version or terminus request is answered. -/
  | pldmBaseRequest (binding : Fin 3) (eid : Byte) (command : Byte)
  /-- PLDM_SENSOR_REQUEST (R320): A PLDM platform request reads a sensor of Table 10.7 or the PDR repository. -/
  | pldmSensorRequest (binding : Fin 3) (eid : Byte) (sensor : Option (BitVec 16))
  /-- PLDM_FRU_REQUEST (R319): A PLDM FRU data request returns serial numbers. -/
  | pldmFruRequest (binding : Fin 3) (eid : Byte)
  /-- PLDM_REQUEST_UPDATE (R321): RequestUpdate starts a firmware update, or is answered ALREADY_IN_UPDATE_MODE. -/
  | pldmRequestUpdate (binding : Fin 3) (eid : Byte)
  /-- PLDM_FIRMWARE_DATA (R321): Data returned for RequestFirmwareData is written into the inactive image slot. -/
  | pldmFirmwareData (binding : Fin 3) (eid : Byte) (offset : Nat) (data : List Byte)
  /-- PLDM_ACTIVATE_FIRMWARE (R321): ActivateFirmware writes the boot records for trial and reports that a reset is needed. -/
  | pldmActivateFirmware (binding : Fin 3) (eid : Byte)
  /-- PLDM_CANCEL_UPDATE (R321): CancelUpdate ends the update in progress. -/
  | pldmCancelUpdate (binding : Fin 3) (eid : Byte)
  /-- UPDATE_IDLE_TIMEOUT (R361): An update has had no command for 60 s, so it is abandoned with its slot left invalid. -/
  | updateIdleTimeout
  /-- TELEMETRY_BOUNDARY (R324): The timestamp counter reaches an interval multiple, so counters latch and restart, records are written and vector 67 is raised. -/
  | telemetryBoundary
  /-- TEL_INTERVAL_WRITE (R323): A write to TEL_INTERVAL is clamped and takes effect at the next boundary. -/
  | telIntervalWrite (agent : Agent) (us : W32)
  /-- TEL_TIMESTAMP_READ (R322): A 32-bit read of the low timestamp word latches the upper word for the next read. -/
  | telTimestampRead (agent : Agent) (bytes : Nat) (upper : Bool)
  /-- RC_REGISTER_READ (R325): A read of an RC register returns the latched copy of the last interval and clears it. -/
  | rcRegisterRead (agent : Agent) (reg : Reg)
  /-- REGISTER_WRITE (R10): A write to a register without a row of its own acts by its access code, with RWL writes ignored after the lock. -/
  | registerWrite (agent : Agent) (reg : Reg) (value : W64) (bytes : Nat)
  /-- MAILBOX_WRITE_WHILE_BUSY (R350): A doorbell or register write to a mailbox in ACCEPTED or RUNNING is refused and marked in DBL_MBX_LOST. -/
  | mailboxWriteWhileBusy (mbx : MbxIx)
  /-- FWR_HEAD_WRITE (R352): The host advances DBL_FWR_HEAD, freeing response slots so the keeper may read further firmware ring entries. -/
  | fwrHeadWrite (port : HostPort) (count : W32)
  /-- RESERVED_COMMAND_CODE (R355): A firmware command with a reserved code ends BAD_CODE. -/
  | reservedCommandCode (h : CmdHdr) (code : Byte)
  /-- CMD_IDENTIFY (R355): Returns part number, serial numbers, image versions, boot count and module ID. -/
  | cmdIdentify (h : CmdHdr)
  /-- CMD_STATUS_ACK (R344): Clears the failover and capacity_changed bits of the status word. -/
  | cmdStatusAck (h : CmdHdr) (failover capacityChanged : Bool)
  /-- CMD_CANCEL (R358): Requests that a cancellable long operation stop at its next safe point, or ends STATE. -/
  | cmdCancel (h : CmdHdr) (mbx : MbxIx)
  /-- CANCEL_SAFE_POINT (R358): A cancelled operation reaches its safe point and ends CANCELLED with its partial results. -/
  | cancelSafePoint (mbx : MbxIx) (done : Nat)
  /-- CMD_FM_NAME (R318): Names the MCTP endpoint and binding of the fabric manager. -/
  | cmdFmName (h : CmdHdr) (binding : Fin 3) (eid : Byte)
  /-- CMD_PORT_ROLE (R315): Sets which host port is active. -/
  | cmdPortRole (h : CmdHdr) (active : HostPort)
  /-- CMD_RESET (R359): Answers DONE, sets RESETTING and starts a whole-module reset within 1 ms. -/
  | cmdReset (h : CmdHdr) (cause : W32)
  /-- CMD_SERVICE_HOLD_ENTER (R355): Enters service hold once every context is Free, darkening the optics. -/
  | cmdServiceHoldEnter (h : CmdHdr)
  /-- CMD_SERVICE_HOLD_LEAVE (R452): Leaves service hold, restarting optics and link training. -/
  | cmdServiceHoldLeave (h : CmdHdr)
  /-- CMD_CTX_CREATE (R101): Creates a context with regions, seed, drain time and access, returning its ID and generation. -/
  | cmdCtxCreate (h : CmdHdr) (regions : List Region) (seed : W64) (drainMs : Nat) (domain : Bool) (cores : BitVec 24)
  /-- CMD_CTX_TEARDOWN (R125): Starts the teardown of a context in the order of Table 4.11. -/
  | cmdCtxTeardown (h : CmdHdr) (ctx : BitVec 16)
  /-- CMD_CTX_QUERY (R355): Returns a context's state, generation, regions and rings. -/
  | cmdCtxQuery (h : CmdHdr) (ctx : BitVec 16)
  /-- CMD_CTX_RELEASE (R298): The fabric manager releases a quarantined context, counting unreturned fences as stragglers. -/
  | cmdCtxRelease (h : CmdHdr) (ctx : BitVec 16)
  /-- CMD_RING_CREATE (R103): Creates a command ring bound to a context, dispatcher and owner. -/
  | cmdRingCreate (h : CmdHdr) (ctx : BitVec 16) (die : BaseDie) (entries : Nat) (owner : RingOwner)
  /-- CMD_RING_DELETE (R355): Deletes a ring, or ends STATE while an entry is read and not complete. -/
  | cmdRingDelete (h : CmdHdr) (die : BaseDie) (ring : RingIx)
  /-- CMD_BAR2_MAP (R309): Maps or invalidates a BAR2 segment for a context. -/
  | cmdBar2Map (h : CmdHdr) (segment : Fin 64) (ctx : BitVec 16) (addr : Option PAddr)
  /-- CMD_APPCORE_START (R61): Writes a core's boot-information block and releases the application core from reset. -/
  | cmdAppcoreStart (h : CmdHdr) (core : CoreIx) (image : PAddr) (len : Nat) (ctxs : List CtxId)
  /-- CMD_APPCORE_STOP (R61): Stops an application core. -/
  | cmdAppcoreStop (h : CmdHdr) (core : CoreIx)
  /-- CMD_IMAGE_INSTALL (R477): Checks, verifies and installs a micro-image into all six image regions. -/
  | cmdImageInstall (h : CmdHdr) (ctx : BitVec 16) (addr : PAddr) (len : Nat) (ownerKey : List Byte)
  /-- CMD_IMAGE_REMOVE (R55): Removes an installed image unless a start token or resident operator names it. -/
  | cmdImageRemove (h : CmdHdr) (image : W32)
  /-- CMD_IMAGE_LIST (R355): Returns up to four installed image IDs. -/
  | cmdImageList (h : CmdHdr) (first : Nat)
  /-- CMD_DOMAIN_ASSIGN (R282): Assigns the module ID and domain size once per reset. -/
  | cmdDomainAssign (h : CmdHdr) (id : ModId) (size : Nat)
  /-- CMD_WINDOW_WRITE (R285): Checks and installs a domain window entry in all six copies. -/
  | cmdWindowWrite (h : CmdHdr) (index : BitVec 16) (entry : BitVec 256)
  /-- CMD_WINDOW_REMOVE (R285): Removes a domain window entry. -/
  | cmdWindowRemove (h : CmdHdr) (index : BitVec 16)
  /-- CMD_LINKSET_WRITE (R288): Writes a link set. -/
  | cmdLinksetWrite (h : CmdHdr) (set : Byte) (members : List LinkIx)
  /-- CMD_FWD_WRITE (R288): Writes a forwarding entry. -/
  | cmdFwdWrite (h : CmdHdr) (module : ModId) (set : Byte) (valid : Bool)
  /-- CMD_GROUP_WRITE (R295): Writes a collective group's members and rank. -/
  | cmdGroupWrite (h : CmdHdr) (group : Fin 64) (members : List ModId) (rank : Byte)
  /-- CMD_TWIN_SET (R292): Names or clears a link's twin. -/
  | cmdTwinSet (h : CmdHdr) (link : LinkIx) (twin : Option LinkIx)
  /-- CMD_F8_MODE (R233): Sets an engine's F8 mode and named peer. -/
  | cmdF8Mode (h : CmdHdr) (engine : EngineIx) (spare : Bool) (peer : ModId)
  /-- CMD_LINK_KEY (R436): Installs a link key into the idle slot within an SPDM session. -/
  | cmdLinkKey (h : CmdHdr) (link : LinkIx) (tx : Bool) (key : BitVec 256) (salt keyId : W32) (inSession : Bool)
  /-- CMD_LINK_RELEASE (R269): Releases a held link, discarding its units and ending its requests unreachable. -/
  | cmdLinkRelease (h : CmdHdr) (link : LinkIx)
  /-- CMD_PEER_RESET_MARK (R299): Marks a peer reset, completing its accesses with 0x05 and forgetting its generation records. -/
  | cmdPeerResetMark (h : CmdHdr) (module : ModId)
  /-- CMD_PEER_RESET_CLEAR (R299): Clears a peer's reset mark. -/
  | cmdPeerResetClear (h : CmdHdr) (module : ModId)
  /-- CMD_FW_WRITE (R360): Writes a firmware package into the inactive image slot. -/
  | cmdFwWrite (h : CmdHdr) (ctx : BitVec 16) (addr : PAddr) (len : Nat)
  /-- CMD_FW_VERIFY (R428): Verifies the inactive slot's package. -/
  | cmdFwVerify (h : CmdHdr)
  /-- CMD_FW_ACTIVATE (R360): Writes the boot records with the new image preferred on trial. -/
  | cmdFwActivate (h : CmdHdr)
  /-- CMD_FW_INFO (R355): Returns versions, security versions and trial state of both images. -/
  | cmdFwInfo (h : CmdHdr)
  /-- CMD_PROFILE_WRITE (R481): Checks and writes the deployment profile to both copies in both parts. -/
  | cmdProfileWrite (h : CmdHdr) (words : ProfileWords) (bytes : Nat)
  /-- CMD_PROFILE_READ (R481): Returns the deployment profile in the buffer. -/
  | cmdProfileRead (h : CmdHdr)
  /-- CMD_FAULT_READ (R388): Returns fault records of the log from a given sequence. -/
  | cmdFaultRead (h : CmdHdr) (seq : W32)
  /-- CMD_FAULT_N_CLEAR (R382): Releases FAULT_N, clears its status bits and pulses once if pulses were withheld. -/
  | cmdFaultNClear (h : CmdHdr)
  /-- CMD_LEDGER_READ (R355): Returns spare-ledger entries. -/
  | cmdLedgerRead (h : CmdHdr) (first : Nat)
  /-- CMD_DUMP_READ (R388): Copies a range of a dump slot into a context region. -/
  | cmdDumpRead (h : CmdHdr) (slot : Fin 2) (part : Fin 2) (offset len : Nat) (ctx : BitVec 16) (addr : PAddr)
  /-- CMD_DUMP_RELEASE (R388): Marks a dump slot released for background erase. -/
  | cmdDumpRelease (h : CmdHdr) (part : Fin 2) (slot : Fin 2)
  /-- CMD_SELFTEST (R445): Runs the self-test of one channel and reports pass or fail with measurements. -/
  | cmdSelftest (h : CmdHdr) (chan : Chan) (failed total : Nat) (permanent : Bool)
  /-- CMD_LINK_MARGIN (R221): Runs the margin test on a link in DOWN or WAITING. -/
  | cmdLinkMargin (h : CmdHdr) (link : LinkIx)
  /-- CMD_CAL_RUN (R420): Runs calibration of one quantity in service hold, committing items that pass. -/
  | cmdCalRun (h : CmdHdr) (quantity : CalQuantity) (engine : EngineIx) (items : List CalItem)
  /-- CMD_OWNER_KEY_PROGRAM (R431): Blows the owner key hash and marks the slot programmed. -/
  | cmdOwnerKeyProgram (h : CmdHdr) (key : List Byte)
  /-- CMD_OWNER_KEY_REVOKE (R431): Blows the revoked bit of owner_state on an owner-signed literal. -/
  | cmdOwnerKeyRevoke (h : CmdHdr) (literal : W32) (key : List Byte) (sig : BitVec 768)
  /-- CMD_VENDOR_DEBUG_OFF (R431): Blows vendor_debug_off on an owner-signed literal. -/
  | cmdVendorDebugOff (h : CmdHdr) (literal : W32) (key : List Byte) (sig : BitVec 768)
  /-- CMD_DEBUG_UNLOCK (R438): Stores an unlock token for the next start. -/
  | cmdDebugUnlock (h : CmdHdr) (token : DebugToken)
  /-- LATCH_HEARTBEAT (R332): Every 1 ms a latch sends its heartbeat and the keeper answers it. -/
  | latchHeartbeat (die : BaseDie)
  /-- LATCH_HEARTBEAT_TIMEOUT (R332): A latch's heartbeat is missing for 10 ms, so it is declared failed and the module resets. -/
  | latchHeartbeatTimeout (die : BaseDie)
  /-- KEEPER_ANSWER_TIMEOUT (R332): A latch has no answer for 10 ms, so it holds its power caps and keeps its loops running. -/
  | keeperAnswerTimeout (die : BaseDie)
  /-- WATCHDOG_EXPIRY (R333): The keeper watchdog goes 100 ms without service, so a whole-module reset starts. -/
  | watchdogExpiry
  /-- STATUS_HEARTBEAT_TICK (R344): Every 1 ms the keeper increments the status word heartbeat. -/
  | statusHeartbeatTick
  /-- LEDGER_COMMIT_COMPLETE (R337): A ledger entry's journal writes read back good in both parts, so the entry is committed. -/
  | ledgerCommitComplete (seq : BitVec 28) (readBackA readBackB : Bool)
  /-- FAULT_REPORT (R370): A unit reports a fault to its complex, which merges it into an open record or opens a new one and confirms the suspect. -/
  | faultReport (die : BaseDie) (report : Report)
  /-- FAULT_RECORD_ARRIVAL (R371): A record from a latch reaches the keeper, which merges it, assigns a sequence and queues it, or drops it. -/
  | faultRecordArrival (die : BaseDie) (suspect : Chan) (cause : Cause)
  /-- FAULT_RECORD_HANDLE (R373): The keeper takes the next queued record and carries out its action. -/
  | faultRecordHandle
  /-- FAULT_RECORD_CLOSE (R370): 10 ms after its action, or at the boundary, an open record closes. -/
  | faultRecordClose (die : BaseDie) (suspect : Chan) (cause : Cause)
  /-- WHOLE_MODULE_RESET (R383): A reset cause starts quiesce by the sequencer of every unit in Table 12.9. -/
  | wholeModuleReset (cause : ResetCause)
  /-- QUIESCE_COMPLETE (R384): All units acknowledge quiesce, so the reset takes effect and a new start follows. -/
  | quiesceComplete
  /-- QUIESCE_ESCALATION (R384): A unit has not acknowledged quiesce 200 ms after the reset began, so the sequencer cycles every rail but VRET. -/
  | quiesceEscalation (missed : List QUnit)
  /-- THERMAL_MODEL_STEP (R397): Every 100 µs each complex evaluates its partition, compares diodes and sets thermal, rate and band requests. -/
  | thermalModelStep (die : BaseDie) (nodes : List (Nat × Int)) (diodes : List (Nat × Int)) (stackReadouts : List (Nat × Int))
  /-- THERMAL_RESET_LIMIT (R400): A part stays at its reset temperature for 1 ms, so a FATAL THERMAL record forces a reset. -/
  | thermalResetLimit (part : Chan)
  /-- BAND_FALL_TIMER (R402): A hotspot has stayed 2 °C below a boundary for 100 ms, so its band falls. -/
  | bandFallTimer (part : Chan)
  /-- GOVERNOR_LOOP (R404): Every 1 µs a die's governor sets its effective throttle level from the highest request, including the rail and ramp limits. -/
  | governorLoop (die : Die) (powerMw : Nat)
  /-- POWER_CAP_STEP (R405): Every 100 µs the keeper compares input power with P_cap and raises or lowers the power-cap request. -/
  | powerCapStep (inputMw : Nat)
  /-- FAST_LIMIT_ASSERT (R407): The PS signals an overload, so every governor takes at least level 4 within 2 µs. -/
  | fastLimitAssert
  /-- FAST_LIMIT_RELEASE (R407): 100 µs after the condition clears, the fast limit ends. -/
  | fastLimitRelease
  /-- THROTTLE_N_ASSERT (R409): THROTTLE_N is asserted, so P_cap becomes 2,700 W and the sequencer requests level 4 on every governor. -/
  | throttleNAssert
  /-- THROTTLE_N_DEASSERT (R408): After 100 high samples THROTTLE_N deasserts, P_cap returns and the request falls. -/
  | throttleNDeassert
  /-- THROTTLE_HOLD_END (R409): 1 ms after assertion the sequencer's level-4 request ends, if the keeper has acted. -/
  | throttleHoldEnd
  /-- THROTTLE_N_LONG_HOLD (R409): After 1 s of continuous assertion the keeper writes a LOG event. -/
  | throttleNLongHold
  /-- PHASE_OVERCURRENT (R395): A phase exceeds 130 % of its rating for 1 µs, so it turns off and a trip is counted. -/
  | phaseOvercurrent (rail : Byte) (phase : Nat)
  /-- PHASE_RESTART (R395): 10 µs after an overcurrent trip the phase restarts. -/
  | phaseRestart (rail : Byte) (phase : Nat)
  /-- COOLANT_FLOW_CHECK (R398): The measured coolant rise exceeds 1.5 times the prediction for 1 s, so a low-flow LOG event is written. -/
  | coolantFlowCheck (inlet : Option Int) (outlet predicted10 : Int) (inputW : Nat)
  /-- SENSE_ELEMENT_COMPARE (R419): Every 1 ms a latch compares a phase's sense elements and replaces a divergent chosen element. -/
  | senseElementCompare (rail : Byte) (phase : Nat) (readings : List Nat)
  /-- SPDM_GET_VERSION (R433): Answers GET_VERSION with version 1.3. -/
  | spdmGetVersion (c : SpdmConn)
  /-- SPDM_GET_CAPABILITIES (R433): Answers GET_CAPABILITIES. -/
  | spdmGetCapabilities (c : SpdmConn)
  /-- SPDM_NEGOTIATE_ALGORITHMS (R433): Negotiates P-384, SHA-384, secp384r1 and AES-256-GCM. -/
  | spdmNegotiateAlgorithms (c : SpdmConn) (supported : Bool)
  /-- SPDM_GET_DIGESTS (R433): Returns the digest of certificate slot 0. -/
  | spdmGetDigests (c : SpdmConn)
  /-- SPDM_GET_CERTIFICATE (R433): Returns the slot 0 certificate chain. -/
  | spdmGetCertificate (c : SpdmConn) (slot : Nat)
  /-- SPDM_CHALLENGE (R433): Signs a challenge with the Alias key. -/
  | spdmChallenge (c : SpdmConn) (slot : Nat) (nonce : BitVec 256)
  /-- SPDM_GET_MEASUREMENTS (R434): Returns the requested measurements from one snapshot, signed on request. -/
  | spdmGetMeasurements (c : SpdmConn) (indices : List (Fin 9)) (signed : Bool) (nonce : BitVec 256)
  /-- SPDM_KEY_EXCHANGE (R433): Starts a secure session over MCTP, up to four in the module. -/
  | spdmKeyExchange (c : SpdmConn)
  /-- SPDM_FINISH (R433): Completes a session handshake. -/
  | spdmFinish (c : SpdmConn) (session : Nat) (verified : Bool)
  /-- SPDM_END_SESSION (R436): Ends a session, leaving installed link keys in place. -/
  | spdmEndSession (c : SpdmConn) (session : Nat)
  /-- SPDM_KEY_UPDATE (R433): Updates a session's keys. -/
  | spdmKeyUpdate (c : SpdmConn) (session : Nat)
  /-- SPDM_HEARTBEAT (R433): Answers a session HEARTBEAT. -/
  | spdmHeartbeat (c : SpdmConn) (session : Nat)
  /-- SPDM_UNSUPPORTED_REQUEST (R433): Answers an unsupported SPDM request with ERROR UnsupportedRequest, or ERROR Unspecified when uds is absent. -/
  | spdmUnsupportedRequest (c : SpdmConn) (code : Byte)
  /-- CONSOLE_LINE (R442): A console command line ends at CR or LF and is parsed, or discarded with ERR overrun. -/
  | consoleLine (chars : List Byte) (cmd : ConsoleCmd) (overrun : Bool)
  /-- CONSOLE_CTRL_C (R442): Ctrl-C during a console command issues CMD_CANCEL for it. -/
  | consoleCtrlC
  /-- UART_BREAK (R467): A break on UART_RX discards characters until the next valid character. -/
  | uartBreak
  /-- CONSOLE_TEST (R445): A console test command issues CMD_SELFTEST for one channel and prints the measurements. -/
  | consoleTest (chan : Chan) (hold linkState anyState : Bool) (failed total : Nat) (permanent : Bool)
  /-- CONSOLE_READ_RAIL (R448): read rail or read vref prints the rail voltage and power or the CAL_VREF reading. -/
  | consoleReadRail (rail : Option Byte) (mv mw : Nat)
  /-- FLASH_FORMAT (R454): In service hold, erases and formats a flash part. -/
  | flashFormat (part : Fin 2)
  /-- ROM_INFO (R450): In FAILED, prints each slot's failing verification step, fw_svn, counter and boot record. -/
  | romInfo
  /-- ROM_LOAD (R450): In FAILED, receives a package by XMODEM into a slot and verifies it. -/
  | romLoad (part : Fin 2) (image : List Byte) (crcOk : Bool)
  /-- ROM_BOOT (R450): In FAILED, starts the module again from the boot records. -/
  | romBoot
  /-- ESCALATION_RAIL_REAPPLY (R384): 100 ms after an escalation turned the rails off, the sequencer re-applies every rail but VRET in the order of Table 13.3. -/
  | escalationRailReapply
  /-- LONG_OPERATION_END (R356): A running long operation (image install, service hold enter or leave, firmware write or verify, dump read, self-test, link margin, calibration run) finishes its work, ends DONE or FAILED, publishes its last progress and raises vector 64. -/
  | longOperationEnd (mbx : MbxIx)
  /-- HBM_EYE_TEST_COMPLETE (R366): The eye test of a pseudo-channel's lanes, started when bus CRC retries reach 32 per ms, ends and declares a lane below its training limit permanent. -/
  | hbmEyeTestComplete (stack : StackIx) (pc : Fin 64) (failed : Option (Fin 128))
  /-- CARTRIDGE_PRESENCE_GAIN (R236): A cartridge's presence contact closes when a cartridge is inserted, so the cartridge is present but stays dark until hold leave or the next start. -/
  | cartridgePresenceGain (cart : Fin 2) (serial : W64) (wordsOk : Bool)
  /-- PERST_DEASSERT (R466): A port's PERST input reads high for 11 consecutive samples, so that port's controller leaves reset and begins training. -/
  | perstDeassert (port : HostPort)
  /-- APPCORE_MEMORY_ACCESS (R58): An application core issues a load or store, which is checked against its contexts and the map, and is refused with a context-isolation fault or sent to its home. -/
  | appcoreMemoryAccess (core : CoreIx) (addr : PAddr) (len : Nat) (write : Option (List Byte))
  /-- PCIE_CONFIG_WRITE (R303): A host configuration write to a port changes its D-state, Resizable BAR size or MSI-X masking. -/
  | pcieConfigWrite (port : HostPort) (dstate3 : Option Bool) (barGiBLog : Option Nat) (vecMask : Option (Byte × Bool))
  /-- DOE_DISCOVERY_REQUEST (R303): A DOE Discovery object arrives on a port's DOE mailbox and is answered with the supported object types. -/
  | doeDiscoveryRequest (port : HostPort) (index : Byte)
  /-- MCTP_UNSUPPORTED_TYPE (R317): An MCTP message of a type other than 0x00, 0x01, 0x05 or 0x7E arrives and is discarded. -/
  | mctpUnsupportedType (binding : Fin 3) (type : Byte)
  /-- MBX_HEADER_ABSENT (R349): The keeper takes a mailbox doorbell whose MBX_CMD halves disagree, so the command ends FAILED with HEADER_ABSENT and a fault is raised. -/
  | mbxHeaderAbsent (mbx : MbxIx)
  /-- FAULT_N_PULSE_END (R381): A FAULT_N pulse and its 2 µs of high level end, so the pin follows FLT_POLICY and records that arrived during the pulse produce one further pulse. -/
  | faultNPulseEnd
  /-- DUMP_SLOT_ERASE_COMPLETE (R388): The background erase of a released dump slot ends, so the slot reads erased and can take the next dump copy. -/
  | dumpSlotEraseComplete (part : Fin 2) (slot : Fin 2)
  /-- UCIE_SIDEBAND_TRAINED (R197): An engine site's UCIe sideband finishes training, so the base die sends its capability descriptor. -/
  | ucieSidebandTrained (engine : EngineIx)
  /-- LINK_WAIT_REPORT_TIMEOUT (R262): A link not ACTIVE 1.0 s after handover at start is reported as waiting, which counts in MBX_START and makes the module DEGRADED. -/
  | linkWaitReportTimeout (link : LinkIx)
deriving DecidableEq, Repr

end Sys2Proof
end

