-- ==== Sys2Proof/Decode.lean ====
section
/-! DEFINITION. The commands that words spell: the opcode table gives no row any bits, so no word spells a command. -/

namespace Sys2Proof

/-- No row of the opcode table has bits (its `fields` lists are empty), so no word spells a command. Log: DESIGN CHOICE 1. -/
def decodeTableWord (_nbits _w : Nat) : Option Instr := none

end Sys2Proof
end

