-- ==== Sys2Proof/Machine/Store.lean ====
section
/-! DEFINITION. Sparse storage in one canonical form: keys strictly rising, no entry equal to the default that an
unlisted key reads as. Memory and every indexed family of units of the module are held this way. -/

namespace Sys2Proof.Machine

/-- A sparse family: its listed entries by rising key. -/
abbrev Store (α : Type) := List (Nat × α)

/-- What key `k` holds; `d` is what an unlisted key reads as. -/
def Store.get {α : Type} (d : α) : Store α → Nat → α
  | [], _ => d
  | (j, v) :: m, k => if j = k then v else Store.get d m k

/-- `m` with key `k` unlisted. -/
def Store.drop {α : Type} (m : Store α) (k : Nat) : Store α := m.filter fun e => decide (e.1 ≠ k)

/-- `m` with `v` listed at key `k`. -/
def Store.insert {α : Type} : Store α → Nat → α → Store α
  | [], k, v => [(k, v)]
  | (j, w) :: m, k, v =>
    if j < k then (j, w) :: Store.insert m k v else if j = k then (k, v) :: m else (k, v) :: (j, w) :: m

/-- `m` with `v` at key `k`, in canonical form again: writing the default removes the entry. -/
def Store.put {α : Type} [DecidableEq α] (d : α) (m : Store α) (k : Nat) (v : α) : Store α :=
  if v = d then Store.drop m k else Store.insert m k v

/-- Every key of `m` is above `k`. -/
def Store.above {α : Type} (k : Nat) (m : Store α) : Bool :=
  m.all fun e => decide (k < e.1)

/-- The canonical form. -/
def Store.wf {α : Type} [DecidableEq α] (d : α) : Store α → Bool
  | [] => true
  | (k, v) :: m => Store.above k m && (decide (v ≠ d) && Store.wf d m)

/-- Change key `k` by `f`. -/
def Store.modify {α : Type} [DecidableEq α] (d : α) (m : Store α) (k : Nat) (f : α → α) : Store α :=
  Store.put d m k (f (Store.get d m k))

end Sys2Proof.Machine
end

