-- ==== Sys2Proof/Machine/State/Compute.lean ====
section
/-! DEFINITION. State of the compute dies (chapter 2): tumblers, wards, remap tables, installed micro-images and
application cores. -/

namespace Sys2Proof.Machine

/-- An entry of a micro-image's step table (R31). Log: DESIGN CHOICE 22. -/
structure StepDesc where
  /-- Beats consumed from input queues 0–3. -/
  needs : List Nat
  /-- Beats produced into output queues 0–3. -/
  makes : List Nat
  /-- Load groups that must have no load outstanding. -/
  groups : List Nat
  writeSlots : Nat
  readSlots : Nat
  /-- SRAM address of the staging area that its popped beats are copied into (R33). -/
  staging : Nat
deriving DecidableEq, Repr

/-- An output queue bound to one destination input queue, with its allocation in beats (R36). -/
structure Binding where
  outQueue : Nat
  dest : TumId
  inQueue : Nat
  alloc : Nat
deriving DecidableEq, Repr

/-- A sender bound to an input queue, as the binding table gives it (R36, R40). -/
structure Sender where
  inQueue : Nat
  src : TumId
  alloc : Nat
deriving DecidableEq, Repr

/-- What a micro-image's tables say for one tumbler of a placement: its step table and its part of the binding table. -/
structure Program where
  steps : List StepDesc
  outputs : List Binding
  senders : List Sender
deriving DecidableEq, Repr, Inhabited

/-- A beat in an input queue, with the header fields that R33 and R42 read, and whether it is the last of its token. -/
structure Beat where
  ctx : CtxId
  gen : Gen
  src : TumId
  srcQueue : Nat
  tag : Byte
  last : Bool
  data : BitVec 512
deriving DecidableEq, Repr

/-- A load in flight: 256 B of a load, one read slot (R37). -/
structure LoadPart where
  global : Bool
  module : ModId
  addr : PAddr
  len : Nat
  sram : Nat
  group : Nat
  ctx : CtxId
  gen : Gen
  /-- Tag of the request that a load of another module rides. -/
  tag : BitVec 16
deriving DecidableEq, Repr

/-- A write in flight, one write slot (R38). -/
structure WritePart where
  global : Bool
  module : ModId
  addr : PAddr
  len : Nat
  sram : Nat
  ctx : CtxId
  gen : Gen
  opSerial : W32
  tag : BitVec 16
  /-- An atomic operation at the home in place of a store, with its compare value. -/
  op : Option (AtomicOp × W64)
deriving DecidableEq, Repr

/-- The operator resident on a tumbler (R43, R44). -/
structure Resident where
  ctx : CtxId
  gen : Gen
  opSerial : W32
  image : W32
  index : Nat
  origin : List Nat
  extent : List Nat
  /-- The tumbler received no sliver (R44). -/
  empty : Bool
  desc : PAddr
  /-- The operator descriptor and the tensor descriptors that its micro-image reads (R112, R113). -/
  word : BitVec 1024
  tensors : List (BitVec 512)
  program : Program
  /-- The step that last fired; evaluation starts at the entry after it (R32). -/
  last : Nat
  running : Option Nat
  /-- The running step still computes; afterwards it only issues its further writes (R38). -/
  computing : Bool
  /-- Writes of a long step that wait for a slot to be freed (R38). -/
  toIssue : List WritePart
  /-- Write slots that the running step has reserved and not yet used (R33). -/
  reserved : Nat
  /-- Tokens of the ended step that wait for room in their output queue, with its number (Table 2.1, R36). -/
  toSend : List (Nat × Token)
  /-- The first step has ended: the checks of R124 are made. -/
  stepped : Bool
  /-- The token-wait timeout of this operator has been reported (R40). -/
  waitReported : Bool
  /-- Refused access or failed check: the status that fails the operator here (R374). -/
  failed : Option Byte
deriving DecidableEq, Repr

/-- A tumbler with its queues in the ward switch (Table 2.1). -/
structure Tumbler where
  sram : Store Byte
  regs : Store W32
  /-- The images in the four instruction slots with their code, most recently used first (R56). -/
  slots : List (W32 × List Byte)
  /-- Image whose tables are in the table region of `sram` (R56). -/
  tables : Option W32
  inq : Store (List Beat)
  outq : Store (List Token)
  credits : Store Nat
  startq : List StartTok
  loads : List LoadPart
  writes : List WritePart
  resident : Option Resident
  /-- Context of the previous operator (R27). -/
  lastCtx : Option CtxId
  /-- State of each of the 64 lane generators (R80). -/
  rng : Store W64
deriving DecidableEq, Repr

/-- A tumbler of which nothing has been used. Log: DESIGN CHOICE 3. -/
def Tumbler.reset : Tumbler :=
  { sram := [], regs := [], slots := [], tables := none, inq := [], outq := [], credits := [], startq := [], loads := [],
    writes := [], resident := none, lastCtx := none, rng := [] }

/-- A region table of a ward: the regions of one context (R138). -/
structure RegionTable where
  ctx : CtxId
  gen : Gen
  regions : List Region
  /-- Start tokens that the dispatchers have sent with the table and that have not arrived. -/
  coming : Nat
deriving DecidableEq, Repr

/-- A ward (R41–R43, R126, R138). -/
structure Ward where
  /-- Region tables in use, at most 8 (R138). -/
  tables : List RegionTable
  /-- Contexts whose generation has changed here, with the new generation, and the dispatchers named in the change. -/
  draining : List (CtxId × Gen × BitVec 16)
  /-- A spare is being inserted: start tokens wait (R47). -/
  inserting : Bool
  /-- Operators whose completion token this ward has sent, by serial (R21). -/
  completed : List (CtxId × W32)
  /-- Completion tokens with a fault status that wait for the operator's outstanding writes here (R21): context, generation, serial
  and status. -/
  owed : List (CtxId × Gen × W32 × Byte)
  /-- Micro-image code and tables that the ward switch is fetching; true for tables (R56). -/
  fetching : List (W32 × Bool)
  /-- Tokens misaddressed, and old-generation tokens discarded (R29, R42). -/
  misaddressed : Nat
  discarded : Nat
deriving DecidableEq, Repr

/-- A ward with no table in use. Log: DESIGN CHOICE 3. -/
def Ward.reset : Ward :=
  { tables := [], draining := [], inserting := false, completed := [], owed := [], fetching := [], misaddressed := 0, discarded := 0 }

/-- An installed micro-image (R51–R55). -/
structure Image where
  id : W32
  bytes : List Byte
deriving DecidableEq, Repr

/-- An application core with its interrupt file (R58–R61, Table 2.9). -/
structure AppCore where
  running : Bool
  ctxs : List CtxId
  image : PAddr
  /-- Boot-information block, as critical words (R61). -/
  bootInfo : List W64
  ringPending : W64
  keeperPending : Bool
  ringEnable : W64
  keeperEnable : Bool
deriving DecidableEq, Repr

/-- A core held in reset. Log: DESIGN CHOICE 3. -/
def AppCore.reset : AppCore :=
  { running := false, ctxs := [], image := 0, bootInfo := [], ringPending := 0, keeperPending := false, ringEnable := 0,
    keeperEnable := false }

/-- The compute group. Tumblers are keyed 1536 × die + 64 × ward + tumbler by logical index, wards 24 × die + ward. -/
structure Compute where
  tumblers : Store Tumbler
  /-- The silicon of the physical tumblers behind no logical index, spares and withdrawn ones, keyed
  1700 × die + 68 × physical ward + physical tumbler: what a tumbler holds beside its queues and operator (R25). -/
  idle : Store Tumbler
  wards : Store Ward
  /-- Tumbler remap entries as critical words, keyed 1600 × die + 64 × physical ward + logical tumbler; an unlisted
  entry is the identity (R46). -/
  tumRemap : Store (Option W64)
  /-- Ward remap entries as critical words, keyed 24 × die + logical ward; an unlisted entry is the identity. -/
  wardRemap : Store (Option W64)
  images : List Image
  cores : Store AppCore
deriving DecidableEq, Repr

/-- Compute dies after reset: nothing resident, no image, cores held in reset. -/
def Compute.reset : Compute :=
  { tumblers := [], idle := [], wards := [], tumRemap := [], wardRemap := [], images := [], cores := [] }

end Sys2Proof.Machine
end

