-- ==== Sys2Proof/Config.lean ====
section
/-! DEFINITION. What an implementation fixes and the manual leaves open. Every constant here is opaque: nothing can be
proved of its value, so a claim that mentions it holds whatever it is. -/

namespace Sys2Proof.Config

/-- A free value, fresh for each index: nonces, values the manual calls undefined and values it does not state.
Log: DESIGN CHOICE 6. -/
opaque freeValue : Nat → W64

/-- The step table and the binding-table part that a micro-image gives the tumbler of flat index `index`. The encoding of
code and tables is not published (R51, "Why the tumbler encoding is not an interface"). Log: DESIGN CHOICE 9. -/
opaque program (code tables : List Byte) (index : Nat) : Machine.Program

/-- SHA-384 of bytes. Log: DESIGN CHOICE 9. -/
opaque sha384 (bytes : List Byte) : BitVec 384

/-- ECDSA P-384 over SHA-384: public key (x, y), digest and signature (r, s). Log: DESIGN CHOICE 9. -/
opaque verify (key : List Byte) (digest : BitVec 384) (sig : BitVec 768) : Bool

/-- A signature made with a private key. Log: DESIGN CHOICE 9. -/
opaque sign (key digest : BitVec 384) : BitVec 768

/-- HMAC-SHA-384. Log: DESIGN CHOICE 9. -/
opaque hmac (key : BitVec 384) (msg : List Byte) : BitVec 384

/-- HKDF-SHA-384 with an ASCII label, and the key pair it derives: private key and public key (R432). Log: DESIGN CHOICE 9. -/
opaque derive (secret : BitVec 384) (label : String) : BitVec 384 × List Byte

/-- Digest of the boot ROM (R432, measurement 1). Log: DESIGN CHOICE 9. -/
opaque romDigest : BitVec 384

/-- AES-256-GCM: key, IV, associated data and plaintext give ciphertext and tag (R272). Log: DESIGN CHOICE 9. -/
opaque encrypt (key : BitVec 256) (iv : BitVec 96) (aad plain : List Byte) : List Byte × BitVec 128

/-- The signed package in flash part `part` (0 A, 1 B) as the module leaves the factory: the manual gives no bytes.
Log: DESIGN CHOICE 9. -/
opaque factoryPackage (part : Nat) : List Byte

/-- The public key that hashes to an owner key hash (R430, R438). Log: DESIGN CHOICE 9. -/
opaque ownerKey (hash : BitVec 384) : List Byte

/-- Redundant data lanes of a pseudo-channel (R151), and row-repair resources of a bank (R152). Log: DESIGN CHOICE 9. -/
opaque redundantLanes : Nat
opaque rowRepairs : Nat

/-- Cildosko's PCI-SIG vendor identifier and the compute-die stepping (R305). Log: DESIGN CHOICE 9. -/
opaque vendorId : BitVec 16
opaque stepping : BitVec 8

/-- What a vector-unit function gives within the bound that the manual sets (R97). Log: DESIGN CHOICE 10. -/
opaque vectorFn (fn : VecFn) (x : W32) : W32

/-- What an epilogue code above 3 makes of a word: the manual gives no effect (Table 4.10). Log: DESIGN CHOICE 162. -/
opaque otherEpilogue (code : Nat) (t : W32) : W32

/-- Payload beats and tag of a start token's header, which the manual does not give (R28, R29). Log: DESIGN CHOICE 155. -/
opaque startBeats : Fin 5
opaque startTag : Byte

/-- Whether the indices that an index tensor of another module holds lie in their range: its values are not in this module (R478).
Log: DEDUCED 158. -/
opaque remoteIndices (desc : BitVec 1024) (index : BitVec 512) : Bool

/-- The result of a reduction of operands taken in this order (R295): its number format is the operator's. Log: DESIGN CHOICE 9. -/
opaque reduction (operands : List (List Byte)) : List Byte

/-- Digest of the certificate chain of slot 0 under an Alias key, and the transcript that an SPDM signature covers: the manual gives no
bytes (R432, R433). -/
opaque chainDigest (aliasKey : BitVec 384) : BitVec 384
opaque transcript (index : Nat) (nonce : BitVec 256) : BitVec 384

/-- The word of an item that the body store does not list: the factory's calibration, which the manual does not give (R415).
Log: DEDUCED 109. -/
opaque factoryCal (key : Nat) : W64

/-- What a ring's calibration word holds (Table 14.2, code 0x08), whose layout the manual does not give: its park point and, for a band
and the modelled temperature, the heater power that its slot is expected to need, in µW; and for a band and one of its engine's two dies,
the feed-forward coefficient in 2^-16 µW per W and the time constant in µs. Log: DESIGN CHOICE 174. -/
opaque ringPark (word : W64) : Nat
opaque ringExpected (word : W64) (band : Nat) (temp : Int) : Nat
opaque ringCoefficient (word : W64) (band : Nat) (second : Bool) : Nat
opaque ringConstant (word : W64) (band : Nat) (second : Bool) : Nat

/-- A cartridge's calibration words (Table 14.2): the end-of-life current in 0.1 mA and the output set point in 0.1 dBm of a laser. The
manual gives their ranges. Log: DESIGN CHOICE 174. -/
opaque laserEndOfLife (serial : W64) (engine laser : Nat) : Nat
opaque laserSetPoint (serial : W64) (engine laser : Nat) : Nat

/-- The hash of a flow's source and destination that binds it to a group (R175). Log: DESIGN CHOICE 169. -/
opaque flowHash (port dst : Nat) : Nat

/-- The measured one-way delay of an edge's sideband, in ticks of the timestamp counter (R194). Log: DESIGN CHOICE 170. -/
opaque sidebandDelay (edge : Nat) : W64

/-- Node of its die's model at which a diode stands, by diode key (R399): the manual gives no map. Log: DESIGN CHOICE 119. -/
opaque diodeNode (diode : Nat) : Nat


end Sys2Proof.Config
end

