-- ==== Sys2Proof/Machine/State/D2d.lean ====
section
/-! DEFINITION. State of the base dies, the die-to-die edges, the clock tree and the engine sites (chapter 6). -/

namespace Sys2Proof.Machine

/-- A base die's position and clock (R166–R170, R191–R194). -/
structure BaseState where
  /-- POS[2:0] as sampled at rail-up. -/
  position : Option (Fin 8)
  pllLocked : Bool
  /-- Logical port of the clock input in use; none is REFCLK at P0. -/
  clockIn : Option Port4
  clockLosses : Nat
  /-- Its copy of the module timestamp counter, less the counter itself. -/
  timeSkew : W64
  /-- Its RWL registers are locked (R10). -/
  locked : Bool
deriving DecidableEq, Repr

/-- A base die whose straps have not been sampled. Log: DESIGN CHOICE 3. -/
def BaseState.reset : BaseState :=
  { position := none, pllLocked := false, clockIn := none, clockLosses := 0, timeSkew := 0, locked := false }

/-- Training state of an edge (Table 6.6). -/
inductive EdgeState where
  /-- Sideband only; positions not yet agreed. -/
  | sideband
  /-- Positions agree; lanes are under test. -/
  | testing
  /-- Masks formed; MASK and PLAN are exchanged. -/
  | masking
  | opened
  /-- Left closed: a mismatch or no opening by 250 ms. -/
  | closed
deriving DecidableEq, Repr

/-- A flow (R175): one class from one source port of a base die to one destination base die. The ports are the die's logical ports 0 to
3, the vertical bonds 4 and 5, the PCIe port 6, the engine sites 7 and the die's own agents 8. -/
structure Flow where
  cls : Nat
  port : Nat
  dst : Nat
deriving DecidableEq, Repr

/-- A beat to be sent: its flow, its buffer set (R176) and its 64 bytes. -/
structure BeatOut where
  flow : Flow
  set : Bool
  payload : BitVec 512
deriving DecidableEq, Repr

/-- One direction of one group: its sender and its receiver (R178–R180). -/
structure GroupState where
  /-- Sequence of the next new data flit. -/
  nextSeq : BitVec 10
  /-- Unacknowledged flits, oldest first, at most 256, each with the beat it carries. -/
  replay : List (BeatOut × BitVec 576)
  /-- Beats bound to the group that have not been sent, in order. -/
  waiting : List BeatOut
  /-- Class last sent in each rank: 0 for class 2, 1 for classes 3 and 4, 2 for classes 0 and 1 (R174). -/
  lastClass : Store Nat
  /-- Sequence the receiver expects. -/
  expected : BitVec 10
  /-- A retry request is outstanding. -/
  retrying : Bool
  /-- Consecutive retries of the expected sequence. -/
  retries : Nat
  /-- Credits the sender has used, keyed 2 × class + set (R180). -/
  used : Store Nat
  /-- Stopped for its isolation test (R182). -/
  stopped : Bool
  /-- Its test found a permanent lane: it waits for the plan that retires the lane (R182, R183). -/
  held : Bool
  /-- Isolation tests of the present interval that found no permanent lane. -/
  clean : Nat
  /-- Turned off while running. -/
  off : Bool
deriving DecidableEq, Repr

/-- A group at the opening of its edge: sequences start at 0 (Table 6.6). Log: DESIGN CHOICE 3. -/
def GroupState.reset : GroupState :=
  { nextSeq := 0, replay := [], waiting := [], lastClass := [], expected := 0, retrying := false, retries := 0, used := [], stopped := false,
    held := false, clean := 0, off := false }

/-- Widths and lanes of one direction as a plan gives them (R185): for each group its width (0, 4, 8 or 16) and the
physical lane that carries each logical lane that a spare serves. -/
structure Plan where
  widths : List Nat
  /-- Lowest logical lane of the aligned set in use, per group. -/
  sets : List Nat
  /-- Spare lane by logical data lane 0–127. -/
  spares : Store (Option Nat)
deriving DecidableEq, Repr

/-- Every group at full width on its own lanes. -/
def Plan.reset : Plan :=
  { widths := [16, 16, 16, 16, 16, 16, 16, 16], sets := [0, 0, 0, 0, 0, 0, 0, 0], spares := [] }

/-- How a retrain ended (D2D_WIDTH_LOG). -/
inductive RetrainOutcome where
  | none | applied | fallback
deriving DecidableEq, Repr

/-- One of the seven edges (R168, R171–R190). "Up" runs from the lower-indexed die to the higher. -/
structure Edge where
  state : EdgeState
  /-- The lower and the higher end have announced the position that the other expects. -/
  posLow : Bool
  posHigh : Bool
  /-- The lower and the higher end have received a POS whose halves agree. -/
  seenLow : Bool
  seenHigh : Bool
  roleLow : Byte
  roleHigh : Byte
  roleLowLocked : Bool
  roleHighLocked : Bool
  /-- Driver's TX mask and receiver's RX mask of each direction (R184). -/
  txUp : BitVec 136
  rxUp : BitVec 136
  txDown : BitVec 136
  rxDown : BitVec 136
  up : Plan
  down : Plan
  /-- Substitutions that the ledger holds: the spare of a retired logical data lane, by direction (R185). -/
  heldUp : Store (Option Nat)
  heldDown : Store (Option Nat)
  /-- Group that each flow is bound to, by direction (R175). -/
  flowsUp : List (Flow × Nat)
  flowsDown : List (Flow × Nat)
  /-- A retrain or the first mask exchange is under way. -/
  retraining : Bool
  round : Nat
  /-- MASK of the present round has been sent: no group's isolation test was under way. -/
  asked : Bool
  disagreed : Nat
  restarts : Nat
  /-- Ends whose request began the retrain (R189). -/
  reqLow : Bool
  reqHigh : Bool
  /-- MASK of the present round received from each end. -/
  maskLow : Bool
  maskHigh : Bool
  planLow : Option PlanMsg
  planHigh : Option PlanMsg
  /-- Narrowest common width of R188: tests under way or in force. -/
  fallback : Bool
  /-- Quarters that passed, bit 4 × group + quarter, upward in [31:0] and downward in [63:32]. -/
  quarters : W64
  /-- Quarters whose test has ended, in the same places. -/
  tested : W64
  qtestLow : Bool
  qtestHigh : Bool
  groupsUp : Store GroupState
  groupsDown : Store GroupState
  /-- Equalization band of the hotter end (R190). -/
  eqBand : Nat
  /-- Band whose presets each group uses. -/
  presets : Store Nat
  /-- PLANs of the rounds of the last retrain, in order (R188). -/
  widthLog : List PlanMsg
  /-- Outcome of the last retrain: none yet, applied, or the narrowest common width. -/
  outcome : RetrainOutcome
deriving DecidableEq, Repr

/-- An edge at rail-up. Log: DESIGN CHOICE 3. -/
def Edge.reset : Edge :=
  { state := .sideband, posLow := false, posHigh := false, seenLow := false, seenHigh := false, roleLow := 0xC0, roleHigh := 0xC0,
    roleLowLocked := false, roleHighLocked := false, txUp := 0, rxUp := 0, txDown := 0, rxDown := 0, up := Plan.reset, down := Plan.reset,
    heldUp := [], heldDown := [], flowsUp := [], flowsDown := [], retraining := false, round := 0, asked := false, disagreed := 0, restarts := 0,
    reqLow := false, reqHigh := false, maskLow := false, maskHigh := false, planLow := none, planHigh := none, fallback := false,
    quarters := 0, tested := 0, qtestLow := false, qtestHigh := false, groupsUp := [], groupsDown := [], eqBand := 0, presets := [],
    widthLog := [], outcome := .none }

/-- An engine site (R195–R199). -/
structure Site where
  sideband : Bool
  /-- The base die's descriptor has been sent. -/
  sent : Bool
  peer : Option (BitVec 512)
  /-- Resend requests made for a failed check, at most two. -/
  resends : Nat
  closed : Bool
  configured : Bool
  trained : Bool
  rate : Fin 6
  /-- Working modules at x16 and at x8. -/
  full : Nat
  half : Nat
  /-- Links served (R199). -/
  links : Nat
  /-- Items of Table 6.11 that reduced or closed the site, by row number 0–9. -/
  reduced : List Nat
  /-- Outcomes that later rules read: active and spare wavelengths, and the features offered. -/
  wlActive : Nat
  wlSpare : Nat
  fiberActive : Nat
  spareFiber : Bool
  keyTone : Bool
  feedForward : Bool
  marginTest : Bool
  laserExternal : Bool
deriving DecidableEq, Repr

/-- A site whose sideband has not trained. Log: DESIGN CHOICE 3. -/
def Site.reset : Site :=
  { sideband := false, sent := false, peer := none, resends := 0, closed := false, configured := false, trained := false,
    rate := 0, full := 0, half := 0, links := 0, reduced := [], wlActive := 16, wlSpare := 2, fiberActive := 8,
    spareFiber := true, keyTone := true, feedForward := true, marginTest := true, laserExternal := true }

/-- The package-fabric group. -/
structure D2d where
  bases : Store BaseState
  edges : Store Edge
  sites : Store Site
  /-- Edges usable when the keeper loaded the route tables; fixed until the next reset (R176). -/
  routes : Option (List Nat)
  /-- The route tables: the base dies that a route passes after its first, its last included, keyed 6 × from + to (R176). -/
  table : Store (List Nat)
deriving DecidableEq, Repr

/-- Nothing sampled, no edge open, no site trained. -/
def D2d.reset : D2d := { bases := [], edges := [], sites := [], routes := none, table := [] }

end Sys2Proof.Machine
end

