-- ==== Sys2Proof/Machine/State/Faults.lean ====
section
/-! DEFINITION. State of faults and sparing (chapter 12): records and the queue, padlocks, the spare ledger, the reported
capacity, FAULT_N and the reset sequencer. -/

namespace Sys2Proof.Machine

/-- Classes of R367, by their codes: 0 ADVISORY to 5 FATAL. -/
abbrev FaultClass := Fin 6

/-- Actions of Table 12.4. -/
inductive FaultAction where
  | pending | none | padlocked | replaced | withdrawn | reset | cleared
deriving DecidableEq, Repr

/-- A fault record (Table 12.4), with the operators it fails (R374 step 5). -/
structure FaultRecord where
  cause : Cause
  suspect : Chan
  spare : Chan
  reporter : Chan
  detail : W64
  count : Nat
  firstTime : W64
  lastTime : W64
  /-- Assigned by the keeper when the record first reaches it (R372). -/
  seq : Option W32
  ctx : Option (CtxId × Gen)
  cls : FaultClass
  collector : BaseDie
  merged : Bool
  closed : Bool
  action : FaultAction
  opStatus : Byte
  /-- Serial numbers of the operators that the fault fails. -/
  ops : List W32
deriving DecidableEq, Repr

/-- A spare-ledger entry (Table 12.7). -/
structure LedgerEntry where
  /-- 1 PADLOCK, 2 REPLACE, 3 WITHDRAW, 4 CLOSE. -/
  action : BitVec 4
  seq : BitVec 28
  chan : Chan
  spare : Chan
  data : W32
deriving DecidableEq, Repr

/-- The capacity table (R378), as reported and as it binds dispatches. Log: DESIGN CHOICE 27. -/
structure Capacity where
  seq : W32
  /-- Active wards of each logical die; 24 unless listed. -/
  wards : Store Nat
  /-- Tumblers of each logical ward, keyed 24 × die + ward; 64 unless listed. -/
  tumblers : Store Nat
  /-- Visible 64 KiB pages of each stack; 770,048 unless listed. -/
  pages : Store Nat
  /-- Lanes of each link direction, keyed 2 × link + (0 transmit, 1 receive); 16 unless listed. -/
  lanes : Store Nat
  /-- Application cores available. -/
  cores : Nat
deriving DecidableEq, Repr

/-- Full capacity (Table 0.1). -/
def Capacity.reset : Capacity := { seq := 0, wards := [], tumblers := [], pages := [], lanes := [], cores := 24 }

/-- The FAULT_N pin (R381, R382). -/
structure FaultN where
  /-- A pulse of 2 to 4 µs, or the 2 µs of high level after it, is under way. -/
  pulsing : Bool
  /-- Records reached an uncorrected class during the pulse, so one further pulse follows. -/
  again : Bool
  /-- Held low by policy. -/
  held : Bool
  /-- The class the next hold decision looks at: a FATAL or SECURITY record caused the pulse. -/
  severe : Bool
  pulses : Nat
  withheld : Nat
deriving DecidableEq, Repr

/-- FAULT_N released. -/
def FaultN.reset : FaultN := { pulsing := false, again := false, held := false, severe := false, pulses := 0, withheld := 0 }

/-- What the reset sequencer on P0 is doing (R383, R384). -/
structure Sequencer where
  /-- The cause of the reset under way. -/
  active : Option ResetCause
  /-- Units of Table 12.9 that have not acknowledged quiesce. -/
  waiting : List QUnit
  escalated : Bool
  missed : List QUnit
  /-- Causes recorded while a reset was already under way (R383). -/
  also : List ResetCause
  /-- Ledger commits in progress when the quiesce was requested of a running keeper (R384). -/
  commits : List LedgerEntry
deriving DecidableEq, Repr

/-- No reset under way. -/
def Sequencer.reset : Sequencer := { active := none, waiting := [], escalated := false, missed := [], also := [], commits := [] }

/-- The fault group. -/
structure Faults where
  /-- Open records of the collectors, each with the key (suspect, cause). -/
  openRecs : List FaultRecord
  /-- Records sent to the keeper and not yet arrived, by latch (R370, R371). -/
  sent : List FaultRecord
  /-- The keeper's log of records, by sequence, oldest first (R386, R388). -/
  log : List FaultRecord
  /-- Sequences of the records that await action (R372). -/
  queue : List W32
  nextSeq : W32
  fatal : Option FaultRecord
  /-- Suspects being probed, with the complex that probes (R369, R480). -/
  probes : List Chan
  padlocked : List Chan
  /-- Ledger entries in the mirrors, oldest first (R377, R379). -/
  ledger : List LedgerEntry
  /-- Entries of the mirrors not yet committed to flash (R337). -/
  uncommitted : List LedgerEntry
  nextEntry : BitVec 28
  capacity : Capacity
  faultN : FaultN
  /-- FLT_POLICY (R381). -/
  policy : Fin 3
  seqr : Sequencer
  /-- Cause of the last reset, escalation flag and units that missed quiesce (FLT_RESET_CAUSE). -/
  resetCause : Option ResetCause
  resetEscalated : Bool
  resetMissed : List QUnit
  /-- Transients counted against each channel in the present interval (R365). -/
  transients : Store Nat
  /-- Good spare channels whose self-test is awaited: spare and the channel it replaces (R48, R49). -/
  spareTests : List (Chan × Chan)
  /-- Tumblers and wards declared permanent whose spare waits until the ward has drained (R47, R50), with the cause. -/
  insertions : List (Chan × Cause)
deriving DecidableEq, Repr

/-- No record, nothing padlocked, an empty ledger. Log: DESIGN CHOICE 3. -/
def Faults.reset : Faults :=
  { openRecs := [], sent := [], log := [], queue := [], nextSeq := 0, fatal := none, probes := [], padlocked := [],
    ledger := [], uncommitted := [], nextEntry := 0, capacity := Capacity.reset, faultN := FaultN.reset, policy := 1,
    seqr := Sequencer.reset, resetCause := none, resetEscalated := false, resetMissed := [], transients := [],
    spareTests := [], insertions := [] }

end Sys2Proof.Machine
end

