-- ==== Sys2Proof/Machine/State/Host.lean ====
section
/-! DEFINITION. State of the host ports, BAR2 segments, management endpoints and telemetry (chapter 10). -/

namespace Sys2Proof.Machine

/-- One PCIe port (R302–R315). -/
structure Port where
  /-- The controller is out of reset (R466). -/
  released : Bool
  /-- PERST is asserted. -/
  perst : Bool
  /-- The link is up, not in DL_Down. -/
  up : Bool
  /-- It has trained before in this start (R313). -/
  trained : Bool
  active : Bool
  rate : Nat
  width : Nat
  d3hot : Bool
  /-- BAR2 is 2^barLog GiB (R306). -/
  barLog : Nat
  /-- MSI-X mask bits by vector. -/
  masked : BitVec 256
  /-- Vectors held pending (R313). -/
  pending : BitVec 256
  downs : Nat
  failovers : Nat
deriving DecidableEq, Repr

/-- A port whose controller is in reset. Log: DESIGN CHOICE 3; PRESUMED 77. -/
def Port.reset : Port :=
  { released := false, perst := false, up := false, trained := false, active := false, rate := 0, width := 0,
    d3hot := false, barLog := 0, masked := 0, pending := 0, downs := 0, failovers := 0 }

/-- A BAR2 segment entry (R309). -/
structure Segment where
  valid : Bool
  ctx : CtxId
  /-- Module physical address bits [47:30]. -/
  gib : BitVec 18
deriving DecidableEq, Repr

/-- An invalid segment. Log: DESIGN CHOICE 3. -/
def Segment.reset : Segment := { valid := false, ctx := 0, gib := 0 }

/-- The host group. Log: DESIGN CHOICE 80. -/
structure HostGroup where
  /-- TEL_PORT_MODE: 0 single, 1 standby, 2 secondary. -/
  mode : Fin 3
  portA : Port
  portB : Port
  segments : Store Segment
  /-- The status word has read READY or DEGRADED in the present start (R312, R313). -/
  everReady : Bool
  /-- Endpoint ID of each MCTP binding (R317). -/
  eids : Store Byte
  /-- The fabric manager's binding and endpoint (R318). -/
  fm : Option (Fin 3 × Byte)
  /-- The SMBus interface has been reset by a stuck line and no packet is being received (R467). -/
  smbusResets : Nat
  /-- Port through which each context ring or command was created, for vectors in secondary mode (R313); keys are
  rings 0–63 of P0. -/
  ringPort : Store Bool
deriving DecidableEq, Repr

/-- The host group after reset: both controllers held, no segment, no endpoint. -/
def HostGroup.reset : HostGroup :=
  { mode := 1, portA := Port.reset, portB := Port.reset, segments := [], everReady := false, eids := [], fm := none,
    smbusResets := 0, ringPort := [] }

/-- Telemetry: the timestamp counter, the interval and the interval counters (R322–R328). -/
structure Telemetry where
  timestamp : W64
  /-- Interval in force, in µs. -/
  interval : Nat
  /-- TEL_INTERVAL as last written; in force from the next boundary (R323). -/
  nextInterval : Nat
  index : W32
  /-- TEL_CTRL, bit k enabling records of kind k (R327). -/
  ctrl : W64
  /-- Upper timestamp word latched by a 32-bit read of the lower one (R322), by agent. -/
  upperLatch : W32
  /-- Counts of the interval in progress, keyed by `Counter.key`. -/
  live : Store Nat
  /-- Latched copies of the last complete interval. -/
  latched : Store Nat
  /-- Records of a source dropped since its last written one (R327), keyed by source. -/
  dropped : Store Nat
  /-- PLDM numeric sensors as last updated at a boundary (R320). -/
  sensors : Store Int
deriving DecidableEq, Repr

/-- Telemetry at the start of the timestamp counter. Log: DESIGN CHOICE 3. -/
def Telemetry.reset : Telemetry :=
  { timestamp := 0, interval := 1000, nextInterval := 1000, index := 0, ctrl := 0xFFFFFFFFFFFFFFFF, upperLatch := 0,
    live := [], latched := [], dropped := [], sensors := [] }

end Sys2Proof.Machine
end

