-- ==== Sys2Proof/Machine/State/Keeper.lean ====
section
/-! DEFINITION. State of the keeper, the latches and the firmware interface (chapter 11). -/

namespace Sys2Proof.Machine

/-- What a long operation will do when it ends (Table 11.15). -/
inductive LongKind where
  | teardown (ctx : CtxId)
  | imageInstall (ctx : CtxId) (addr : PAddr) (len : Nat) (key : List Byte)
  | holdEnter | holdLeave
  | fwWrite (ctx : CtxId) (addr : PAddr) (len : Nat)
  | fwVerify
  | dumpRead (part slot : Fin 2) (offset len : Nat) (ctx : CtxId) (addr : PAddr)
  | selftest (chan : Chan) (failed total : Nat) (permanent : Bool)
  | linkMargin (link : LinkIx)
  | calRun (quantity : CalQuantity) (engine : EngineIx) (items : List CalItem)
deriving DecidableEq, Repr

/-- A running long operation, held in the keeper control block (R359). -/
structure LongOp where
  mbx : MbxIx
  seq : Byte
  code : CmdCode
  kind : LongKind
  caller : Caller
  done : Nat
  total : Nat
  word2 : W64
  word3 : W64
  word4 : W64
  cancelling : Bool
deriving DecidableEq, Repr

/-- One mailbox (Table 11.9). -/
structure Mailbox where
  cmd : W64
  buf : W64
  args : Store W64
  cstat : W64
  res : List W64
  /-- Data left in the mailbox buffer for the caller: the output of the last command. -/
  out : List Byte
deriving DecidableEq, Repr

/-- A mailbox whose registers read 0. Log: DESIGN CHOICE 3. -/
def Mailbox.reset : Mailbox := { cmd := 0, buf := 0, args := [], cstat := 0, res := [0, 0, 0, 0, 0], out := [] }

/-- The control complexes of P1–P5 (R331, R332). -/
structure Latch where
  /-- It runs the latch image. -/
  running : Bool
  /-- It has declared the keeper's answer missing and holds its power caps (R332). -/
  capsHeld : Bool
  /-- Remap tables are loaded (R46). -/
  loaded : Bool
deriving DecidableEq, Repr

/-- A latch that has not started. -/
def Latch.reset : Latch := { running := false, capsHeld := false, loaded := false }

/-- Who holds a firmware update: a PLDM endpoint, or the sender of firmware commands (R321, R361). Log: DESIGN CHOICE 83. -/
inductive Updater where
  | pldm (binding : Fin 3) (eid : Byte)
  | host
  | mctp (binding : Fin 3) (eid : Byte)
  | console
deriving DecidableEq, Repr

/-- A firmware update in progress (R321, R360, R361). -/
structure Update where
  holder : Updater
  /-- Bytes of the package written. -/
  written : Nat
deriving DecidableEq, Repr

/-- The keeper group. -/
structure Keeper where
  /-- The start sequence of Table 11.4 has begun. -/
  started : Bool
  /-- P0's boot ROM runs. -/
  rom : Bool
  /-- Idore runs. -/
  idore : Bool
  /-- Bits [31:0] of MBX_STATUS; `statusWritten` is false until the boot ROM first writes the word (R344). -/
  status : W32
  statusWritten : Bool
  /-- MBX_START (Table 11.5). -/
  start : W64
  mailboxes : Store Mailbox
  /-- Doorbells held by DBL until the keeper takes them (R349). -/
  rung : BitVec 16
  lost : BitVec 16
  fwcTail : W32
  fwcHead : W32
  fwrTail : W32
  fwrHead : W32
  evtTail : W32
  evtHead : W32
  evtMask : W64
  /-- The event ring exists (stage 6, R482). -/
  eventRing : Bool
  /-- Event slots of 64 B held by Idore until then, oldest first. -/
  held : List (BitVec 512)
  longOps : List LongOp
  latches : Store Latch
  /-- Last heartbeats that the keeper has answered, counted per latch. -/
  heartbeats : Store Nat
  /-- RWL registers of P0 are locked (R10). -/
  locked : Bool
  update : Option Update
  /-- The retained region has been copied, or no slot was free; shelf SRAM is cleared (stage 6). -/
  shelfCleared : Bool
  dumpCopying : Option (Fin 2 × Fin 2)
  /-- Serial numbers of body, PS, L0 and L1. -/
  serials : Store W64
  /-- Boot count of the present start. -/
  bootCount : W32
  /-- The image that runs, false A and true B, and whether it is on trial (R336). -/
  imageB : Bool
  trial : Bool
deriving DecidableEq, Repr

/-- The keeper before its start. Log: DESIGN CHOICE 3. -/
def Keeper.reset : Keeper :=
  { started := false, rom := false, idore := false, status := 0, statusWritten := false, start := 0, mailboxes := [],
    rung := 0, lost := 0, fwcTail := 0, fwcHead := 0, fwrTail := 0, fwrHead := 0, evtTail := 0, evtHead := 0,
    evtMask := 0xFFFFFFFFFFFFFFFF, eventRing := false, held := [], longOps := [], latches := [], heartbeats := [],
    locked := false, update := none, shelfCleared := false, dumpCopying := none, serials := [],
    bootCount := 0, imageB := false, trial := false }

/-- A boot record (R335). -/
structure BootRecord where
  count : W32
  preferB : Bool
  trial : Bool
  trialStarts : Nat
deriving DecidableEq, Repr

/-- A dump slot (R388). -/
inductive DumpSlot where
  | erased
  | full (data : List Byte)
  /-- Released; its erase runs in the background. -/
  | released (data : List Byte)
deriving DecidableEq, Repr

/-- One flash part (Table 11.2). -/
structure FlashPart where
  present : Bool
  padlocked : Bool
  /-- The part header is formatted (R454). -/
  formatted : Bool
  /-- The image slot's header is valid: written last (R360). -/
  slotValid : Bool
  package : List Byte
  /-- The slot has verified since it was written (R360). -/
  verified : Bool
  profile1 : List W64
  profile2 : List W64
  journal : List LedgerEntry
  boot : Option BootRecord
  dump0 : DumpSlot
  dump1 : DumpSlot
deriving DecidableEq, Repr

/-- A critical word: the value in [31:0] and its complement in [63:32] (R362). -/
def critWord (v : W32) : W64 := (~~~v) ++ v

/-- The profile's default values in the order of Table 11.3a. -/
def defaultProfileValues : List W32 :=
  [0x50524F46, 1, 1, 8, 0xC0, 0xC0, 0xC0, 0xC0, 0xC0, 0xC0, 0xC0, 64, 256, 512, 256, 256, 512, 64, 64, 1000, 4, 1]

/-- The profile's default words (Tables 11.3 and 11.3a). -/
def defaultProfile : List W64 := defaultProfileValues.map critWord

/-- A formatted part with the default profile and no ledger. -/
def FlashPart.reset : FlashPart :=
  { present := true, padlocked := false, formatted := true, slotValid := true, package := [], verified := false,
    profile1 := defaultProfile, profile2 := defaultProfile, journal := [],
    boot := some { count := 0, preferB := false, trial := false, trialStarts := 0 }, dump0 := .erased,
    dump1 := .erased }

/-- The two flash parts, A and B. -/
structure Flash where
  partA : FlashPart
  partB : FlashPart
deriving DecidableEq, Repr

/-- Both parts as they leave the factory, each with its signed package. -/
def Flash.reset : Flash :=
  { partA := { FlashPart.reset with package := Config.factoryPackage 0 }
    partB := { FlashPart.reset with package := Config.factoryPackage 1 } }

end Sys2Proof.Machine
end

