-- ==== Sys2Proof/Machine/State/Link.lean ====
section
/-! DEFINITION. State of the 64 links (chapter 8) and of the domain tables (chapter 9). -/

namespace Sys2Proof.Machine

/-- Link states of Table 8.10. -/
inductive LinkState where
  | absent | optical | waiting | active | retrain | down
deriving DecidableEq, Repr

/-- A data unit in a transmit queue or a replay buffer: its 128-bit header and its 232 payload bytes. -/
structure TxUnit where
  header : BitVec 128
  payload : List Byte
  /-- The down link whose unit it is, on its twin (R267, R270). -/
  owner : Option Nat := none
deriving DecidableEq, Repr

/-- A data unit in the receive pool until its consumer takes it (Table 8.3). -/
structure PoolUnit where
  vc : Fin 8
  shared : Bool
  last : Bool
deriving DecidableEq, Repr

/-- A key slot of one direction (R273). -/
structure LinkKey where
  key : BitVec 256
  salt : W32
  keyId : W32
deriving DecidableEq, Repr

/-- What the last TRAIN told of the peer (LNK_PEER). -/
structure Peer where
  moduleId : ModId
  linkIx : Byte
  serial : W64
  bootCount : W32
deriving DecidableEq, Repr

/-- One link (R239–R279). -/
structure Link where
  state : LinkState
  /-- Sequence of the next new data unit, and the oldest unacknowledged one (R244). -/
  n : BitVec 12
  a : BitVec 12
  /-- Unacknowledged units, A first. -/
  replay : List TxUnit
  /-- Units waiting to be sent, oldest first; on a DOWN link they are held (R268). -/
  queue : List TxUnit
  /-- Extended counts of both directions (R272). -/
  txExt : W64
  rxExt : W64
  /-- Sequence the receiver expects (R245). -/
  e : BitVec 12
  /-- A NAK for e is outstanding (R246). -/
  nakSent : Bool
  /-- Data units accepted since the last acknowledgement sent, and whether the 200 ns run (R249, R275). -/
  unacked : Nat
  timing : Bool
  pool : List PoolUnit
  /-- Reserved units freed per VC since open, modulo 256 (R253). -/
  freed : Store Byte
  /-- VC whose count the next header carries. -/
  creditTurn : Fin 8
  /-- Reserved credits the sender has spent per VC, and the last count it took. -/
  spent : Store Nat
  countSeen : Store Byte
  /-- Last xoff accepted; all ones also after 1 µs of silence (R254, R255). -/
  xoff : BitVec 8
  /-- Flow units of every kind taken since ACTIVE was entered, modulo 2^32 (R226). -/
  taken : W32
  /-- Words of the units sent since ACTIVE was entered: the place in the stream of the next one (R243). -/
  sentWords : Nat
  /-- Replays made from the present A, and the sequence they started from (R250). -/
  naks : Nat
  nakFrom : BitVec 12
  peer : Peer
  /-- Lanes usable in each direction, as this end finds them. -/
  txLanes : BitVec 16
  rxLanes : BitVec 16
  /-- Width mask of each direction as agreed by OPEN. -/
  txWidth : BitVec 16
  rxWidth : BitVec 16
  rtuNs : Nat
  rtu : Nat
  leader : Bool
  round : Nat
  disagreed : Nat
  /-- Last TRAIN of the present round. -/
  train : Option TrainMsg
  /-- OPEN sent by this end in the present round, awaiting its echo. -/
  openSent : Option OpenMsg
  kind : RetrainKind
  /-- Cause of the last retrain (Table 8.6), and the retrains that have started. -/
  cause : RetrainCause
  retrains : Nat
  /-- Failed retrains in succession (R266). -/
  failed : Nat
  /-- The next OPEN restarts both directions at 0 (R261). -/
  restart : Bool
  twin : Option LinkIx
  lostSent : Bool
  /-- The peer's e, once its LINK_LOST has arrived (R267). -/
  lostReceived : Option (BitVec 12)
  /-- Its traffic rides its twin (R267). -/
  moved : Bool
  /-- Its traffic is held, and the fabric manager has been told (R268). -/
  held : Bool
  /-- Timestamp at which it began to hold (LNK_HOLD). -/
  heldAt : W64
  encrypt : Bool
  tx0 : Option LinkKey
  tx1 : Option LinkKey
  rx0 : Option LinkKey
  rx1 : Option LinkKey
  /-- Transmit key slot in use, and whether the peer has confirmed the other one (R273). -/
  txSlot : Fin 2
  confirmed : Bool
  /-- Receive slot that the last accepted unit named. -/
  rxSlot : Fin 2
  /-- The old transmit slot is erased once every unit below this sequence is acknowledged (R273). -/
  retireAt : Option (BitVec 12)
  /-- Units sent under the transmit key. -/
  underKey : Nat
  rotation : Bool
  /-- Tag failures and empty key slots of the present interval (R274). -/
  tagFails : Nat
  /-- LNK_VC_LIMIT, T_v by VC; the default of Table 8.3 unless listed. -/
  vcLimit : Store Nat
  /-- Reported as waiting at start (R262). -/
  waitReported : Bool
  miscabled : Bool
deriving DecidableEq, Repr

/-- A link that no site serves yet. Log: DESIGN CHOICE 3. -/
def Link.reset : Link :=
  { state := .absent, n := 0, a := 0, replay := [], queue := [], txExt := 0, rxExt := 0, e := 0, nakSent := false,
    unacked := 0, timing := false, pool := [], freed := [], creditTurn := 0, spent := [], countSeen := [], xoff := 0, taken := 0, sentWords := 0,
    naks := 0, nakFrom := 0, peer := { moduleId := 0, linkIx := 0, serial := 0, bootCount := 0 }, txLanes := 0,
    rxLanes := 0, txWidth := 0, rxWidth := 0, rtuNs := 0, rtu := 0, leader := false, round := 0, disagreed := 0,
    train := none, openSent := none, kind := .full, cause := .received, retrains := 0, failed := 0, restart := false, twin := none, lostSent := false,
    lostReceived := none, moved := false, held := false, heldAt := 0, encrypt := false, tx0 := none, tx1 := none, rx0 := none,
    rx1 := none, txSlot := 0, confirmed := false, rxSlot := 0, retireAt := none, underKey := 0, rotation := false, tagFails := 0, vcLimit := [],
    waitReported := false, miscabled := false }

/-- What issued a request to another module (R37, R38, R287). -/
structure Request where
  tag : BitVec 16
  module : ModId
  ctx : CtxId
  gen : Gen
  /-- Tumbler key, the place in SRAM, the load group and the length; `write` for a write or atomic. -/
  tumbler : Nat
  sram : Nat
  group : Nat
  len : Nat
  write : Bool
  opSerial : W32
deriving DecidableEq, Repr

/-- A collective group (R295). -/
structure Group where
  members : List ModId
  rank : Byte
deriving DecidableEq, Repr

/-- An empty group. -/
def Group.reset : Group := { members := [], rank := 0 }

/-- A fence taken and not yet answered (R296). -/
structure PendingFence where
  src : ModId
  ctx : CtxId
  gen : Gen
deriving DecidableEq, Repr

/-- The domain group (R280–R301). -/
structure Domain where
  id : Option ModId
  size : Nat
  /-- Window entries of Table 9.1. -/
  windows : Store (BitVec 256)
  linkSets : Store (List LinkIx)
  /-- Link set toward each module, when the entry is valid. -/
  forward : Store (Option Byte)
  groups : Store Group
  peerReset : BitVec 256
  /-- Generation records, keyed 1024 × source module + context; unknown unless listed (R296). -/
  genRecord : Store (Option Gen)
  stragglers : Store Nat
  fences : List PendingFence
  requests : List Request
  nextTag : BitVec 16
  /-- Reduction operands taken, with space for their results held, in arrival order (R295). -/
  operands : List DomMsg
  /-- Units held for a link whose site is closed, keyed 64 × base die + link (R292). -/
  holdQueue : Store (List TxUnit)
  windowSel : W64
  links : Store Link
deriving DecidableEq, Repr

/-- A window entry at reset: every check field all ones, as Table 9.1 gives. -/
def windowReset : BitVec 256 := 0xFFFFFFFF00000000FFFFFFFF00000000#256

/-- No identity, empty tables, every link ABSENT. Log: DESIGN CHOICE 3. -/
def Domain.reset : Domain :=
  { id := none, size := 0, windows := [], linkSets := [], forward := [], groups := [], peerReset := 0, genRecord := [],
    stragglers := [], fences := [], requests := [], nextTag := 0, operands := [], holdQueue := [], windowSel := 0, links := [] }

end Sys2Proof.Machine
end

