-- ==== Sys2Proof/Machine/State/Memory.lean ====
section
/-! DEFINITION. State of the homes: twelve stacks and six shelf SRAMs (chapter 5). A cell's key is
`home × 2^40 + offset`, homes 0–11 being the stacks and 12–17 the shelf SRAMs of P0–P5 (kind 0x40 of Table 12.1). -/

namespace Sys2Proof.Machine

/-- One HBM4 stack and its controller (R146–R156). -/
structure Stack where
  trained : Bool
  cleared : Bool
  padlocked : Bool
  /-- Step of R147 that training failed at. -/
  failedStep : Option (Fin 6)
  /-- Eye margins of the worst lane, as training found them (HBM_TRAIN_RESULT). -/
  eyeMargin : W64
  /-- Refresh rate: 1, 2 or 4 (Table 5.7). -/
  refresh : Nat
  /-- Modelled temperature that selected it, in 0.01 °C (HBM_REFRESH). -/
  refreshTemp : Int
  /-- Redundant lanes used of each pseudo-channel (R151). -/
  lanesUsed : Store Nat
  /-- Data lanes whose remap waits for the next refresh window, by pseudo-channel. -/
  remapping : Store (List Nat)
  /-- Lanes remapped. -/
  remapped : List (Nat × Nat)
  /-- An eye test of these pseudo-channels is under way (Table 12.2). -/
  eyeTests : List Nat
  /-- Soft repairs applied: pseudo-channel, bank and row (R152). -/
  repaired : List (Nat × Nat × Nat)
  /-- Retirement map: data page to reserve page (R153). -/
  retired : Store (Option Nat)
  /-- Pages being copied to a reserve page with dual-write on. -/
  copying : Store (Option Nat)
  /-- Reserve pages padlocked. -/
  badReserve : List Nat
  /-- Pages withdrawn (R155). -/
  withdrawn : List Nat
  /-- Line next read by the patrol (R164). -/
  patrol : Nat
  /-- Throttle level of the issue rate that the stack's hotspot asks (R400), and the one that VBASE of its base die asks (R395), with the
  loops since that one last moved. -/
  issueHot : Nat
  issueRail : Nat
  issueAge : Nat
deriving DecidableEq, Repr

/-- A stack before its training. Log: DESIGN CHOICE 3. -/
def Stack.reset : Stack :=
  { trained := false, cleared := false, padlocked := false, failedStep := none, eyeMargin := 0, refresh := 1, refreshTemp := 0, lanesUsed := [],
    remapping := [], remapped := [], eyeTests := [], repaired := [], retired := [], copying := [], badReserve := [],
    withdrawn := [], patrol := 0, issueHot := 0, issueRail := 0, issueAge := 0 }

/-- One shelf SRAM (R157–R160, R377). -/
structure Shelf where
  /-- Spare rows used of each 4 MiB macro. -/
  sparesUsed : Store Nat
  /-- Rows replaced: macro and row. -/
  replaced : List (Nat × Nat)
  /-- Blocks redirected by the shelf block remap, at most 16: block and general block (R377). -/
  blockRemap : List (Nat × Nat)
  /-- 4 KiB blocks withdrawn (R160). -/
  withdrawn : List Nat
deriving DecidableEq, Repr

/-- A shelf SRAM with every spare unused. Log: DESIGN CHOICE 3. -/
def Shelf.reset : Shelf := { sparesUsed := [], replaced := [], blockRemap := [], withdrawn := [] }

/-- The memory group. -/
structure Memory where
  cells : Store Byte
  /-- Poisoned 64 B lines, by `cell key / 64`, rising. -/
  poison : Store Bool
  hbm : Store Stack
  shelves : Store Shelf
  /-- interleave_gib (R136). -/
  share : Nat
  /-- Stacks of the interleave as formed at start (R145, R156). -/
  interleave : List Nat
  /-- HBM_SCRUB_CTRL of each base die: share in sixteenths (R162). -/
  scrubShare : Store Nat
  /-- Patrol enable of each base die, on unless listed. -/
  patrolOff : Store Bool
deriving DecidableEq, Repr

/-- Memory with nothing listed, the default interleave share and all twelve stacks in the interleave. -/
def Memory.reset : Memory :=
  { cells := [], poison := [], hbm := [], shelves := [], share := 8,
    interleave := [0, 1, 2, 3, 4, 5, 6, 7, 8, 9, 10, 11], scrubShare := [], patrolOff := [] }

end Sys2Proof.Machine
end

