-- ==== Sys2Proof/Machine/State/Operators.lean ====
section
/-! DEFINITION. State of contexts, command rings, dispatchers and start-order locks (chapter 4). -/

namespace Sys2Proof.Machine

/-- Context states of Table 4.1. -/
inductive CtxState where
  | free | opened | draining | quarantined | scrubbing
deriving DecidableEq, Repr

/-- The teardown of a context in progress (Table 4.11). Log: DESIGN CHOICE 85. -/
structure Teardown where
  /-- Dispatchers named in the generation change: those holding a ring of the context, or P0's alone. -/
  named : List BaseDie
  /-- Named dispatchers that have confirmed stop of issue (step 2). -/
  stopped : List BaseDie
  /-- The generation change has been sent (step 4). -/
  changed : Bool
  /-- Named dispatchers that hold every drained token and have reported (step 7). -/
  reported : List BaseDie
  /-- The drain time has expired (step 8). -/
  expired : Bool
  /-- Modules whose fence has not returned (step 6). -/
  fences : List ModId
  /-- Table 4.11's step, as word 2 of Table 11.15 reports it. -/
  step : Nat
  stragglers : Nat
  aborted : Nat
  /-- Bytes of the context's regions that the scrub has passed, in the order of the regions (R163). -/
  scrubbed : Nat
deriving DecidableEq, Repr

/-- A context (R100–R102). -/
structure Context where
  state : CtxState
  gen : Gen
  regions : List Region
  seed : W64
  drainMs : Nat
  domain : Bool
  cores : BitVec 24
  /-- DISPATCH entries started by each dispatcher since the context was created (R29). -/
  started : Store Nat
  teardown : Option Teardown
deriving DecidableEq, Repr

/-- A Free context at generation 0. Log: DESIGN CHOICE 3. -/
def Context.reset : Context :=
  { state := .free, gen := 0, regions := [], seed := 0, drainMs := 0, domain := false, cores := 0, started := [],
    teardown := none }

/-- Where an entry that has been read stands (R105, R106, R476). -/
inductive EntryPhase where
  /-- Its operator descriptor is being fetched: stage 2 follows. -/
  | descriptor
  /-- Its tensor descriptors are being fetched: stage 3 follows. -/
  | tensors
  /-- Checked; it waits for its turn to start. -/
  | checked
  /-- It holds its start-order locks and is sending start tokens: the tumblers still to be sent one, and the number of tokens sent
  that have not entered their start queue. -/
  | starting (left : List TumId) (flying : Nat)
  /-- Every start token has entered its start queue (R107, R108). -/
  | started
  /-- SIGNAL, WAIT and BARRIER that hold or wait for earlier entries. -/
  | signal | wait | barrier
deriving DecidableEq, Repr

/-- The placement of an operator (R119, R120): logical tumblers 0 to perWard − 1 of `wardCount` wards from `wardFirst` on
each die. -/
structure Placement where
  dies : List Die
  wardFirst : Nat
  wardCount : Nat
  perWard : Nat
deriving DecidableEq, Repr

/-- A ring entry that the dispatcher has read and not completed. -/
structure RingEntry where
  count : W32
  word : BitVec 512
  /-- Count of the previous DISPATCH entry of the ring, for R106. -/
  prev : Option W32
  phase : EntryPhase
  desc : BitVec 1024
  /-- The tensor descriptors, inputs then outputs (R113). -/
  tensors : List (BitVec 512)
  placement : Placement
  opSerial : W32
  /-- Wards whose completion token is held, as 24 × die + ward (R21). -/
  tokens : List Nat
  /-- Wards whose drained token came before their completion token (R127). -/
  drainedFirst : List Nat
  /-- First fault status received (R374). -/
  fault : Option Byte
  /-- Sequence of the fault record that raised it (R374 step 5). -/
  faultSeq : Option W32
deriving DecidableEq, Repr

/-- A command ring (R103–R105, Table 4.3). -/
structure Ring where
  enabled : Bool
  ctx : CtxId
  owner : RingOwner
  entries : Nat
  /-- Shelf SRAM offsets of the command ring and the completion ring. -/
  base : Nat
  cplBase : Nat
  /-- Tail last accepted from a doorbell. -/
  tail : W32
  /-- Entries read. -/
  head : W32
  cplTail : W32
  cplHead : W32
  /-- Entries read and not complete, oldest first. -/
  live : List RingEntry
  /-- A doorbell rung before ready (R24). -/
  heldTail : Option W32
  /-- The context is Draining: the ring stops at its entry boundary. -/
  stopped : Bool
  /-- Count of the DISPATCH entry last read. -/
  lastDispatch : Option W32
deriving DecidableEq, Repr

/-- No ring. Log: DESIGN CHOICE 3. -/
def Ring.reset : Ring :=
  { enabled := false, ctx := 0, owner := .host, entries := 64, base := 0, cplBase := 0, tail := 0, head := 0,
    cplTail := 0, cplHead := 0, live := [], heldTail := none, stopped := false,
    lastDispatch := none }

/-- The operator group. Rings are keyed 64 × base die + ring, contexts by ID. -/
structure Operators where
  contexts : Store Context
  rings : Store Ring
  /-- Holder of each compute die's start-order lock, as 64 × base die + ring (R108). -/
  locks : Store (Option Nat)
  /-- Start-queue places taken or promised, by tumbler key (R43). -/
  startTaken : Store Nat
  /-- Drained tokens that each dispatcher holds: base die, context, 24 × die + ward. -/
  drained : List (Nat × CtxId × Nat)
deriving DecidableEq, Repr

/-- Every context Free, no ring. -/
def Operators.reset : Operators := { contexts := [], rings := [], locks := [], startTaken := [], drained := [] }

end Sys2Proof.Machine
end

