-- ==== Sys2Proof/Machine/State/Optics.lean ====
section
/-! DEFINITION. State of the optical engines and the laser cartridges (chapter 7). -/

namespace Sys2Proof.Machine

/-- A laser of an engine's set; 0–15 fixed, 16 and 17 tunable (R202). -/
structure Laser where
  lit : Bool
  /-- Slot of a tunable laser that has been tuned; a fixed laser k stays on slot k. -/
  slot : Option Nat
  retired : Bool
  /-- Noted at a fade threshold (Table 7.3), or queued behind a running migration (R228). -/
  noted : Option FadeClass
  /-- Bias current that its output loop needs, in 0.1 mA (R203). -/
  bias : W64
  /-- Frequency error that its wavelength loop leaves, in GHz (R201, R203). -/
  freqErr : Int
deriving DecidableEq, Repr

/-- A dark laser. Log: DESIGN CHOICE 3. -/
def Laser.reset : Laser := { lit := false, slot := none, retired := false, noted := none, bias := 0, freqErr := 0 }

/-- What a ring is doing (R207–R212). -/
inductive RingState where
  | parked
  /-- Searching by a full sweep at start, or within its heater window in service. -/
  | sweeping | searching
  /-- A drop ring whose search found no light waits and searches again (R210). -/
  | waiting
  | locked
  /-- Its search has failed (R210). -/
  | failed
  | permanent
deriving DecidableEq, Repr

/-- A modulator or drop ring (R206). -/
structure OptRing where
  state : RingState
  driving : Bool
  /-- Heater segment in use 0–2, and those permanent or rejected (R212). -/
  segment : Nat
  badSegments : List Nat
  /-- Consecutive tone measurements that failed condition 1 or 2 (R211). -/
  failures : Nat
  /-- Releases in the present interval. -/
  releases : Nat
  /-- Output of its loop or of its search, in µW of heater power (R207, R209); 0 while the ring is parked. -/
  heater : Nat
  /-- Tones last measured (R210, R211). -/
  tone : Option ToneReading
deriving DecidableEq, Repr

/-- A parked ring on its first segment. Log: DESIGN CHOICE 3. -/
def OptRing.reset : OptRing :=
  { state := .parked, driving := false, segment := 0, badSegments := [], failures := 0, releases := 0, heater := 0,
    tone := none }

/-- Stage of a migration on one fiber (Table 7.5). -/
inductive MigStage where
  /-- The lane is duplicated and offered; offers sent so far (R227). -/
  | offered (n : Nat)
  /-- Ring of the new slot released: it searches, then offers again (R228). -/
  | searching
  | accepted (q : W32)
  | refused
  /-- No answer to the third offer: it keeps duplicating (R227). -/
  | duplicating
  /-- Choice 3 of R224: the new slot is not free on this fiber, so the lane stays on the old laser. -/
  | staying
deriving DecidableEq, Repr

/-- One fiber of a migration: the fiber, its logical lane, and the stage. -/
structure MigFiber where
  fiber : Nat
  lane : Nat
  stage : MigStage
deriving DecidableEq, Repr

/-- A migration of a laser's lanes, or of one lane, to a spare slot (R225, R230). -/
structure Migration where
  laser : Nat
  cls : FadeClass
  slot : Nat
  /-- The move of one lane on one fiber: no laser is retired (R230). -/
  single : Bool
  /-- Tunable laser being tuned to the slot, if it was dark. -/
  tunable : Option Nat
  begun : Bool
  /-- Ledger entry written and lanes duplicated. -/
  ledgered : Bool
  fibers : List MigFiber
deriving DecidableEq, Repr

/-- A compute die's feed-forward as one engine sees it (R215, R216). -/
structure Feed where
  seq : Option Byte
  /-- Last power word taken, in 0.1 W. -/
  power : Nat
  /-- The power through a first-order filter of each time constant, 5 to 200 µs, in 0.1 W with 16 fraction bits (R215). -/
  filtered : List Nat
  stale : Bool
  words : Nat
  /-- Times that the feed became stale or bore a word that is stale. -/
  staleEvents : Nat
deriving DecidableEq, Repr

/-- A feed of which no word has arrived. Log: DESIGN CHOICE 3. -/
def Feed.reset : Feed := { seq := none, power := 0, filtered := List.replicate 196 0, stale := false, words := 0, staleEvents := 0 }

/-- One engine (R201–R235). -/
structure Engine where
  /-- Its optics have started under Table 7.3. -/
  started : Bool
  lasers : Store Laser
  /-- Rings keyed 36 × fiber + 2 × slot + (0 modulator, 1 drop). -/
  rings : Store OptRing
  /-- Slot of each logical lane, keyed 32 × fiber + 16 × (0 transmit, 1 receive) + lane; lane L rides slot L unless listed. -/
  lanes : Store (Option Nat)
  /-- Lanes dropped, by the same key. -/
  dropped : List Nat
  /-- Receive lanes that the far end could not move, by the same key: dropped at the link's next training (R231). -/
  dropDue : List Nat
  /-- Consecutive STATUS reports below 3.0 dB and below 1.5 dB, keyed 16 × fiber + lane. -/
  below30 : Store Nat
  below15 : Store Nat
  migrations : List Migration
  /-- The migration that ended last (OPT_MIGRATION). -/
  lastMigration : Option Migration
  /-- Transmit lanes marked not ready, by lane key (R211). -/
  notReady : List Nat
  /-- Offers received whose comparison is under way: link fiber, lane and new slot (R226). -/
  offers : List (Nat × Nat × Nat)
  feeds : Store Feed
  /-- Fibers whose transmit attenuator is shut (R235). -/
  shut : List Nat
  /-- Fibers declared permanent (R234). -/
  deadFibers : List Nat
  /-- F8 serves this fiber's link (R234). -/
  f8For : Option Nat
  f8Spare : Bool
  f8Peer : ModId
  /-- Results of the last margin test of each fiber, transmit then receive lanes (OPT_MARGIN, R222). -/
  margins : Store (List LaneMargin × List LaneMargin)
  /-- Fibers whose margin-test result is published (R222), and the lanes that failed it. -/
  tested : List Nat
  marginFailed : List Nat
  /-- Slots on which a transmit lane has failed the test under way, by lane key (R221). -/
  failedSlots : List (Nat × Nat)
  /-- OPT_LASER_SEL and OPT_RING_SEL. -/
  laserSel : W64
  ringSel : W64
deriving DecidableEq, Repr

/-- An engine with dark optics; F8 is in idle mode, its attenuator shut (R233). Log: DESIGN CHOICE 3. -/
def Engine.reset : Engine :=
  { started := false, lasers := [], rings := [], lanes := [], dropped := [], dropDue := [], below30 := [], below15 := [],
    migrations := [], lastMigration := none, notReady := [], offers := [], feeds := [], shut := [8], deadFibers := [], f8For := none, f8Spare := false,
    f8Peer := 0, margins := [], tested := [], marginFailed := [], failedSlots := [], laserSel := 0, ringSel := 0 }

/-- A laser cartridge (R202, R236, R237). -/
structure Cartridge where
  present : Bool
  serial : W64
  /-- Its EEPROM's critical words agree; an absent word makes the cartridge absent (R237). -/
  wordsOk : Bool
  /-- It has been read in Table 7.3's first step since it was inserted. -/
  read : Bool
  overtemp : Bool
deriving DecidableEq, Repr

/-- A cartridge in place with good words. Log: DESIGN CHOICE 3. -/
def Cartridge.reset : Cartridge := { present := true, serial := 0, wordsOk := true, read := false, overtemp := false }

/-- The optics group. -/
structure Optics where
  engines : Store Engine
  cart0 : Cartridge
  cart1 : Cartridge
  /-- Serial number that the ledger holds for each cartridge position (R237). -/
  ledgerSerial : Store W64
  /-- Sequence number of each compute die's next feed-forward word (R214). -/
  ffSeq : Store Byte
deriving DecidableEq, Repr

/-- Dark optics with both cartridges in place. -/
def Optics.reset : Optics :=
  { engines := [], cart0 := Cartridge.reset, cart1 := Cartridge.reset, ledgerSerial := [], ffSeq := [] }

end Sys2Proof.Machine
end

