-- ==== Sys2Proof/Machine/State/Out.lean ====
section
/-! DEFINITION. What the block sends: every message, interrupt, answer and printed line that a command makes leaves as
one entry of `State.out`. A message between two units of the module leaves so as well, and its arrival is a command. -/

namespace Sys2Proof.Machine

/-- Notices to the fabric manager (Table 9.6). Log: DESIGN CHOICE 54. -/
inductive Notice where
  | moduleReady (bootCount : W32)
  | moduleReset
  | linkState (link : LinkIx) (state : Nat)
  | miscabled (link : LinkIx)
  | linkHeld (link : LinkIx)
  | keyRotate (link : LinkIx)
  | keyMismatch (link : LinkIx)
  | capacity
  | quarantine (ctx : CtxId)
  | routeFault (module : ModId) (hops : Nat)
deriving DecidableEq, Repr

/-- Commands that the keeper sends to a unit it watches (R332, R369, R384, R407). -/
inductive Signal where
  | heartbeatAnswer (die : BaseDie)
  | quiesce
  | fastLimit (level : Nat)
deriving DecidableEq, Repr

/-- Parts of a token's way (R41): a ward's uplink, a node of a compute die's router, a compute die's vertical bond, and a base die of the
base-die network. -/
inductive Hop where
  | uplink (die : Die) (ward : Nat)
  | node (die : Die) (row col : Nat)
  | bond (die : Die)
  | base (die : BaseDie)
deriving DecidableEq, Repr

/-- SPDM responses (Table 15.3). -/
inductive SpdmAnswer where
  | version (v : Byte)
  | capabilities
  | algorithms (chosen : Bool)
  | digests (d : BitVec 384)
  | certificate (slot : Nat)
  | challenge (sig : BitVec 768)
  | measurements (blocks : List (Nat × BitVec 384)) (sig : Option (BitVec 768))
  | keyExchange (session : Nat)
  | finish | endSession | keyUpdate | heartbeat
  | errorUnsupported | errorUnexpected | errorUnspecified | errorInvalid | errorDecrypt | errorSessionLimit
deriving DecidableEq, Repr

/-- PLDM and MCTP control responses (R317–R321). Log: DESIGN CHOICE 82. -/
inductive MctpAnswer where
  | endpointSet (eid : Byte)
  | control
  | base (command : Byte)
  | sensor (id : BitVec 16) (available : Bool) (value : Int)
  | repository
  | fru (serials : List W64)
  | updateAccepted | alreadyInUpdate | requestFirmwareData (offset : Nat) | activatePending | updateCancelled
  | verifyComplete (ok : Bool)
  | notInUpdate
  /-- The step of the update is not possible now. -/
  | updateRefused
  | firmware (cstat : W64) (results : List W64) (data : List Byte)
deriving DecidableEq, Repr

/-- One emission. Log: DESIGN CHOICE 7. -/
inductive Out where
  /-- An MSI-X message (R312). -/
  | msix (port : HostPort) (vec : Byte)
  /-- Successful PCIe completion with data, EP set or clear (R310). -/
  | completion (port : HostPort) (data : List Byte) (ep : Bool)
  | unsupported (port : HostPort)
  /-- A register read of an agent, its values in the order in which the register's table lists them (R10, R325). -/
  | registerRead (agent : Agent) (reg : Reg) (values : List Nat)
  /-- A malformed TLP reported through AER (R310). -/
  | malformed (port : HostPort)
  | doe (port : HostPort) (types : List Nat)
  /-- Answer to an application core, its precise access fault, and its local interrupt (R58, R60, Table 5.6). -/
  | coreData (core : CoreIx) (data : List Byte)
  | coreFault (core : CoreIx)
  | coreInterrupt (core : CoreIx)
  | coreRelease (core : CoreIx) (pc : PAddr) (a0 a1 : W64)
  | coreStop (core : CoreIx)
  /-- Credit and control tokens (Table 2.2), and start tokens with their header. -/
  | token (t : Token)
  | startToken (header : W64) (t : StartTok)
  /-- A data token to another ward, with the nodes that it crosses (R41). -/
  | routed (t : Token) (path : List Hop)
  /-- Requests to homes, and the homes' answers. -/
  | homeRead (reader : Reader) (addr : PAddr) (len : Nat)
  | homeWrite (writer : Writer) (addr : PAddr) (data : List Byte)
  | homeAtomic (reader : Reader) (op : AtomicOp) (addr : PAddr) (operand compare : W64)
  | homeAnswer (reader : Reader) (data : List Byte) (poisoned : Bool)
  | homeAck (writer : Writer)
  | homeOld (reader : Reader) (old : W64) (poisoned : Bool)
  /-- Micro-image code or tables that a ward switch fetches (R56). -/
  | imageFetch (t : TumId) (image : W32) (tables : Bool)
  /-- Sideband messages of an edge (Table 6.7). -/
  | pos (die : BaseDie) (port : Port4) (position expects : W64)
  | retrainReq (edge : EdgeIx) (fromLow : Bool) (groups : Byte) (cause : Cause)
  | mask (edge : EdgeIx) (fromLow : Bool) (tx rx : BitVec 136) (round : Nat)
  | plan (edge : EdgeIx) (fromLow : Bool) (p : PlanMsg)
  | apply (edge : EdgeIx) (fromLow : Bool) (seqUp seqDown : List (BitVec 10))
  | qtest (edge : EdgeIx) (fromLow : Bool) (pass : BitVec 32)
  | time (die : BaseDie) (stamp : W64)
  /-- Flits and retry requests of a group, and a delivered beat. -/
  | flit (edge : EdgeIx) (dir : Dir) (group : Fin 8) (f : BitVec 576)
  | retry (edge : EdgeIx) (dir : Dir) (group : Fin 8) (seq : BitVec 10)
  | deliver (edge : EdgeIx) (dir : Dir) (cls : Nat) (set : Bool) (beat : BitVec 512)
  /-- Engine-site sideband (R196, R197). -/
  | descriptor (engine : EngineIx) (desc : BitVec 512)
  | resend (engine : EngineIx)
  /-- Feed-forward words (R214). -/
  | feedWord (engine : EngineIx) (word : W32)
  /-- Optical messages on VC 0 (Table 7.6). -/
  | status (link : LinkIx) (msg : OptStatus)
  | migOffer (link : LinkIx) (lane oldSlot newSlot : Nat)
  | migDone (link : LinkIx) (lane newSlot : Nat) (accept : Bool) (q : W32)
  | laneReq (link : LinkIx) (lane : Nat)
  | probeLight (engine : EngineIx) (fiber : FiberIx)
  /-- A data unit of a link, with its words as they are dealt to the active lanes (R243). -/
  | unit (link : LinkIx) (seq : BitVec 12) (u : List Byte) (words : List (Nat × W64))
  /-- NAK and idle units, and the control messages, of which each lane of a mask carries a complete copy (R243). -/
  | nak (link : LinkIx) (seq : BitVec 12)
  | ack (link : LinkIx) (seq : BitVec 12)
  | retrain (link : LinkIx) (lanes : BitVec 16) (kind : RetrainKind) (cause : RetrainCause) (sender : ModId) (round : Nat)
  | train (link : LinkIx) (lanes : BitVec 16) (msg : TrainMsg)
  | linkOpen (link : LinkIx) (lanes : BitVec 16) (msg : OpenMsg)
  | openEcho (link : LinkIx) (lanes : BitVec 16) (msg : OpenMsg)
  | linkLost (twin link : LinkIx) (bootCount : W32) (expect : BitVec 12)
  /-- A domain message on a link (Tables 9.2 and 9.3). -/
  | message (link : LinkIx) (msg : DomMsg)
  | notice (n : Notice)
  | signal (s : Signal)
  /-- A latch image and its digest across an open edge (R428). -/
  | latchImage (die : BaseDie) (digest : BitVec 384)
  | mctp (binding : Fin 3) (eid : Byte) (answer : MctpAnswer)
  | spdm (conn : SpdmConn) (answer : SpdmAnswer)
  /-- A line printed on the console (R443); values that the manual leaves to their units are listed after the text. -/
  | line (text : String) (values : List Int)
  /-- A pulse of FAULT_N (R381). -/
  | faultPulse
  | smbusRelease
deriving DecidableEq, Repr

end Sys2Proof.Machine
end

