-- ==== Sys2Proof/Machine/State/Power.lean ====
section
/-! DEFINITION. State of power (chapter 13): the 64 V input and the power stage, rails and phases, governors, the power
cap, the fast limit and THROTTLE_N. -/

namespace Sys2Proof.Machine

/-- The power stage PS (R390, R392). -/
inductive PsState where
  /-- Off: waits for the start row of Table 13.1. -/
  | off
  | running
  /-- Stopped by an overvoltage; restarts once the input has stayed at or below 72 V for 1 s (Table 13.1). -/
  | overvoltage
  /-- Stopped once by R392; restarts after 5 s. -/
  | stopped
  /-- Stopped twice within 60 s: off until the input falls below 48 V and rises again (R392). -/
  | keptOff
deriving DecidableEq, Repr

/-- Input bands of Table 13.1 that a LOG event marks. -/
inductive InputBand where
  | low | operating | high
deriving DecidableEq, Repr

/-- One rail of Table 13.2. -/
structure Rail where
  /-- The rail is up and in regulation. -/
  up : Bool
  /-- Phases turned off by an overcurrent trip, until their restart (R395). -/
  tripped : List Nat
  /-- Padlocked phases (R395, R376). -/
  padlocked : List Nat
  /-- Sense element chosen for each phase; element 0 unless listed (R418). -/
  element : Store Nat
  /-- Sense elements declared permanent, as `4 × phase + element` (R419). -/
  badElements : List Nat
  /-- Present current measured on each phase, in 10 mA. -/
  current : Store Nat
  /-- The last readings of each phase's three elements, in 10 mA (R419). -/
  readings : Store (List Nat)
  /-- Millisecond comparisons for which a phase's elements have diverged (R419). -/
  diverging : Store Nat
deriving DecidableEq, Repr

/-- A rail in regulation with every phase good. -/
def Rail.reset : Rail :=
  { up := true, tripped := [], padlocked := [], element := [], badElements := [], current := [], readings := [], diverging := [] }

/-- The governor of a compute die, its GOV block: one request per source of Table 13.7. -/
structure Governor where
  level : Nat
  thermal : Nat
  rate : Nat
  diode : Nat
  /-- Least thermal request, where the partition's thermal model has no calibration (Table 14.2). -/
  calFloor : Nat
  rail : Nat
  ramp : Nat
  cap : Nat
  /-- Steps since each source's request last moved, by which a fall of one step per 1 ms is paced (R404). -/
  thermalAge : Nat
  rateAge : Nat
  railAge : Nat
  rampAge : Nat
  /-- Die power in mW at the last ten loops, newest first (R406). -/
  power : List Nat
  /-- Engines whose feed from this die is stale (R216). -/
  stale : List Nat
  /-- Firing counts of each ward since the last model step, and over that step (GOV_FIRING). -/
  firingNow : Store Nat
  firing : Store Nat
deriving DecidableEq, Repr

/-- A governor with no request. -/
def Governor.reset : Governor :=
  { level := 0, thermal := 0, rate := 0, diode := 0, calFloor := 0, rail := 0, ramp := 0, cap := 0, thermalAge := 0, rateAge := 0,
    railAge := 0, rampAge := 0, power := [], stale := [], firingNow := [], firing := [] }

/-- The power group. Log: DESIGN CHOICE 147. -/
structure Power where
  ps : PsState
  inputMv : Nat
  inputMw : Nat
  band : InputBand
  /-- A first stop of R392 that a second within 60 s follows. -/
  stoppedOnce : Bool
  lastStop : Option PsStopCause
  /-- Stop causes in the power stage's EEPROM that the keeper has not yet read (R392). -/
  eeprom : List PsStopCause
  /-- The power stage's own calibration is present (Table 14.2). -/
  psCal : Bool
  /-- The input contacts have mated and the inrush limit is charging the input capacitance (R470). -/
  inrush : Bool
  /-- The 12 V bus is in regulation. -/
  bus12 : Bool
  /-- Every rail of Table 13.3 that the start needs is in regulation: time 0 of Table 11.4. -/
  railsUp : Bool
  /-- An escalation has turned every rail but VRET off (R384). -/
  escalated : Bool
  /-- The retained region's supply VRET has stayed up since it was last powered. -/
  retained : Bool
  rails : Store Rail
  governors : Store Governor
  fastLimit : Bool
  throttleN : Bool
  /-- The sequencer's level-4 request stands (R409). -/
  throttleHold : Bool
  /-- 1 ms has passed since the assertion (R409). -/
  throttleHoldDue : Bool
  /-- The keeper has not yet acted on the present assertion (R409). -/
  throttleUnseen : Bool
  /-- Steps for which the input has stayed below 90 % of P_cap (R405). -/
  capBelow : Nat
  /-- The last cap step lowered the request (R405). -/
  capLowered : Bool
  /-- A level barred by R405 and the 100 µs steps for which it stays barred. -/
  capBar : Option (Nat × Nat)
  /-- PWR_RAIL_SEL of each base die. -/
  railSel : Store W64
  /-- REFCLK is present at P0 (R193, R464). -/
  refclk : Bool
  /-- RESET_N is held low. -/
  resetN : Bool
deriving DecidableEq, Repr

/-- Power right after a whole-module reset takes effect: the power stage runs at 64 V, every rail in regulation.
Log: DESIGN CHOICE 3. -/
def Power.reset : Power :=
  { ps := .running, inputMv := 64000, inputMw := 0, band := .operating, stoppedOnce := false, lastStop := none,
    eeprom := [], psCal := true, inrush := false, bus12 := true, railsUp := true, escalated := false, retained := true, rails := [],
    governors := [], fastLimit := false, throttleN := false, throttleHold := false, throttleHoldDue := false,
    throttleUnseen := false, capBelow := 0, capLowered := false, capBar := none, railSel := [], refclk := true,
    resetN := false }

end Sys2Proof.Machine
end

