-- ==== Sys2Proof/Machine/State/Service.lean ====
section
/-! DEFINITION. State of calibration (chapter 14), security (chapter 15) and the service console (chapter 16). -/

namespace Sys2Proof.Machine

/-- A calibration value that comes into force gradually (R423): the part of the difference still to be applied is
`num / den` in units of the word's least significant bit. -/
structure Moving where
  target : Int
  num : Int
  den : Nat
deriving DecidableEq, Repr

/-- One copy of the body calibration store (R417): its eight header words and its calibration words. An item that is not listed holds
the factory's word. -/
structure CalCopy where
  header : List W64
  words : Store W64
deriving DecidableEq, Repr

/-- The calibration group. Items are keyed 65536 × quantity code + item index; of an index the item has its own meaning by quantity
(log entry 151). -/
structure Calibration where
  /-- The two copies of the body store (R412). -/
  copyA : CalCopy
  copyB : CalCopy
  /-- Words in use, as the last start read them and commits have changed them; the factory's unless listed (R415). -/
  words : Store W64
  /-- Generation of the words in use (R417, R421). -/
  generation : Nat
  /-- Items whose word was absent in both copies (Table 14.2). -/
  absent : List Nat
  /-- Values coming into force (R423). -/
  moving : Store (Option Moving)
  /-- Items passed and failed of the run in progress, or of the last one. -/
  passed : Nat
  failed : Nat
  /-- CAL_SEL of each base die. -/
  sel : Store W64
deriving DecidableEq, Repr

/-- A copy as the factory leaves it, for serial number 0: a good header of generation 0 and no word listed (log entry 153).
Log: DESIGN CHOICE 3. -/
def CalCopy.reset : CalCopy :=
  { header := [0xBCBEB3CE43414C31, 0xFFFFFFFE00000001, 0xFFFFFFFF00000000, 0xFFFFFFFF00000000, 0xFFFFFFFF00000000,
      0xFFFFFFFF00000000, 0xFFFFFFFF00000000, 0xFFFFFFFF00000000], words := [] }

/-- A body store with no word listed. Log: DESIGN CHOICE 3. -/
def Calibration.reset : Calibration :=
  { copyA := CalCopy.reset, copyB := CalCopy.reset, words := [], generation := 0, absent := [], moving := [], passed := 0, failed := 0, sel := [] }

/-- An SPDM session (R433). -/
structure Session where
  id : Nat
  conn : SpdmConn
  /-- The handshake has completed. -/
  established : Bool
  /-- Key updates made. -/
  updates : Nat
deriving DecidableEq, Repr

/-- How far a connection has negotiated (R433). -/
inductive SpdmPhase where
  | start | version | capabilities | algorithms
deriving DecidableEq, Repr

/-- The security group (R426–R440). Fuse fields read absent as none. -/
structure Security where
  vendorRootHash : Option (BitVec 384)
  uds : Option (BitVec 384)
  ownerHash : Option (BitVec 384)
  /-- owner_state: bit 0 programmed, bit 1 revoked. -/
  ownerState : Option (BitVec 2)
  vendorDebugOff : Option Bool
  /-- svn steps blown, 0 to 64 (R429). -/
  svn : Nat
  /-- The read path to uds is closed for this start. -/
  udsClosed : Bool
  scopes : BitVec 4
  token : Option DebugToken
  nonce : BitVec 384
  /-- Alias private key that Idore holds (R432). -/
  aliasKey : Option (BitVec 384)
  /-- Measurements 1–8 of Table 15.4 that a start fixes; those that fuses and images change are computed. -/
  measures : Store (BitVec 384)
  phases : List (SpdmConn × SpdmPhase)
  sessions : List Session
  nextSession : Nat
deriving DecidableEq, Repr

/-- Fuses as the factory leaves them, every debug path locked. -/
def Security.reset : Security :=
  { vendorRootHash := some 0, uds := some 0, ownerHash := none, ownerState := some 0, vendorDebugOff := some false,
    svn := 0, udsClosed := false, scopes := 0, token := none, nonce := 0, aliasKey := none, measures := [], phases := [],
    sessions := [], nextSession := 0 }

/-- The service console (R441–R446). -/
structure Console where
  /-- A command runs in mailbox 15. -/
  busy : Bool
  /-- Characters are discarded until the next valid one (R467). -/
  breaking : Bool
  /-- The boot ROM has printed its banner (R441). -/
  banner : Bool
deriving DecidableEq, Repr

/-- An idle console. Log: DESIGN CHOICE 3. -/
def Console.reset : Console := { busy := false, breaking := false, banner := false }

end Sys2Proof.Machine
end

