-- ==== Sys2Proof/Machine/State/Thermal.lean ====
section
/-! DEFINITION. State of the thermal model (chapter 13). Temperatures are in 0.01 °C. Parts are numbered 0–11 compute
dies, 12–17 base dies, 18–29 stacks, 30–37 engines, 38–39 cartridges. -/

namespace Sys2Proof.Machine

/-- One diode sensor (R399). -/
structure Diode where
  reading : Int
  /-- Consecutive steps for which it has differed from its node by more than 5 °C. -/
  diverging : Nat
  padlocked : Bool
deriving DecidableEq, Repr

/-- A diode that agrees with its node. -/
def Diode.reset : Diode := { reading := 0, diverging := 0, padlocked := false }

/-- The thermal group. -/
structure Thermal where
  /-- Node temperatures, keyed 1024 × base die + node (Table 13.4). -/
  nodes : Store Int
  /-- Hotspot of each part as the module takes it (R397, R399). -/
  hotspot : Store Int
  /-- Band of each part (R402). -/
  band : Store Nat
  /-- Hotspots of each compute die at the last ten steps, newest first (R401). -/
  history : Store (List Int)
  /-- Diodes, keyed 12 × die + diode, dies 0–11 compute and 12–17 base. -/
  diodes : Store Diode
  /-- Parts in divergence (R399), with the steps for which every sensor has agreed within 2 °C. -/
  diverged : Store (Option Nat)
  /-- Consecutive steps for which a stack's readout has differed from the model. -/
  stackDiverging : Store Nat
  /-- Readout of each stack in 0.01 °C (Table 5.5). -/
  stackReadout : Store Int
  inlet : Int
  outlet : Int
  predictedRise : Int
  /-- THM_DIODE_SEL of each base die. -/
  diodeSel : Store W64
deriving DecidableEq, Repr

/-- The model before its first step. Log: DESIGN CHOICE 3. -/
def Thermal.reset : Thermal :=
  { nodes := [], hotspot := [], band := [], history := [], diodes := [], diverged := [], stackDiverging := [],
    stackReadout := [], inlet := 0, outlet := 0, predictedRise := 0, diodeSel := [] }

end Sys2Proof.Machine
end

