-- ==== Sys2Proof/Machine/State.lean ====
section
/-! DEFINITION. The state of the module, plain data, with the queue of waiting commands; the reasons a step can stop; and
the module right after a whole-module reset. -/

namespace Sys2Proof.Machine

/-- Faults that stop a step. No command of this block stops: every fault of the manual is an effect on the state. -/
inductive Fault where
  /-- Raised by no command: it stands for an access to state that does not exist. Safe: a stop allows no false claim. -/
  | noSuchState
deriving DecidableEq, Repr

/-- Refusals of a command. -/
inductive Refusal where
  /-- Raised by `exec` for a command whose meaning is not written. Safe: nothing is claimed of it. -/
  | notModelled (mnemonic : String)
deriving DecidableEq, Repr

/-- The module. Each group follows the chapter named in its file; `out` is what the module has sent, oldest first;
`freeIx` counts the free values taken from `Config.freeValue`; `pending` is the queue of waiting commands. Log: DESIGN CHOICE 8. -/
structure State where
  power : Power
  thermal : Thermal
  host : HostGroup
  tel : Telemetry
  faults : Faults
  keeper : Keeper
  flash : Flash
  compute : Compute
  ops : Operators
  mem : Memory
  d2d : D2d
  optics : Optics
  domain : Domain
  cal : Calibration
  sec : Security
  console : Console
  out : List Out
  freeIx : Nat
  pending : List Instr
deriving DecidableEq, Repr

/-- The module right after a whole-module reset has taken effect, before its start begins: the power stage runs and every
rail is in regulation, flash and fuses are as the factory leaves them, and no command waits. Log: DESIGN CHOICE 3. -/
def State.reset : State :=
  { power := Power.reset, thermal := Thermal.reset, host := HostGroup.reset, tel := Telemetry.reset,
    faults := Faults.reset, keeper := Keeper.reset, flash := Flash.reset, compute := Compute.reset,
    ops := Operators.reset, mem := Memory.reset, d2d := D2d.reset, optics := Optics.reset, domain := Domain.reset,
    cal := Calibration.reset, sec := Security.reset, console := Console.reset, out := [], freeIx := 0, pending := [] }

end Sys2Proof.Machine
end

