-- ==== Sys2Proof/Machine/Access.lean ====
section
/-! DEFINITION. One home for every indexed unit: the accessors through which each family of units is read and written. -/

namespace Sys2Proof.Machine

/-- The rail number of Table 13.2 `k`: what `rails` holds for it. -/
def State.rail (s : State) (k : Nat) : Rail := Store.get Rail.reset s.power.rails k

/-- Write it. -/
def State.setRail (s : State) (k : Nat) (v : Rail) : State :=
  { s with power := { s.power with rails := Store.put Rail.reset s.power.rails k v } }

/-- Change it by `f`. -/
def State.modRail (s : State) (k : Nat) (f : Rail → Rail) : State := s.setRail k (f (s.rail k))

/-- The compute die `k`: what `governors` holds for it. -/
def State.governor (s : State) (k : Nat) : Governor := Store.get Governor.reset s.power.governors k

/-- Write it. -/
def State.setGovernor (s : State) (k : Nat) (v : Governor) : State :=
  { s with power := { s.power with governors := Store.put Governor.reset s.power.governors k v } }

/-- Change it by `f`. -/
def State.modGovernor (s : State) (k : Nat) (f : Governor → Governor) : State := s.setGovernor k (f (s.governor k))

/-- The BAR2 segment `k`: what `segments` holds for it. -/
def State.segment (s : State) (k : Nat) : Segment := Store.get Segment.reset s.host.segments k

/-- Write it. -/
def State.setSegment (s : State) (k : Nat) (v : Segment) : State :=
  { s with host := { s.host with segments := Store.put Segment.reset s.host.segments k v } }

/-- Change it by `f`. -/
def State.modSegment (s : State) (k : Nat) (f : Segment → Segment) : State := s.setSegment k (f (s.segment k))

/-- The mailbox `k`: what `mailboxes` holds for it. -/
def State.mailbox (s : State) (k : Nat) : Mailbox := Store.get Mailbox.reset s.keeper.mailboxes k

/-- Write it. -/
def State.setMailbox (s : State) (k : Nat) (v : Mailbox) : State :=
  { s with keeper := { s.keeper with mailboxes := Store.put Mailbox.reset s.keeper.mailboxes k v } }

/-- Change it by `f`. -/
def State.modMailbox (s : State) (k : Nat) (f : Mailbox → Mailbox) : State := s.setMailbox k (f (s.mailbox k))

/-- The base die `k`: what `latches` holds for it. -/
def State.latch (s : State) (k : Nat) : Latch := Store.get Latch.reset s.keeper.latches k

/-- Write it. -/
def State.setLatch (s : State) (k : Nat) (v : Latch) : State :=
  { s with keeper := { s.keeper with latches := Store.put Latch.reset s.keeper.latches k v } }

/-- Change it by `f`. -/
def State.modLatch (s : State) (k : Nat) (f : Latch → Latch) : State := s.setLatch k (f (s.latch k))

/-- The tumbler key `k`: what `tumblers` holds for it. -/
def State.tumbler (s : State) (k : Nat) : Tumbler := Store.get Tumbler.reset s.compute.tumblers k

/-- Write it. -/
def State.setTumbler (s : State) (k : Nat) (v : Tumbler) : State :=
  { s with compute := { s.compute with tumblers := Store.put Tumbler.reset s.compute.tumblers k v } }

/-- Change it by `f`. -/
def State.modTumbler (s : State) (k : Nat) (f : Tumbler → Tumbler) : State := s.setTumbler k (f (s.tumbler k))

/-- The ward key `k`: what `wards` holds for it. -/
def State.ward (s : State) (k : Nat) : Ward := Store.get Ward.reset s.compute.wards k

/-- Write it. -/
def State.setWard (s : State) (k : Nat) (v : Ward) : State :=
  { s with compute := { s.compute with wards := Store.put Ward.reset s.compute.wards k v } }

/-- Change it by `f`. -/
def State.modWard (s : State) (k : Nat) (f : Ward → Ward) : State := s.setWard k (f (s.ward k))

/-- The module-wide core index `k`: what `cores` holds for it. -/
def State.core (s : State) (k : Nat) : AppCore := Store.get AppCore.reset s.compute.cores k

/-- Write it. -/
def State.setCore (s : State) (k : Nat) (v : AppCore) : State :=
  { s with compute := { s.compute with cores := Store.put AppCore.reset s.compute.cores k v } }

/-- Change it by `f`. -/
def State.modCore (s : State) (k : Nat) (f : AppCore → AppCore) : State := s.setCore k (f (s.core k))

/-- The context ID `k`: what `contexts` holds for it. -/
def State.context (s : State) (k : Nat) : Context := Store.get Context.reset s.ops.contexts k

/-- Write it. -/
def State.setContext (s : State) (k : Nat) (v : Context) : State :=
  { s with ops := { s.ops with contexts := Store.put Context.reset s.ops.contexts k v } }

/-- Change it by `f`. -/
def State.modContext (s : State) (k : Nat) (f : Context → Context) : State := s.setContext k (f (s.context k))

/-- The ring key, 64 × base die + ring `k`: what `rings` holds for it. -/
def State.ring (s : State) (k : Nat) : Ring := Store.get Ring.reset s.ops.rings k

/-- Write it. -/
def State.setRing (s : State) (k : Nat) (v : Ring) : State :=
  { s with ops := { s.ops with rings := Store.put Ring.reset s.ops.rings k v } }

/-- Change it by `f`. -/
def State.modRing (s : State) (k : Nat) (f : Ring → Ring) : State := s.setRing k (f (s.ring k))

/-- The stack `k`: what `hbm` holds for it. -/
def State.stack (s : State) (k : Nat) : Stack := Store.get Stack.reset s.mem.hbm k

/-- Write it. -/
def State.setStack (s : State) (k : Nat) (v : Stack) : State :=
  { s with mem := { s.mem with hbm := Store.put Stack.reset s.mem.hbm k v } }

/-- Change it by `f`. -/
def State.modStack (s : State) (k : Nat) (f : Stack → Stack) : State := s.setStack k (f (s.stack k))

/-- The base die `k`: what `shelves` holds for it. -/
def State.shelf (s : State) (k : Nat) : Shelf := Store.get Shelf.reset s.mem.shelves k

/-- Write it. -/
def State.setShelf (s : State) (k : Nat) (v : Shelf) : State :=
  { s with mem := { s.mem with shelves := Store.put Shelf.reset s.mem.shelves k v } }

/-- Change it by `f`. -/
def State.modShelf (s : State) (k : Nat) (f : Shelf → Shelf) : State := s.setShelf k (f (s.shelf k))

/-- The base die `k`: what `bases` holds for it. -/
def State.base (s : State) (k : Nat) : BaseState := Store.get BaseState.reset s.d2d.bases k

/-- Write it. -/
def State.setBase (s : State) (k : Nat) (v : BaseState) : State :=
  { s with d2d := { s.d2d with bases := Store.put BaseState.reset s.d2d.bases k v } }

/-- Change it by `f`. -/
def State.modBase (s : State) (k : Nat) (f : BaseState → BaseState) : State := s.setBase k (f (s.base k))

/-- The edge `k`: what `edges` holds for it. -/
def State.edge (s : State) (k : Nat) : Edge := Store.get Edge.reset s.d2d.edges k

/-- Write it. -/
def State.setEdge (s : State) (k : Nat) (v : Edge) : State :=
  { s with d2d := { s.d2d with edges := Store.put Edge.reset s.d2d.edges k v } }

/-- Change it by `f`. -/
def State.modEdge (s : State) (k : Nat) (f : Edge → Edge) : State := s.setEdge k (f (s.edge k))

/-- The engine `k`: what `sites` holds for it. -/
def State.site (s : State) (k : Nat) : Site := Store.get Site.reset s.d2d.sites k

/-- Write it. -/
def State.setSite (s : State) (k : Nat) (v : Site) : State :=
  { s with d2d := { s.d2d with sites := Store.put Site.reset s.d2d.sites k v } }

/-- Change it by `f`. -/
def State.modSite (s : State) (k : Nat) (f : Site → Site) : State := s.setSite k (f (s.site k))

/-- The engine `k`: what `engines` holds for it. -/
def State.engine (s : State) (k : Nat) : Engine := Store.get Engine.reset s.optics.engines k

/-- Write it. -/
def State.setEngine (s : State) (k : Nat) (v : Engine) : State :=
  { s with optics := { s.optics with engines := Store.put Engine.reset s.optics.engines k v } }

/-- Change it by `f`. -/
def State.modEngine (s : State) (k : Nat) (f : Engine → Engine) : State := s.setEngine k (f (s.engine k))

/-- The link index `k`: what `links` holds for it. -/
def State.link (s : State) (k : Nat) : Link := Store.get Link.reset s.domain.links k

/-- Write it. -/
def State.setLink (s : State) (k : Nat) (v : Link) : State :=
  { s with domain := { s.domain with links := Store.put Link.reset s.domain.links k v } }

/-- Change it by `f`. -/
def State.modLink (s : State) (k : Nat) (f : Link → Link) : State := s.setLink k (f (s.link k))

/-- The collective group `k`: what `groups` holds for it. -/
def State.group (s : State) (k : Nat) : Group := Store.get Group.reset s.domain.groups k

/-- Write it. -/
def State.setGroup (s : State) (k : Nat) (v : Group) : State :=
  { s with domain := { s.domain with groups := Store.put Group.reset s.domain.groups k v } }

/-- Change it by `f`. -/
def State.modGroup (s : State) (k : Nat) (f : Group → Group) : State := s.setGroup k (f (s.group k))

/-- A PCIe port. Log: DESIGN CHOICE 80. -/
def State.port (s : State) : HostPort → Port
  | .a => s.host.portA
  | .b => s.host.portB

/-- Write a port. -/
def State.setPort (s : State) (p : HostPort) (v : Port) : State :=
  match p with
  | .a => { s with host := { s.host with portA := v } }
  | .b => { s with host := { s.host with portB := v } }

/-- Change a port by `f`. -/
def State.modPort (s : State) (p : HostPort) (f : Port → Port) : State := s.setPort p (f (s.port p))

/-- The other port. -/
def otherPort : HostPort → HostPort
  | .a => .b
  | .b => .a

/-- A flash part, 0 A and 1 B. -/
def State.part (s : State) (k : Nat) : FlashPart := if k = 0 then s.flash.partA else s.flash.partB

/-- Write a flash part. -/
def State.setPart (s : State) (k : Nat) (v : FlashPart) : State :=
  if k = 0 then { s with flash := { s.flash with partA := v } } else { s with flash := { s.flash with partB := v } }

/-- Change a flash part by `f`. -/
def State.modPart (s : State) (k : Nat) (f : FlashPart → FlashPart) : State := s.setPart k (f (s.part k))

/-- A laser cartridge. -/
def State.cart (s : State) (k : Nat) : Cartridge := if k = 0 then s.optics.cart0 else s.optics.cart1

/-- Write a cartridge. -/
def State.setCart (s : State) (k : Nat) (v : Cartridge) : State :=
  if k = 0 then { s with optics := { s.optics with cart0 := v } } else { s with optics := { s.optics with cart1 := v } }

/-- Change a cartridge by `f`. -/
def State.modCart (s : State) (k : Nat) (f : Cartridge → Cartridge) : State := s.setCart k (f (s.cart k))

/-- A group's sender and receiver in one direction of an edge. -/
def Edge.groupState (e : Edge) (d : Dir) (g : Nat) : GroupState :=
  match d with
  | .up => Store.get GroupState.reset e.groupsUp g
  | .down => Store.get GroupState.reset e.groupsDown g

/-- Write a group. -/
def Edge.setGroup (e : Edge) (d : Dir) (g : Nat) (v : GroupState) : Edge :=
  match d with
  | .up => { e with groupsUp := Store.put GroupState.reset e.groupsUp g v }
  | .down => { e with groupsDown := Store.put GroupState.reset e.groupsDown g v }

/-- A laser of an engine. -/
def Engine.laser (e : Engine) (k : Nat) : Laser := Store.get Laser.reset e.lasers k

/-- Change a laser by `f`. -/
def Engine.modLaser (e : Engine) (k : Nat) (f : Laser → Laser) : Engine :=
  { e with lasers := Store.put Laser.reset e.lasers k (f (e.laser k)) }

/-- A ring of an engine by its key. -/
def Engine.ring (e : Engine) (k : Nat) : OptRing := Store.get OptRing.reset e.rings k

/-- Change a ring by `f`. -/
def Engine.modRing (e : Engine) (k : Nat) (f : OptRing → OptRing) : Engine :=
  { e with rings := Store.put OptRing.reset e.rings k (f (e.ring k)) }

end Sys2Proof.Machine
end

