-- ==== Sys2Proof/Machine/Bits.lean ====
section
/-! DEFINITION. Little-endian bytes (R6), bit fields, critical words (R362) and the CRCs of the module's formats. -/

namespace Sys2Proof.Machine

/-- The `n` low bytes of `v`, least significant first (R6). -/
def leBytes : Nat → Nat → List Byte
  | 0, _ => []
  | n + 1, v => BitVec.ofNat 8 v :: leBytes n (v / 256)

/-- The number whose little-endian bytes these are. -/
def leNat : List Byte → Nat
  | [] => 0
  | b :: bs => b.toNat + 256 * leNat bs

/-- Bits [lo + n − 1 : lo] of a number. -/
def bitsOf (v lo n : Nat) : Nat := v / 2 ^ lo % 2 ^ n

/-- `v` with bits [lo + n − 1 : lo] replaced by `x`. -/
def putField {w : Nat} (v : BitVec w) (lo n x : Nat) : BitVec w :=
  (v &&& ~~~ (BitVec.ofNat w ((2 ^ n - 1) * 2 ^ lo))) ||| BitVec.ofNat w (x % 2 ^ n * 2 ^ lo)

/-- A field of a bit vector as a number. -/
def field {w : Nat} (v : BitVec w) (lo n : Nat) : Nat := bitsOf v.toNat lo n

/-- The value of a critical word, or none where its halves disagree (R362). -/
def critValue (w : W64) : Option W32 :=
  let lo := w.setWidth 32
  if (w >>> 32).setWidth 32 = ~~~lo then some lo else none

/-- Set or clear bit `k`. -/
def putBit {w : Nat} (v : BitVec w) (k : Nat) (b : Bool) : BitVec w := putField v k 1 b.toNat

/-- One step of a most-significant-first CRC register of `w` bits. -/
def crcStep {w : Nat} (poly : BitVec w) (r : BitVec w) (bit : Bool) : BitVec w :=
  let s := r <<< 1
  if r.msb != bit then s ^^^ poly else s

/-- Eight bits of a byte, most significant first. -/
def msbBits (b : Byte) : List Bool := [b.getLsbD 7, b.getLsbD 6, b.getLsbD 5, b.getLsbD 4, b.getLsbD 3, b.getLsbD 2,
  b.getLsbD 1, b.getLsbD 0]

/-- CRC over bits, the register starting at all ones and the result inverted. -/
def crcBits {w : Nat} (poly : BitVec w) (bits : List Bool) : BitVec w :=
  ~~~ (bits.foldl (crcStep poly) (BitVec.allOnes w))

/-- CRC-64 of a flow unit: ECMA-182 over the 16-bit prefix, high byte first, and bytes 0–247 (R241). -/
def crc64 (pre : BitVec 16) (bytes : List Byte) : W64 :=
  crcBits 0x42F0E1EBA9EA3693#64
    ((([(pre >>> 8).setWidth 8, pre.setWidth 8] ++ bytes).map msbBits).flatten)

/-- The bits of a vector, most significant first. Log: PRESUMED 12. -/
def vecBits : (n : Nat) → Nat → List Bool
  | 0, _ => []
  | n + 1, v => v.testBit n :: vecBits n v

/-- CRC-32C (Castagnoli) over bits [hi − 1 : 0] of a number, most significant first. PRESUMED: the manual gives the
polynomial; the register start, the final inversion and the bit order are taken as R241 takes them (log entry 12).
Log: PRESUMED 12. -/
def crc32c (n v : Nat) : W32 := crcBits 0x1EDC6F41#32 (vecBits n v)

/-- Set of bits of a vector as indices below `n`. -/
def setBits {w : Nat} (v : BitVec w) : List Nat := (List.range w).filter fun i => v.getLsbD i

end Sys2Proof.Machine
end

