-- ==== Sys2Proof/Machine/Hinge.lean ====
section
/-! DEFINITION. The hinge map ROM (R169, R170) and the package's fixed wiring that it names: neighbours, edges, clock inputs, sites,
stacks and ports. -/

namespace Sys2Proof.Machine

/-- Fields of a hinge map entry (Table 6.2). -/
structure Hinge where
  posValid : Bool
  keeper : Bool
  clockIn : Nat
  clockSource : Bool
  pciePort : Bool
  pcieEnable : Bool
  computeSwap : Bool
  hbmPhy1 : Nat
  hbmPhy0 : Nat
  engineLo : Nat
  siteEnable : Nat
  d2dEnable : Nat
  /-- Neighbours north, east, south and west; 7 for none. -/
  nbr : List Nat
  rotation : Bool
  /-- Physical ports of logical north, east, south and west. -/
  phys : List Nat
deriving DecidableEq, Repr

/-- Entries 6 and 7: all zeros (R169). -/
def Hinge.none : Hinge :=
  { posValid := false, keeper := false, clockIn := 0, clockSource := false, pciePort := false, pcieEnable := false, computeSwap := false,
    hbmPhy1 := 0, hbmPhy0 := 0, engineLo := 0, siteEnable := 0, d2dEnable := 0, nbr := [0, 0, 0, 0], rotation := false,
    phys := [0, 0, 0, 0] }

/-- The eight entries of the ROM (Table 6.3); P0's clock_in, which it ignores, is 0. Log: DESIGN CHOICE 163. -/
def hinge : Nat → Hinge
  | 0 => { Hinge.none with posValid := true, keeper := true, clockSource := true, pcieEnable := true, hbmPhy1 := 1, hbmPhy0 := 0,
                           engineLo := 0, siteEnable := 0b1100, d2dEnable := 0b0110, nbr := [7, 1, 3, 7], phys := [0, 1, 2, 3] }
  | 1 => { Hinge.none with posValid := true, clockIn := 3, hbmPhy1 := 3, hbmPhy0 := 2, d2dEnable := 0b1110, nbr := [7, 2, 4, 0],
                           phys := [0, 1, 2, 3] }
  | 2 => { Hinge.none with posValid := true, clockIn := 3, hbmPhy1 := 5, hbmPhy0 := 4, engineLo := 2, siteEnable := 0b0011,
                           d2dEnable := 0b1100, nbr := [7, 7, 5, 1], phys := [0, 1, 2, 3] }
  | 3 => { Hinge.none with posValid := true, clockIn := 0, computeSwap := true, hbmPhy1 := 6, hbmPhy0 := 7, engineLo := 4,
                           siteEnable := 0b0011, d2dEnable := 0b1100, nbr := [0, 4, 7, 7], rotation := true, phys := [2, 3, 0, 1] }
  | 4 => { Hinge.none with posValid := true, clockIn := 0, computeSwap := true, hbmPhy1 := 8, hbmPhy0 := 9, d2dEnable := 0b1110,
                           nbr := [1, 5, 7, 3], rotation := true, phys := [2, 3, 0, 1] }
  | 5 => { Hinge.none with posValid := true, clockIn := 0, pciePort := true, pcieEnable := true, computeSwap := true, hbmPhy1 := 10,
                           hbmPhy0 := 11, engineLo := 6, siteEnable := 0b1100, d2dEnable := 0b0110, nbr := [2, 7, 7, 4],
                           rotation := true, phys := [2, 3, 0, 1] }
  | _ => Hinge.none

/-- D2D_HINGE (Table 6.2). -/
def Hinge.word (h : Hinge) : W64 :=
  BitVec.ofNat 64 (h.posValid.toNat * 2 ^ 47 + h.keeper.toNat * 2 ^ 46 + h.clockIn * 2 ^ 44 + h.clockSource.toNat * 2 ^ 43
    + h.pciePort.toNat * 2 ^ 42 + h.pcieEnable.toNat * 2 ^ 41 + h.computeSwap.toNat * 2 ^ 40 + h.hbmPhy1 * 2 ^ 36 + h.hbmPhy0 * 2 ^ 32
    + h.engineLo * 2 ^ 29 + h.siteEnable * 2 ^ 25 + h.d2dEnable * 2 ^ 21 + h.nbr.getD 3 0 * 2 ^ 18 + h.nbr.getD 2 0 * 2 ^ 15
    + h.nbr.getD 1 0 * 2 ^ 12 + h.nbr.getD 0 0 * 2 ^ 9 + h.rotation.toNat * 2 ^ 8 + h.phys.getD 3 0 * 2 ^ 6 + h.phys.getD 2 0 * 2 ^ 4
    + h.phys.getD 1 0 * 2 ^ 2 + h.phys.getD 0 0)

/-! ### What the map names -/

/-- All four ports, in logical order. -/
def ports : List Port4 := [.n, .e, .s, .w]

/-- Number of a logical port (Table 6.2). -/
def portIx : Port4 → Nat
  | .n => 0 | .e => 1 | .s => 2 | .w => 3

/-- A logical port by its number. -/
def portOf (k : Nat) : Port4 := match k with | 0 => .n | 1 => .e | 2 => .s | _ => .w

/-- Neighbour of a base die on a logical port; 7 for none. -/
def neighbour (die : Nat) (p : Port4) : Nat := if die < 6 then (hinge die).nbr.getD (portIx p) 7 else 7

/-- Ends of the seven edges, lower and higher die (R364). -/
def edgeEnds : Nat → Nat × Nat
  | 0 => (0, 1) | 1 => (1, 2) | 2 => (3, 4) | 3 => (4, 5) | 4 => (0, 3) | 5 => (1, 4) | _ => (2, 5)

/-- Clock input of a die in the tree of R191: none for P0, which takes REFCLK. -/
def treeInput (die : Nat) : Option Port4 :=
  let h := hinge die
  if !h.posValid || h.clockSource then none else some (portOf h.clockIn)

/-- The edge between two base dies (R364). -/
def edgeBetween (a b : Nat) : Option Nat := (List.range 7).find? fun e => edgeEnds e = (min a b, max a b)

/-- The edge on a die's port. -/
def portEdge (die : Nat) (p : Port4) : Option Nat :=
  if neighbour die p = 7 then none else edgeBetween die (neighbour die p)

/-- A die of this position drives the block on a logical port: the enable of the physical port that carries it. -/
def Hinge.d2dOn (h : Hinge) (p : Port4) : Bool := h.d2dEnable.testBit (h.phys.getD (portIx p) 0)

/-- Base die of an engine (Table 0.3): the position whose enabled sites carry it. -/
def engineBase (e : Nat) : Nat :=
  ((List.range 6).find? fun d => (hinge d).siteEnable ≠ 0 && decide ((hinge d).engineLo / 2 = e / 2)).getD 0

/-- A position enables the site of an engine (R13, R170). -/
def Hinge.engineOn (h : Hinge) (e : Nat) : Bool := h.siteEnable ≠ 0 && (h.engineLo = e || decide (h.engineLo + 1 = e))

/-- A position serves a stack from one of its HBM PHYs (R13, R170). -/
def Hinge.stackOn (h : Hinge) (k : Nat) : Bool := h.posValid && (h.hbmPhy0 = k || decide (h.hbmPhy1 = k))

/-- A position powers the PHY of a PCIe port (R13, R170). -/
def Hinge.portOn (h : Hinge) (p : HostPort) : Bool := h.pcieEnable && decide (h.pciePort = (p = .b))

/-- Base die of a PCIe port. -/
def portBase : HostPort → Nat
  | .a => 0
  | .b => 5

end Sys2Proof.Machine
end

