-- ==== Sys2Proof/Machine/Channels.lean ====
section
/-! DEFINITION. Channel identifiers (R364, Table 12.1), the causes and classes of Table 12.3, and which complex owns a
channel (R329, R330, R369). -/

namespace Sys2Proof.Machine

/-- A channel ID from its kind and index. -/
def mkChan (kind idx : Nat) : Chan := BitVec.ofNat 32 (kind * 0x1000000 + idx)

/-- No channel. -/
def noChan : Chan := 0xFFFFFFFF#32

/-- Kind and index of a channel ID. -/
def chanKind (c : Chan) : Nat := field c 24 8
def chanBits (c : Chan) (lo n : Nat) : Nat := field c lo n

def tumblerChan (die pward ptum : Nat) : Chan := mkChan 0x01 (die * 0x100000 + pward * 0x8000 + ptum * 0x100)
def wardChan (die pward : Nat) : Chan := mkChan 0x02 (die * 0x100000 + pward * 0x8000)
def dieChan (die : Nat) : Chan := mkChan 0x03 (die * 0x100000)
def coreChan (core : Nat) : Chan := mkChan 0x04 (core / 2 * 0x100000 + core % 2 * 0x80000)
def controlCoreChan (base core : Nat) : Chan := mkChan 0x08 (base * 0x200000 + core * 0x80000)
def baseChan (base : Nat) : Chan := mkChan 0x09 (base * 0x200000)
def laneChan (edge : Nat) (d : Dir) (lane : Nat) : Chan :=
  mkChan 0x10 (edge * 0x200000 + (if d = .up then 0 else 0x100000) + lane * 0x1000)
def groupChan (edge : Nat) (d : Dir) (g : Nat) : Chan :=
  mkChan 0x11 (edge * 0x200000 + (if d = .up then 0 else 0x100000) + g * 0x20000)
def clockChan (edge : Nat) (d : Dir) : Chan := mkChan 0x12 (edge * 0x200000 + (if d = .up then 0 else 0x100000))
def hbmLaneChan (stack pc lane : Nat) : Chan := mkChan 0x18 (stack * 0x100000 + pc * 0x4000 + lane * 0x80)
def pageChan (stack page : Nat) : Chan := mkChan 0x1A (stack * 0x100000 + page)
def stackChan (stack : Nat) : Chan := mkChan 0x1B (stack * 0x100000)
def blockChan (base block : Nat) : Chan := mkChan 0x1D (base * 0x200000 + block)
def laserChan (engine laser : Nat) : Chan := mkChan 0x20 (engine * 0x200000 + laser * 0x10000)
def ringChan (engine fiber slot : Nat) (drop : Bool) : Chan :=
  mkChan (if drop then 0x22 else 0x21) (engine * 0x200000 + fiber * 0x20000 + slot * 0x1000)
def segmentChan (engine fiber slot : Nat) (drop : Bool) (seg : Nat) : Chan :=
  mkChan 0x23 (engine * 0x200000 + fiber * 0x20000 + slot * 0x1000 + drop.toNat * 0x800 + seg * 0x200)
def optLaneChan (engine fiber lane : Nat) (rx : Bool) : Chan :=
  mkChan 0x24 (engine * 0x200000 + fiber * 0x20000 + lane * 0x2000 + rx.toNat * 0x1000)
def fiberChan (engine fiber : Nat) : Chan := mkChan 0x25 (engine * 0x200000 + fiber * 0x20000)
def siteChan (engine : Nat) : Chan := mkChan 0x26 (engine * 0x200000)
def cartChan (cart : Nat) : Chan := mkChan 0x27 (cart * 0x800000)
def linkChan (link : Nat) : Chan := mkChan 0x28 (link * 0x40000)
def phaseChan (rail phase : Nat) : Chan := mkChan 0x30 (rail * 0x10000 + phase * 0x800)
def senseChan (rail phase element : Nat) : Chan := mkChan 0x31 (rail * 0x10000 + phase * 0x800 + element * 0x200)
def diodeChan (die diode : Nat) : Chan := mkChan 0x32 (die * 0x80000 + diode * 0x8000)
def flashChan (part : Nat) : Chan := mkChan 0x38 (part * 0x800000)
def lineChan (home : Nat) : Chan := mkChan 0x40 (home * 0x80000)
def contextChan (ctx : Nat) : Chan := mkChan 0x48 (ctx * 0x4000)
def moduleChan (m : Nat) : Chan := mkChan 0x49 (m * 0x10000)

/-- Codes of Table 12.3. -/
def causeCode : Cause → BitVec 16
  | .critAbsent => 0x0001 | .critAbsentSubmit => 0x0002
  | .threshold => 0x0010 | .retryFail => 0x0011 | .selftestFail => 0x0012 | .trainFail => 0x0013
  | .uncorrectable => 0x0020 | .poisonRead => 0x0021 | .unmapped => 0x0022 | .isolation => 0x0023
  | .reservedSram => 0x0024 | .partialPoisonWrite => 0x0025 | .protectedWrite => 0x0026 | .withdrawn => 0x0027
  | .tokenWait => 0x0030
  | .windowRefused => 0x0040 | .remoteStatus => 0x0041 | .routeDiscard => 0x0042 | .linkDown => 0x0043
  | .tagFail => 0x0044 | .stragglers => 0x0045
  | .edgeLost => 0x0050 | .clockLoss => 0x0051 | .latchLost => 0x0052 | .keeperMemory => 0x0053
  | .cartridgeLost => 0x0054 | .position => 0x0055 | .malformedFlit => 0x0056
  | .thermal => 0x0060

/-- Starting classes of Table 12.3. REMOTE_STATUS starts UNCORRECTED for status 0x04, which its detail holds. -/
def startClass (c : Cause) (detail : W64) : FaultClass :=
  match c with
  | .critAbsent | .uncorrectable | .poisonRead | .cartridgeLost | .malformedFlit | .thermal => 3
  | .threshold | .retryFail | .selftestFail | .trainFail => 1
  | .critAbsentSubmit | .unmapped | .isolation | .reservedSram | .partialPoisonWrite | .protectedWrite | .withdrawn
  | .tokenWait | .windowRefused | .routeDiscard | .stragglers => 0
  | .remoteStatus => if detail = 4 then 3 else 0
  | .linkDown | .position => 2
  | .tagFail => 4
  | .edgeLost | .clockLoss | .latchLost | .keeperMemory => 5

/-- Actions as Table 12.4 codes them. -/
def actionCode : FaultAction → Nat
  | .pending => 0 | .none => 1 | .padlocked => 2 | .replaced => 3 | .withdrawn => 4 | .reset => 5 | .cleared => 6

/-- Base die whose complex watches a rail (Table 13.2): the die it supplies, and P0 for the rest. -/
def railBase (rail : Nat) : Nat :=
  if rail < 0x0C then rail / 2
  else if 0x10 ≤ rail ∧ rail < 0x1C then (rail - 0x10) / 2
  else if 0x20 ≤ rail ∧ rail < 0x26 then rail - 0x20
  else if 0x28 ≤ rail ∧ rail < 0x2E then rail - 0x28
  else if 0x30 ≤ rail ∧ rail < 0x3C then (rail - 0x30) / 2
  else if 0x40 ≤ rail ∧ rail < 0x4C then (rail - 0x40) / 2
  else if 0x50 ≤ rail ∧ rail < 0x5C then (rail - 0x50) / 2
  else if 0x60 ≤ rail ∧ rail < 0x68 then engineBase (rail - 0x60)
  else if rail = 0x71 then 3 else 0

/-- The base die whose complex owns a channel (R329, R330). -/
def chanOwner (c : Chan) : Nat :=
  match chanKind c with
  | 0x01 | 0x02 | 0x03 | 0x04 => chanBits c 20 4 / 2
  | 0x08 | 0x09 | 0x1C | 0x1D => chanBits c 21 3
  | 0x10 | 0x11 | 0x12 => (edgeEnds (chanBits c 21 3)).1
  | 0x18 | 0x19 | 0x1A | 0x1B => chanBits c 20 4 / 2
  | 0x20 | 0x21 | 0x22 | 0x23 | 0x24 | 0x25 | 0x26 => engineBase (chanBits c 21 3)
  | 0x27 => if chanBits c 23 1 = 0 then 0 else 3
  | 0x28 => engineBase (chanBits c 18 6 / 8)
  | 0x30 | 0x31 => railBase (chanBits c 16 8)
  | 0x32 => if chanBits c 19 5 < 12 then chanBits c 19 5 / 2 else chanBits c 19 5 - 12
  | 0x40 => if chanBits c 19 5 < 12 then chanBits c 19 5 / 2 else chanBits c 19 5 - 12
  | _ => 0

/-- The channels that hold a channel, and take it out of use with them: a tumbler's ward and dies, a lane's group, the stack of a page, row
or data lane, an optical channel's site (R376, R380). Log: DEDUCED 115. -/
def holders (c : Chan) : List Chan :=
  let die := chanBits c 20 4
  match chanKind c with
  | 0x01 => [wardChan die (chanBits c 15 5), dieChan die, baseChan (die / 2)]
  | 0x02 => [dieChan die, baseChan (die / 2)]
  | 0x03 => [baseChan (die / 2)]
  | 0x10 =>
    if chanBits c 12 8 < 128 then [groupChan (chanBits c 21 3) (if chanBits c 20 1 = 0 then .up else .down) (chanBits c 12 8 / 16)] else []
  | 0x18 | 0x19 | 0x1A => [stackChan die, baseChan (die / 2)]
  | 0x1B => [baseChan (die / 2)]
  | 0x1C | 0x1D => [baseChan (chanBits c 21 3)]
  | 0x20 | 0x21 | 0x22 | 0x23 | 0x24 | 0x25 => [siteChan (chanBits c 21 3), baseChan (engineBase (chanBits c 21 3))]
  | 0x26 => [baseChan (engineBase (chanBits c 21 3))]
  | _ => []

/-- A threshold of n per ms over an interval of `us` µs (R366). -/
def perMs (n us : Nat) : Nat := max 2 ((n * us + 999) / 1000)

/-- The count at which a channel is declared permanent, or its test starts (Table 12.2); none where counts declare
nothing. -/
def threshold (c : Chan) (us : Nat) : Option Nat :=
  match chanKind c with
  | 0x01 => some (perMs 16 us)
  | 0x02 => some (perMs 64 us)
  | 0x11 => some (perMs 256 us)
  | 0x18 => some (perMs 32 us)
  | 0x19 | 0x1C => some 8
  | 0x30 => some 3
  | 0x04 | 0x08 => some 2
  | _ => none

/-- Phases, rating in A and peak current in 0.1 A of a rail (Table 13.2). -/
def railSpec (rail : Nat) : Option (Nat × Nat × Nat) :=
  if rail < 0x0C then some (8, 70, 3570)
  else if 0x10 ≤ rail ∧ rail < 0x1C then some (3, 10, 93)
  else if 0x20 ≤ rail ∧ rail < 0x26 then some (5, 40, 1000)
  else if 0x28 ≤ rail ∧ rail < 0x2E then some (3, 10, 31)
  else if rail = 0x2E then some (3, 10, 17)
  else if 0x30 ≤ rail ∧ rail < 0x3C then some (3, 50, 381)
  else if 0x40 ≤ rail ∧ rail < 0x4C then some (3, 25, 213)
  else if 0x50 ≤ rail ∧ rail < 0x5C then some (3, 10, 22)
  else if 0x60 ≤ rail ∧ rail < 0x68 then some (4, 30, 500)
  else if rail = 0x70 ∨ rail = 0x71 then some (4, 10, 121)
  else if rail = 0x78 then some (3, 10, 91)
  else if rail = 0x79 then some (3, 10, 56)
  else none

end Sys2Proof.Machine
end

