-- ==== Sys2Proof/Machine/Flags.lean ====
section
/-! DEFINITION. The status word (Table 11.6), the command status word (Table 11.9) and the other words of flags that
software reads whole. -/

namespace Sys2Proof.Machine

/-- States of the status word (Table 11.6). -/
inductive ModState where
  | absent | booting | ready | degraded | serviceHold | resetting | failed
deriving DecidableEq, Repr

/-- The code of a state. -/
def ModState.code : ModState → Nat
  | .absent => 0 | .booting => 1 | .ready => 2 | .degraded => 3 | .serviceHold => 4 | .resetting => 5 | .failed => 6

/-- The state that bits [31:28] name; reserved codes read as absent. -/
def modState (v : W32) : ModState :=
  match field v 28 4 with
  | 1 => .booting | 2 => .ready | 3 => .degraded | 4 => .serviceHold | 5 => .resetting | 6 => .failed | _ => .absent

/-- A new value of bits [31:0] of the status word: change_count advances when bits [31:16] change (Table 11.6). Log: DEDUCED 135. -/
def statusUpdate (old new : W32) : W32 :=
  if field old 16 16 = field new 16 16 then putField new 0 8 (field old 0 8)
  else putField new 0 8 (field old 0 8 + 1)

/-- Bits of the status word. -/
abbrev stFaultPending : Nat := 21
abbrev stFailover : Nat := 20
abbrev stCapacity : Nat := 19
abbrev stUpdate : Nat := 18
abbrev stFaultN : Nat := 17
abbrev stDomain : Nat := 16

/-- Phases of MBX_CSTAT. -/
inductive Phase where
  | idle | accepted | running | done | failed | cancelled
deriving DecidableEq, Repr

/-- Codes of the phases. -/
def Phase.code : Phase → Nat
  | .idle => 0 | .accepted => 1 | .running => 2 | .done => 3 | .failed => 4 | .cancelled => 5

/-- The value half of MBX_CSTAT. -/
def cstatValue (phase : Phase) (seq : Byte) (status progress : Nat) : W32 :=
  BitVec.ofNat 32 (phase.code * 0x10000000 + seq.toNat * 0x100000 + status % 256 * 0x1000 + progress % 4096)

/-- MBX_CSTAT as a critical word. -/
def cstat (phase : Phase) (seq : Byte) (status progress : Nat) : W64 := critWord (cstatValue phase seq status progress)

/-- Phase that a CSTAT word shows. -/
def cstatPhase (w : W64) : Nat := field w 28 4

/-- progress of a long operation: floor(4,095 × done / total) (Table 11.9); 0 while there is nothing in total, since it never
overstates (R356). -/
def progressOf (done total : Nat) : Nat := if total = 0 then 0 else 4095 * done / total

/-- Firmware statuses of Table 11.13. -/
inductive FwStatus where
  | ok | headerAbsent | badCode | badArgs | unauthorised | busy | notReady | noResource | notFound | state | longOnRing
  | cancelled | already
  /-- Micro-image refused for a reason 1–8 of Table 2.6. -/
  | imageRefused (reason : Nat)
  | imageInUse
  /-- Window refused: 0 size_code, 1 alignment, 2 own module, 3 empty set, 4 overlap, 5 context (R284). -/
  | windowRefused (reason : Nat)
  | setDuplicate | twinRefused | keyRefused | fwVerifyFail | fwRollback | fwUpdateActive | internal
deriving DecidableEq, Repr

/-- Codes of the statuses. -/
def FwStatus.code : FwStatus → Nat
  | .ok => 0x00 | .headerAbsent => 0x01 | .badCode => 0x02 | .badArgs => 0x03 | .unauthorised => 0x04 | .busy => 0x05
  | .notReady => 0x06 | .noResource => 0x07 | .notFound => 0x08 | .state => 0x09 | .longOnRing => 0x0A
  | .cancelled => 0x0B | .already => 0x0C | .imageRefused r => 0x10 + r - 1 | .imageInUse => 0x18
  | .windowRefused r => 0x20 + r | .setDuplicate => 0x26 | .twinRefused => 0x27 | .keyRefused => 0x28
  | .fwVerifyFail => 0x30 | .fwRollback => 0x31 | .fwUpdateActive => 0x32 | .internal => 0x40

/-- Event codes of R353. -/
inductive EventCode where
  | pad | cmdDone | progress | fault | status | capacity | port | link | context | log
deriving DecidableEq, Repr

/-- Codes of the events. -/
def EventCode.code : EventCode → Nat
  | .pad => 0 | .cmdDone => 1 | .progress => 2 | .fault => 3 | .status => 4 | .capacity => 5 | .port => 6 | .link => 7
  | .context => 8 | .log => 9

end Sys2Proof.Machine
end

