-- ==== Sys2Proof/Machine/Ops.lean ====
section
/-! DEFINITION. The operations that every family of commands shares: emissions and counters, the address map and the
homes' cells, interrupts and events, the status word, and fault records on their way from a unit to the keeper. -/

namespace Sys2Proof.Machine

/-! ### Emissions, free values and counters -/

/-- Send one emission. Log: DESIGN CHOICE 7, 148. -/
def State.emit (s : State) (o : Out) : State := { s with out := s.out ++ [o] }

/-- Send several. -/
def State.emits (s : State) (os : List Out) : State := { s with out := s.out ++ os }

/-- The next free value. Log: DESIGN CHOICE 6, 19. -/
def State.fresh (s : State) : W64 := Config.freeValue s.freeIx

/-- Take the next free value. Log: DESIGN CHOICE 6. -/
def State.spend (s : State) : State := { s with freeIx := s.freeIx + 1 }

/-- Key of counter `k` of a telemetry source (Table 10.9), or of a register block for kinds from 64. Log: DESIGN CHOICE 143. -/
def counterKey (kind src ctx k : Nat) : Nat := ((kind * 65536 + src) * 1024 + ctx) * 64 + k

/-- Register blocks whose interval counters are no telemetry record of Table 10.9. Log: DESIGN CHOICE 143. -/
abbrev kTel : Nat := 64
abbrev kFlt : Nat := 67
abbrev kPwr : Nat := 68
abbrev kThm : Nat := 69
abbrev kCal : Nat := 70
abbrev kSpdm : Nat := 71
abbrev kMisc : Nat := 72
abbrev kFec : Nat := 73

/-- Source of a lane's counters of OPT_FEC_STAT: corrected symbols and uncorrectable codewords (Table 7.7). -/
def fecLane (e f lane : Nat) : Nat := 256 * e + 16 * f + lane

/-- Counters hold at 2^32 − 1 (R99, R278). -/
def saturate (n : Nat) : Nat := min n 0xFFFFFFFF

/-- Add `n` to a counter of the interval in progress. -/
def State.countCtx (s : State) (kind src ctx k n : Nat) : State :=
  let key := counterKey kind src ctx k
  { s with tel := { s.tel with live := Store.put 0 s.tel.live key (saturate (Store.get 0 s.tel.live key + n)) } }

/-- Add `n` to a counter that belongs to no context. -/
def State.count (s : State) (kind src k n : Nat) : State := s.countCtx kind src 0 k n

/-! ### The address map and the cells of the homes -/

/-- What an address names (Table 5.1, R145, R155, R156). -/
inductive Place where
  | cell (home off : Nat)
  /-- A withdrawn page or block: unmapped, under its own cause and status (R155). -/
  | withdrawn (chan : Chan)
  | unmapped
deriving DecidableEq, Repr

abbrev gib : Nat := 0x40000000

/-- A base die that takes part: its straps name its own place, or have not been sampled yet (R167). -/
def State.dieCounts (s : State) (d : Nat) : Bool :=
  match (s.base d).position with
  | none => true
  | some p => p.val = d

/-- A stack offset as a place. -/
def State.stackPlace (s : State) (k off : Nat) : Place :=
  if (s.stack k).padlocked then .unmapped
  else if (s.stack k).withdrawn.contains (off / 65536) then .withdrawn (pageChan k (off / 65536))
  else .cell k off

/-- The home of a module physical address (R134, R137, R145). -/
def State.place (s : State) (a : Nat) : Place :=
  let share := s.mem.share
  let n := s.mem.interleave.length
  if a < 12 * (64 * gib) then
    let off := a % (64 * gib)
    if off < (47 - share) * gib then s.stackPlace (a / (64 * gib)) off else .unmapped
  else if 0x010000000000 ≤ a ∧ a < 0x010000000000 + n * share * gib then
    let off := a - 0x010000000000
    let g := off / 4096
    s.stackPlace (s.mem.interleave.getD (g % n) 0) ((47 - share) * gib + g / n * 4096 + off % 4096)
  else if 0x020000000000 ≤ a ∧ a < 0x020060000000 then
    let d := (a - 0x020000000000) / 0x10000000
    let off := (a - 0x020000000000) % 0x10000000
    if !s.dieCounts d then .unmapped
    else if (s.shelf d).withdrawn.contains (off / 4096) then .withdrawn (blockChan d (off / 4096))
    else .cell (12 + d) off
  else .unmapped

/-- An access as pieces that each lie in one 64 B line: address and length, in rising order. -/
def pieces (a n : Nat) : List (Nat × Nat) :=
  (List.range ((a % 64 + n + 63) / 64)).map fun i =>
    let lo := max a (a / 64 * 64 + 64 * i)
    let hi := min (a + n) (a / 64 * 64 + 64 * (i + 1))
    (lo, hi - lo)

/-- Key of a cell. -/
def cellKey (home off : Nat) : Nat := home * 0x10000000000 + off

/-- One byte of a home. A cell that nothing has written reads 0 (log entry 5). Log: DESIGN CHOICE 5. -/
def State.byte (s : State) (home off : Nat) : Byte := Store.get 0 s.mem.cells (cellKey home off)

/-- `n` bytes of a home from an offset. -/
def State.bytes (s : State) (home off n : Nat) : List Byte := (List.range n).map fun i => s.byte home (off + i)

/-- Whether a line of a home is poisoned (R148). Log: DESIGN CHOICE 5. -/
def State.poisoned (s : State) (home off : Nat) : Bool := Store.get false s.mem.poison (cellKey home off / 64)

/-- Mark or clear the poison of a line. -/
def State.setPoison (s : State) (home off : Nat) (p : Bool) : State :=
  { s with mem := { s.mem with poison := Store.put false s.mem.poison (cellKey home off / 64) p } }

/-- Cells with bytes written from a key on. -/
def putCells (cells : Store Byte) : Nat → List Byte → Store Byte
  | _, [] => cells
  | k, b :: bs => putCells (Store.put 0 cells k b) (k + 1) bs

/-- Write bytes at a home, with no regard to poison. -/
def State.putBytes (s : State) (home off : Nat) (bytes : List Byte) : State :=
  { s with mem := { s.mem with cells := putCells s.mem.cells (cellKey home off) bytes } }

/-- One piece of a write, within a line: it clears the poison of a line it covers whole, and is discarded where it covers
part of a poisoned line; `ep` writes the line poisoned where it covers it whole and discards the piece otherwise (R148,
R310). Answers whether the piece was discarded. -/
def State.writeLine (s : State) (home off : Nat) (bytes : List Byte) (ep : Bool) : State × Bool :=
  if bytes.length = 64 then ((s.putBytes home off bytes).setPoison home off ep, false)
  else if ep || s.poisoned home off then (s, true)
  else (s.putBytes home off bytes, false)

/-- A store into shelf SRAM of die `d`, line by line, that raises no fault: whole slots of a ring or of the log, and stores made while
no unit collects faults. -/
def State.shelfStore (s : State) (d off : Nat) (bytes : List Byte) : State :=
  (pieces off bytes.length).foldl
    (fun t p => (t.writeLine (12 + d) p.1 ((bytes.drop (p.1 - off)).take p.2) false).1) s

/-- A read of shelf SRAM, with whether any of its lines is poisoned. -/
def State.shelfLoad (s : State) (d off n : Nat) : List Byte × Bool :=
  (s.bytes (12 + d) off n, (pieces off n).any fun p => s.poisoned (12 + d) p.1)

/-- Every piece of an access lies at a cell. -/
def State.mapped (s : State) (a n : Nat) : Bool :=
  (pieces a n).all fun p => match s.place p.1 with | .cell _ _ => true | _ => false

/-- The first piece of an access that lies at no cell. -/
def State.badPlace (s : State) (a n : Nat) : Option Place :=
  ((pieces a n).map fun p => s.place p.1).find? fun p => match p with | .cell _ _ => false | _ => true

/-- A read of module memory by address: its bytes, and whether any line is poisoned. Unmapped parts read all ones
(R135). -/
def State.load (s : State) (a n : Nat) : List Byte × Bool :=
  (((pieces a n).map fun p => match s.place p.1 with
      | .cell h o => s.bytes h o p.2
      | _ => List.replicate p.2 0xFF).flatten,
   (pieces a n).any fun p => match s.place p.1 with | .cell h o => s.poisoned h o | _ => false)

/-- A write of module memory by address, line by line; answers the addresses of the pieces discarded at poisoned lines
(R148). -/
def State.storeAt (s : State) (a : Nat) (bytes : List Byte) (ep : Bool) : State × List Nat :=
  (pieces a bytes.length).foldl
    (fun acc p => match acc.1.place p.1 with
      | .cell h o =>
        let r := acc.1.writeLine h o ((bytes.drop (p.1 - a)).take p.2) ep
        (r.1, if r.2 then acc.2 ++ [p.1] else acc.2)
      | _ => acc) (s, [])

/-- [a, a + n) lies within one region (R101, R138). -/
def inRegion (r : Region) (a n : Nat) : Bool := r.base.toNat ≤ a && a + n ≤ r.base.toNat + r.len

/-- [a, a + n) lies within one region of a list. -/
def inRegions (rs : List Region) (a n : Nat) : Bool := rs.any fun r => inRegion r a n

/-! ### Interrupts -/

/-- A port takes an MSI-X message (R313). -/
def Port.canSend (p : Port) (v : Nat) : Bool := p.up && p.released && !p.d3hot && !p.masked.getLsbD v

/-- Send a vector on a port, or hold it pending there (R313). -/
def State.vectorOn (s : State) (p : HostPort) (v : Nat) : State :=
  if (s.port p).canSend v then s.emit (.msix p (BitVec.ofNat 8 v))
  else s.modPort p fun q => { q with pending := putBit q.pending v true }

/-- The port to which a ring's or a command's vector goes: in secondary mode the port that made it, otherwise the active
port (R313). -/
def State.vectorPort (s : State) (made : HostPort) : HostPort :=
  if s.host.mode = 2 then made else if s.host.portB.active && !s.host.portA.active then .b else .a

/-- Raise a vector of a ring or command. -/
def State.vectorTo (s : State) (made : HostPort) (v : Nat) : State := s.vectorOn (s.vectorPort made) v

/-- Raise one of vectors 65 to 69: it goes to every active port (R313). -/
def State.vector (s : State) (v : Nat) : State :=
  let t := if s.host.portA.active then s.vectorOn .a v else s
  if s.host.portB.active then t.vectorOn .b v else t

/-! ### The event ring -/

/-- Offsets in P0 shelf SRAM (Tables 5.9 and 11.11). -/
abbrev offFwCmdRing : Nat := 0x2110000
abbrev offFwRspRing : Nat := 0x2210000
abbrev offEventRing : Nat := 0x2250000
abbrev offMbxBuffers : Nat := 0x2E50000
abbrev offRetained : Nat := 0x3000000
abbrev eventSlots : Nat := 131072

/-- An event record as bytes: its first slot holds 48 payload bytes, further slots 64 each (Table 11.12). -/
def eventBytes (now : W64) (code : EventCode) (index : Nat) (payload : List Byte) : List Byte :=
  let slots := 1 + (payload.length - 48 + 63) / 64
  let word := code.code * 0x1000000 + slots * 0x100000 + index % 0x10000
  leBytes 8 now.toNat ++ leBytes 4 word ++ leBytes 4 (0xFFFFFFFF - word) ++ payload
    ++ List.replicate (slots * 64 - 16 - payload.length) 0

/-- Slots between DBL_EVT_TAIL and DBL_EVT_HEAD that the host has not consumed. -/
def State.eventUsed (s : State) : Nat := (s.keeper.evtTail - s.keeper.evtHead).toNat

/-- Put a record of whole slots at the ring's tail, after a PAD record where it would wrap (R353); answers whether the
ring had room. -/
def State.ringRecord (s : State) (bytes : List Byte) : State × Bool :=
  let slots := bytes.length / 64
  let pos := s.keeper.evtTail.toNat % eventSlots
  let gap := if pos + slots ≤ eventSlots then 0 else eventSlots - pos
  if s.eventUsed + gap + slots ≤ eventSlots then
    let t := if gap = 0 then s
      else s.shelfStore 0 (offEventRing + pos * 64)
        (leBytes 8 s.tel.timestamp.toNat ++ leBytes 4 (gap * 0x100000) ++ leBytes 4 (0xFFFFFFFF - gap * 0x100000)
          ++ List.replicate (gap * 64 - 16) 0)
    let u := t.shelfStore 0 (offEventRing + (if gap = 0 then pos else 0) * 64) bytes
    ({ u with keeper := { u.keeper with evtTail := u.keeper.evtTail + BitVec.ofNat 32 (gap + slots) } }, true)
  else (s, false)

/-- Count a record dropped for want of room (R327). -/
def State.countDropped (s : State) : State := s.count kTel 0 1 1

/-- A run of bytes as 64 B slots. -/
def slotsOf : Nat → List Byte → List (BitVec 512)
  | 0, _ => []
  | n + 1, bs => BitVec.ofNat 512 (leNat (bs.take 64)) :: slotsOf n (bs.drop 64)

/-- Write an event: to the ring once it exists, before that into Idore's own memory, and nowhere before Idore runs
(R353, R482). An enabled event raises vector 65. -/
def State.event (s : State) (code : EventCode) (index : Nat) (payload : List Byte) : State :=
  if !s.keeper.idore then s
  else
    let bytes := eventBytes s.tel.timestamp code index payload
    if s.keeper.eventRing then
      let r := s.ringRecord bytes
      if r.2 then (if s.keeper.evtMask.getLsbD code.code then r.1.vector 65 else r.1) else s.countDropped
    else if s.keeper.held.length + bytes.length / 64 ≤ 4096 then
      { s with keeper := { s.keeper with held := s.keeper.held ++ slotsOf (bytes.length / 64) bytes } }
    else s.countDropped

/-- Hex digits of a number, for a log line. -/
def hexDigits : Nat → Nat → String
  | 0, _ => ""
  | n + 1, v => hexDigits n (v / 16) ++ String.singleton ("0123456789abcdef".toList.getD (v % 16) '0')

/-- ASCII text as bytes. -/
def asciiBytes (t : String) : List Byte := t.toList.map fun c => BitVec.ofNat 8 c.toNat

/-- A LOG event: up to 48 bytes of text (R353). Log: DESIGN CHOICE 46. -/
def State.logEvent (s : State) (text : String) : State := s.event .log 0 ((asciiBytes text).take 48)

/-- A notice to the fabric manager (Table 9.6). Log: DESIGN CHOICE 54. -/
def State.notice (s : State) (n : Notice) : State := s.emit (.notice n)

/-! ### The status word -/

/-- MBX_STATUS as it is read: 0 until it is first written (R344). -/
def State.statusWord (s : State) : W64 := if s.keeper.statusWritten then critWord s.keeper.status else 0

/-- State of the status word. -/
def State.modState (s : State) : ModState := Machine.modState s.keeper.status

/-- Write bits [31:0] of the status word. -/
def State.putStatus (s : State) (v : W32) : State :=
  { s with keeper := { s.keeper with status := statusUpdate s.keeper.status v, statusWritten := true } }

/-- Set or clear one of its bits. -/
def State.statusBit (s : State) (bit : Nat) (b : Bool) : State := s.putStatus (putBit s.keeper.status bit b)

/-- Change its state: vector 68 and a STATUS event (R345). Log: DEDUCED 135. -/
def State.setModState (s : State) (m : ModState) : State :=
  if s.modState = m ∧ s.keeper.statusWritten then s
  else
    let t := s.putStatus (putField s.keeper.status 28 4 m.code)
    let u := if m = .ready ∨ m = .degraded then { t with host := { t.host with everReady := true } } else t
    (u.event .status 0 (leBytes 8 u.statusWord.toNat)).vector 68

/-- The stage of Table 11.4; it never falls in one start. Log: DEDUCED 135. -/
def State.setStage (s : State) (n : Nat) : State :=
  if n ≤ field s.keeper.status 24 4 then s else s.putStatus (putField s.keeper.status 24 4 n)

/-- The module has reported ready in this start (R24). -/
def State.ready (s : State) : Bool := s.host.everReady

/-! ### The reset sequencer -/

/-- Units of Table 12.9 that a quiesce stops. Log: DEDUCED 184. -/
def quiesceUnits (keeper : Bool) : List QUnit :=
  if keeper then [.dispatchers, .wards, .homes, .engines, .latches, .keeper, .flash]
  else [.dispatchers, .wards, .homes, .engines, .latches, .flash]

/-- A reset that firmware starts (R299): it runs Idore's part. -/
def firmwareReset (c : ResetCause) : Bool :=
  match c with
  | .cmdReset | .fatal _ => true
  | _ => false

/-- Quiesce of the wards and engines at once: steps abort, tokens drop, lasers go off and rings park (Table 12.9). -/
def quiesceTumbler (t : Tumbler) : Tumbler :=
  { t with inq := [], outq := [], startq := [], resident := t.resident.map fun r => { r with running := none } }

/-- Park a ring that works: its loop stops, and it is held at its park point (R208). -/
def parkRing (r : OptRing) : OptRing :=
  if r.state = .permanent then { r with driving := false, heater := 0 } else { r with state := .parked, driving := false, heater := 0 }

/-- Darken an engine: every laser off, every ring parked (R236, Table 12.9). -/
def darkenEngine (e : Engine) : Engine :=
  { e with started := false, lasers := e.lasers.map fun p => (p.1, { p.2 with lit := false }),
           rings := e.rings.map fun p => (p.1, parkRing p.2), migrations := [], offers := [], notReady := [] }

/-- Begin a whole-module reset (R383, R384): a cause during a reset is recorded only; otherwise the sequencer requests
every unit to stop. FAULT_N is released while the reset runs (R382). Log: DEDUCED 184. -/
def State.beginReset (s : State) (c : ResetCause) : State :=
  match s.faults.seqr.active with
  | some _ => { s with faults := { s.faults with seqr := { s.faults.seqr with also := s.faults.seqr.also ++ [c] } } }
  | none =>
    let s := if firmwareReset c && s.keeper.idore then (s.setModState .resetting).notice .moduleReset else s
    let s := { s with faults := { s.faults with
      seqr := { active := some c, waiting := quiesceUnits (s.keeper.idore && decide (c ≠ ResetCause.watchdog)), escalated := false,
                missed := [], also := [], commits := if s.keeper.idore && decide (c ≠ ResetCause.watchdog) then s.faults.uncommitted else [] }
      faultN := { s.faults.faultN with held := false } } }
    let s := { s with
      ops := { s.ops with rings := s.ops.rings.map fun (p : Nat × Ring) => (p.1, { p.2 with stopped := true }) }
      compute := { s.compute with tumblers := s.compute.tumblers.map fun (p : Nat × Tumbler) => (p.1, quiesceTumbler p.2) }
      optics := { s.optics with engines := s.optics.engines.map fun (p : Nat × Engine) => (p.1, darkenEngine p.2) } }
    s.emit (.signal .quiesce)

/-! ### FAULT_N -/

/-- A record has reached an uncorrected class (R381): a pulse, a further pulse after the present one, or a pulse withheld.
Log: DEDUCED 112. -/
def State.pulseFaultN (s : State) (severe : Bool) : State :=
  let f := s.faults.faultN
  if f.held then { s with faults := { s.faults with faultN := { f with withheld := f.withheld + 1, severe := f.severe || severe } } }
  else if f.pulsing then
    { s with faults := { s.faults with faultN := { f with again := true, severe := f.severe || severe } } }
  else
    { s with faults := { s.faults with
        faultN := { f with pulsing := true, pulses := f.pulses + 1, severe := f.severe || severe } } }.emit .faultPulse

/-! ### Fault records -/

/-- Bits [63:0] of a record (Table 12.4): class, collector, merged and op_status with their complement. -/
def FaultRecord.head (r : FaultRecord) : W64 :=
  critWord (BitVec.ofNat 32 (r.cls.val * 0x10000000 + r.collector.val * 0x2000000 + r.merged.toNat * 0x1000000
    + r.opStatus.toNat))

/-- A record's 64 bytes (Table 12.4). -/
def FaultRecord.bytes (r : FaultRecord) : List Byte :=
  leBytes 8 r.head.toNat ++ leBytes 8 (actionCode r.action)
    ++ leBytes 8 ((match r.seq with | some q => q.toNat | none => 0) * 0x100000000 + (causeCode r.cause).toNat * 0x10000
        + (match r.ctx with | some c => c.1.val * 0x40 + c.2.toNat * 4 + 2 | none => 0) + r.closed.toNat)
    ++ leBytes 4 r.spare.toNat ++ leBytes 4 r.suspect.toNat ++ leBytes 4 r.reporter.toNat
    ++ leBytes 4 (saturate r.count) ++ leBytes 8 r.detail.toNat ++ leBytes 8 r.lastTime.toNat
    ++ leBytes 8 r.firstTime.toNat

/-- The key under which reports merge (R370). Log: DEDUCED 138. -/
def FaultRecord.sameKey (r q : FaultRecord) : Bool := r.suspect = q.suspect && decide (r.cause = q.cause)

/-- The higher of two classes. -/
def maxClass (a b : FaultClass) : FaultClass := if a.val < b.val then b else a

/-- A later report with the key of an open record: the count rises and the last time moves (R370). -/
def mergeReport (old new : FaultRecord) : FaultRecord :=
  { old with
    count := saturate (old.count + new.count)
    firstTime := if new.firstTime.toNat < old.firstTime.toNat then new.firstTime else old.firstTime
    reporter := if new.firstTime.toNat < old.firstTime.toNat then new.reporter else old.reporter
    lastTime := if old.lastTime.toNat < new.lastTime.toNat then new.lastTime else old.lastTime
    merged := old.merged || decide (new.collector ≠ old.collector)
    cls := maxClass old.cls new.cls
    opStatus := if old.opStatus = 0 then new.opStatus else old.opStatus
    ops := old.ops ++ new.ops.filter fun x => !old.ops.contains x }

/-- Replace the records of a list that match by `f`. -/
def mapRecords (rs : List FaultRecord) (p : FaultRecord → Bool) (f : FaultRecord → FaultRecord) : List FaultRecord :=
  rs.map fun r => if p r then f r else r

/-- An entry of a failed operator takes the sequence of the record that failed it. -/
def tellEntry (ops : List W32) (seq : W32) (e : RingEntry) : RingEntry :=
  if ops.contains e.opSerial && e.faultSeq.isNone then { e with faultSeq := some seq } else e

/-- Tell the dispatchers of failed operators the sequence of the record that failed them (R374 step 5). -/
def tellSequence (rings : Store Ring) (ops : List W32) (seq : W32) : Store Ring :=
  if ops.isEmpty then rings
  else rings.map fun (p : Nat × Ring) => (p.1, { p.2 with live := p.2.live.map (tellEntry ops seq) })

/-- Rewrite a record in its slot of the retained fault log, once the region has been set up (Table 12.11, R387). -/
def State.logWrite (s : State) (r : FaultRecord) : State :=
  match r.seq with
  | some n => if s.keeper.shelfCleared then s.shelfStore 0 (offRetained + 0x4000 + n.toNat % 4096 * 64) r.bytes else s
  | none => s

/-- Place a record in the log, which holds the last 4,096 (Table 12.11). -/
def State.logAppend (s : State) (r : FaultRecord) : State :=
  let log := if 4096 ≤ s.faults.log.length then s.faults.log.drop 1 else s.faults.log
  { s with faults := { s.faults with log := log ++ [r] } }.logWrite r

/-- A record has reached an uncorrected class (R381, Table 10.4): FAULT_N, and for a record of the queue fault_pending and
vector 66. Log: DEDUCED 35, 139. -/
def State.reachedUncorrected (s : State) (cls : FaultClass) (queued : Bool) : State :=
  let s := s.pulseFaultN (decide (4 ≤ cls.val))
  if queued then (s.statusBit stFaultPending true).vector 66 else s

/-- A FATAL record goes to FLT_FATAL and starts the reset (R372, R383). -/
def State.takeFatal (s : State) (r : FaultRecord) : State :=
  { s with faults := { s.faults with fatal := some { r with action := .reset } } }.beginReset (.fatal (causeCode r.cause))

/-- Put a changed record of the log in place. -/
def State.putRecord (s : State) (r : FaultRecord) : State :=
  { s with faults := { s.faults with log := mapRecords s.faults.log (fun x => x.seq = r.seq) fun _ => r } }.logWrite r

/-- A record of the log has changed from `old` to `new`: its slot is rewritten, and a class that rises to an uncorrected
class or to FATAL has its effects (R367, R372, R381). -/
def State.recordChanged (s : State) (old new : FaultRecord) : State :=
  let s := s.putRecord new
  let s := if old.cls.val < 3 && decide (3 ≤ new.cls.val) then
      s.reachedUncorrected new.cls (match new.seq with | some n => s.faults.queue.contains n | none => false)
    else s
  if old.cls.val < 5 && decide (new.cls.val = 5) then s.takeFatal new else s

/-- Tell the dispatchers of the operators a report fails the sequence of its record. -/
def State.tell (s : State) (ops : List W32) (n : Option W32) : State :=
  match n with
  | some n => { s with ops := { s.ops with rings := tellSequence s.ops.rings ops n } }
  | none => s

/-- A record reaches the keeper (R371, R372): it merges with an open record of its key, or takes the next sequence and a
place in the queue. A record that finds no place is dropped and keeps its sequence. A FATAL record takes no place and
starts the reset. -/
def State.keeperTake (s : State) (r : FaultRecord) : State :=
  match s.faults.log.find? fun q => q.sameKey r && !q.closed with
  | some q => (s.tell r.ops q.seq).recordChanged q (mergeReport q r)
  | none =>
    match s.faults.openRecs.find? fun q => q.sameKey r && !q.closed && q.seq.isSome with
    | some q => s.tell r.ops q.seq
    | none =>
      let n := s.faults.nextSeq
      let r := { r with seq := some n }
      let s := { s with faults := { s.faults with
        nextSeq := n + 1
        openRecs := mapRecords s.faults.openRecs (fun q => q.sameKey r && !q.closed) fun q => { q with seq := some n } } }
      let s := s.tell r.ops (some n)
      if r.cls.val = 5 then
        (((s.reachedUncorrected r.cls false).logAppend { r with action := .reset }).event .fault n.toNat r.bytes).takeFatal r
      else
        let used := s.faults.queue.length
        if used < 224 ∨ (3 ≤ r.cls.val ∧ used < 256) then
          let s := { s with faults := { s.faults with queue := s.faults.queue ++ [n] } }
          let s := (s.logAppend r).event .fault n.toNat r.bytes
          if 3 ≤ r.cls.val then s.reachedUncorrected r.cls true else s
        else
          let s := if 3 ≤ r.cls.val then s.reachedUncorrected r.cls false else s
          s.count kFlt 6 r.cls.val 1

/-- What a unit reports of a fault. -/
structure Raise where
  cause : Cause
  suspect : Chan
  reporter : Chan := noChan
  detail : W64 := 0
  ctx : Option (CtxId × Gen) := none
  ops : List W32 := []
  opStatus : Byte := 0
deriving DecidableEq, Repr

/-- The record that a report opens at its collector (R367, R368). A fault that fails operators is UNCORRECTED. -/
def Raise.record (r : Raise) (die : BaseDie) (now : W64) : FaultRecord :=
  { cause := r.cause, suspect := r.suspect, spare := noChan, reporter := if r.reporter = noChan then r.suspect else r.reporter,
    detail := r.detail, count := 1, firstTime := now, lastTime := now, seq := none, ctx := r.ctx,
    cls := if r.opStatus = 0 then startClass r.cause r.detail else maxClass 3 (startClass r.cause r.detail),
    collector := die, merged := false, closed := false, action := .pending, opStatus := r.opStatus, ops := r.ops }

/-- A channel is padlocked, itself or with a channel that holds it (R49, R376). Log: DEDUCED 115. -/
def State.isPadlocked (s : State) (c : Chan) : Bool := (c :: holders c).any fun x => s.faults.padlocked.contains x

/-- A base die's copy of the module timestamp counter (R194). -/
def State.stamp (s : State) (die : Nat) : W64 := s.tel.timestamp + (s.base die).timeSkew

/-- A report reaches the complex of base die `die` (R370). Reports on padlocked suspects open nothing; a report with the
key of an open record merges; otherwise a record opens and goes to the keeper, on P0 at once and from a latch as a
message whose arrival is a command. Log: DEDUCED 118. -/
def State.raise (s : State) (die : BaseDie) (r : Raise) : State :=
  let rec0 := r.record die (s.stamp die)
  if s.isPadlocked r.suspect then s.count kFlt die 2 1
  else
    match s.faults.openRecs.find? fun q => q.sameKey rec0 && !q.closed && decide (q.collector = die) with
    | some _ =>
      let s := { s with faults := { s.faults with
        openRecs := mapRecords s.faults.openRecs (fun q => q.sameKey rec0 && !q.closed && decide (q.collector = die))
          fun q => mergeReport q rec0 } }
      let s := s.count kFlt die 1 1
      if die = 0 then s.keeperTake rec0 else s
    | none =>
      let s := s.count kFlt die 0 1
      if die = 0 then { s with faults := { s.faults with openRecs := s.faults.openRecs ++ [rec0] } }.keeperTake rec0
      else if 64 ≤ (s.faults.openRecs.filter fun q => decide (q.collector = die) && !q.closed).length then s.keeperTake rec0
      else { s with faults := { s.faults with openRecs := s.faults.openRecs ++ [rec0], sent := s.faults.sent ++ [rec0] } }

/-- Change the open records of a key and the keeper's record of it: an action carried out, a class reached, a spare. -/
def State.onRecord (s : State) (suspect : Chan) (cause : Cause) (f : FaultRecord → FaultRecord) : State :=
  let p := fun (q : FaultRecord) => q.suspect = suspect && decide (q.cause = cause) && !q.closed
  let s := { s with faults := { s.faults with openRecs := mapRecords s.faults.openRecs p f
                                              sent := mapRecords s.faults.sent p f } }
  match s.faults.log.find? p with
  | some q => s.recordChanged q (f q)
  | none => s

/-- A base die as an index, out-of-range numbers reading as P0. -/
def asBase (n : Nat) : BaseDie := if h : n < 6 then ⟨n, h⟩ else 0

/-- Base die of a home. -/
def homeDie (h : Nat) : BaseDie := if h < 12 then asBase (h / 2) else asBase (h - 12)

/-- What a line's record names. Log: DEDUCED 138. -/
def lineRaise (cause : Cause) (h a : Nat) : Raise := { cause, suspect := lineChan h, detail := BitVec.ofNat 64 a }

/-- The home's fault for a part of a write discarded at a poisoned line (R148). -/
def State.discardedPart (s : State) (a : Nat) (writer : Chan) : State :=
  match s.place a with
  | .cell h _ => s.raise (homeDie h) { lineRaise .partialPoisonWrite h a with reporter := writer }
  | _ => s

/-- A store into shelf SRAM of die `d`, line by line; the home raises a fault for a part discarded at a poisoned line (R148). -/
def State.homeStore (s : State) (writer : Chan) (d off : Nat) (bytes : List Byte) : State :=
  (pieces off bytes.length).foldl
    (fun t p =>
      let r := t.writeLine (12 + d) p.1 ((bytes.drop (p.1 - off)).take p.2) false
      if r.2 then r.1.raise (asBase d)
          { lineRaise .partialPoisonWrite (12 + d) (0x020000000000 + d * 0x10000000 + p.1) with reporter := writer }
      else r.1) s

/-- A critical value of a unit found absent (R362, R363). -/
def State.criticalAbsent (s : State) (die : BaseDie) (suspect : Chan) (detail : W64) (submitted : Bool) : State :=
  (s.raise die { cause := if submitted then .critAbsentSubmit else .critAbsent, suspect, detail }).count kFlt die 3 1

/-- Detail of an absent critical register (R363): bit 63, the block number, the offset. -/
def registerDetail (block offset : Nat) : W64 := BitVec.ofNat 64 (0x8000000000000000 + block * 0x1000000000000 + offset)

end Sys2Proof.Machine
end

