-- ==== Sys2Proof/Machine/CalWords.lean ====
section
/-! DEFINITION. Calibration words (R416, R418, R423, R424): their values, the two copies of a store (R412, R417, R421), the order of
preference among redundant elements, and how a changed value comes into force. -/

namespace Sys2Proof.Machine

/-! ### Words -/

/-- Codes of Table 14.2. Log: DEDUCED 108. -/
def calCode : CalQuantity → Nat
  | .railSense => 1 | .senseGain => 2 | .senseSelect => 3 | .thermistor => 4 | .diode => 5 | .thermalModel => 6
  | .heaterEff => 7 | .ringCal => 8 | .attenStep => 9 | .comparator => 10 | .d2dEq => 11

/-- The value of a calibration word in units of its least significant bit (Table 14.3). -/
def calValue (w : W64) : Int :=
  let v := field w 0 28
  let fmt := field w 28 4
  if (fmt = 2 ∨ fmt = 3) ∧ 2 ^ 27 ≤ v then Int.ofNat v - 2 ^ 28 else Int.ofNat v

/-- Whether a calibration word is good: its halves agree and its fmt is one of Table 14.3 (R416). -/
def calWordOk (w : W64) : Bool := (critValue w).isSome && 1 ≤ field w 28 4 && decide (field w 28 4 ≤ 5)

/-- A word is plausible for its quantity where the manual gives the quantity one range in one format (Table 14.2, R416): gains, efficiencies
and steps as unsigned and thermistor offsets as signed fixed point, a choice of sense element as a selection of a plausible element. The
formats are the model's, and other quantities are judged where they are measured. Log: DESIGN CHOICE 180. -/
def wordPlausible (q : CalQuantity) (w : W64) : Bool :=
  let fmt := field w 28 4
  let within (lo hi : Int) : Bool := decide (lo ≤ calValue w) && decide (calValue w ≤ hi)
  match q with
  | .senseGain => fmt = 5 && within 62260 68812
  | .senseSelect => fmt = 4 && field w 0 4 < 3 && w.getLsbD (4 + field w 0 4) && decide (field w 8 20 = 0)
  | .thermistor => fmt = 3 && within (-32768) 32768
  | .heaterEff => fmt = 5 && within 7865 11796
  | .attenStep => fmt = 5 && within 85197 111411
  | _ => true

/-- Key of a calibration item. -/
def calKey (q : CalQuantity) (index : Nat) : Nat := 65536 * calCode q + index

/-- The word in use of an item: the stored one, or the factory's, which the manual does not give. Log: DEDUCED 109. -/
def Calibration.wordAt (c : Calibration) (key : Nat) : W64 :=
  let w := Store.get 0 c.words key
  if w = 0 then Config.factoryCal key else w

/-! ### Preference among redundant elements (R418) -/

/-- The best of some elements by an error: the first of those with the smallest. -/
def bestBy (err : Nat → Nat) : List Nat → Option Nat
  | [] => none
  | k :: ks => some (ks.foldl (fun b j => if err j < err b then j else b) k)

/-- Gain error of a phase's sense element: its gain has 16 fraction bits. Log: DEDUCED 151. -/
def Calibration.gainError (c : Calibration) (rail phase e : Nat) : Nat :=
  (calValue (c.wordAt (calKey .senseGain (128 * rail + 4 * phase + e))) - 65536).natAbs

/-- Distance of a heater segment's efficiency from 0.15 THz/mW, ten times over; `k` is the ring's index over all engines.
Log: DEDUCED 151. -/
def Calibration.segmentError (c : Calibration) (k seg : Nat) : Nat :=
  (10 * calValue (c.wordAt (calKey .heaterEff (4 * k + seg))) - 98304).natAbs

/-- Index of a ring over all engines: engine, fiber, slot, kind. Log: DEDUCED 151. -/
def ringIndex (engine fiber slot : Nat) (drop : Bool) : Nat := 1024 * engine + 64 * fiber + 2 * slot + drop.toNat

/-- The element of three that serves: the present one while it is good, else the best good one (R418). -/
def nextElement (err : Nat → Nat) (bad : List Nat) (now : Nat) : Option Nat :=
  if now < 3 && !bad.contains now then some now else bestBy err ([0, 1, 2].filter fun i => !bad.contains i)

/-- Both inlet thermistors are without calibration: the inlet is taken as 45 °C (Table 14.2). The inlet pair is items 0 and 1.
Log: DEDUCED 151. -/
def Calibration.inletAbsent (c : Calibration) : Bool :=
  c.absent.contains (calKey .thermistor 0) && c.absent.contains (calKey .thermistor 1)

/-! ### Bringing a value into force (R423, R424) -/

/-- The value now applied of an item under way, as a numerator over its denominator. -/
def Moving.applied (m : Moving) : Int × Nat := (m.target * Int.ofNat m.den - m.num, m.den)

/-- A changed value begins to come into force from the applied one (R423); a selection is taken whole. Log: DEDUCED 109. -/
def Calibration.retarget (c : Calibration) (key : Nat) (old new : W64) : Calibration :=
  if field new 28 4 = 4 then c
  else
    let t := calValue new
    let now : Int × Nat := match Store.get none c.moving key with
      | some m => m.applied
      | none => (calValue old, 1)
    let num := t * Int.ofNat now.2 - now.1
    { c with moving := Store.put none c.moving key (if num = 0 then none else some { target := t, num, den := now.2 }) }

/-- Key of the offset of a phase's reading, in 10 mA (R424). Log: DEDUCED 152. -/
def offsetKey (rail phase : Nat) : Nat := calKey .senseSelect (32 * rail + phase)

/-- The offset now applied to a phase's reading. -/
def Calibration.offset (c : Calibration) (rail phase : Nat) : Int × Nat :=
  match Store.get none c.moving (offsetKey rail phase) with
  | some m => m.applied
  | none => (0, 1)

/-- A phase's reading with its offset, rounded down. Log: DEDUCED 152. -/
def Calibration.sensed (c : Calibration) (rail phase reading : Nat) : Nat :=
  let o := c.offset rail phase
  ((Int.ofNat (reading * o.2) + o.1) / Int.ofNat o.2).toNat

/-- A phase's element changes while it is read: the offset is the old reading less the new one, so that no reading steps, and is then
removed (R424). -/
def State.switchElement (s : State) (rail phase e : Nat) : State :=
  let r := s.rail rail
  let old := Store.get 0 r.element phase
  if old = e then s
  else
    let seen := Store.get [] r.readings phase
    let o := s.cal.offset rail phase
    let d := o.1 + (Int.ofNat (seen.getD old 0) - Int.ofNat (seen.getD e 0)) * Int.ofNat o.2
    let moving := Store.put none s.cal.moving (offsetKey rail phase)
      (if d = 0 then none else some { target := 0, num := -d, den := o.2 })
    { s with cal := { s.cal with moving } }.modRail rail fun q => { q with element := Store.put 0 q.element phase e }

/-! ### The two copies of the body store (R412, R417, R421) -/

/-- The eight header words of a copy of the body store (R417). The manual gives no layout version: it is 1. Log: DESIGN CHOICE 153. -/
def calHeader (serial : W64) (generation count : Nat) : List W64 :=
  ([0x43414C31, 1, 0, serial.toNat % 2 ^ 32, serial.toNat / 2 ^ 32, generation, count, 0].map fun n => critWord (BitVec.ofNat 32 n))

/-- A header word's value; none where it is absent. -/
def CalCopy.word (c : CalCopy) (i : Nat) : Option W32 := (c.header[i]?).bind critValue

/-- A copy is present: every header word is, and magic, part kind and serial number are the body's (R417). Log: DESIGN CHOICE 153. -/
def CalCopy.present (c : CalCopy) (serial : W64) : Bool :=
  ((List.range 8).all fun i => (c.word i).isSome) && c.word 0 = some 0x43414C31 && c.word 2 = some 0
    && c.word 3 = some (serial.setWidth 32) && decide (c.word 4 = some ((serial >>> 32).setWidth 32))

/-- Generation of a copy. -/
def CalCopy.generation (c : CalCopy) : Nat := ((c.word 5).getD 0).toNat

/-- The copies that a start reads, the one in use first: the present one with the higher generation (R417). -/
def Calibration.readCopies (c : Calibration) (serial : W64) : Option (CalCopy × CalCopy) :=
  match c.copyA.present serial, c.copyB.present serial with
  | true, true => some (if c.copyA.generation < c.copyB.generation then (c.copyB, c.copyA) else (c.copyA, c.copyB))
  | true, false => some (c.copyA, c.copyA)
  | false, true => some (c.copyB, c.copyB)
  | false, false => none

/-- The words of the copy in use; a word absent there is taken from the other copy (R415). -/
def mergeWords (x y : CalCopy) : Store W64 :=
  x.words.filterMap fun p =>
    if calWordOk p.2 then some p
    else
      let w := Store.get 0 y.words p.1
      if calWordOk w then some (p.1, w) else none

/-- Keys of the words that are absent in both copies (R415). -/
def absentWords (x y : CalCopy) : List Nat :=
  (x.words.filter fun p => !calWordOk p.2 && !calWordOk (Store.get 0 y.words p.1)).map fun p => p.1

/-- Keys of the body's words whose absence has a consequence of its own (Table 14.2): sense elements, thermistors, diodes, thermal
models, heater segments and rings. Log: DESIGN CHOICE 153. -/
def bodyKeys : List Nat :=
  let rails := (List.range 0x7A).filterMap fun r => (railSpec r).map fun x => (r, x.1)
  let sense := (rails.map fun p => ((List.range p.2).map fun ph =>
    [0, 1, 2].map fun e => calKey .senseGain (128 * p.1 + 4 * ph + e)).flatten).flatten
  let rings := ((List.range 8).map fun e => ((List.range 9).map fun f => ((List.range 18).map fun k =>
    [ringIndex e f k false, ringIndex e f k true]).flatten).flatten).flatten
  sense ++ (List.range 4).map (calKey .thermistor) ++ (List.range 216).map (calKey .diode) ++ (List.range 6).map (calKey .thermalModel)
    ++ (rings.map fun k => [0, 1, 2].map fun g => calKey .heaterEff (4 * k + g)).flatten ++ rings.map (calKey .ringCal)

/-- Stage 3 reads the body store (Table 14.1, R412, R417): every value takes effect at once (R423). The keys of the words that
are absent in both copies are kept. -/
def Calibration.load (c : Calibration) (serial : W64) : Calibration :=
  match c.readCopies serial with
  | some (x, y) => { c with words := mergeWords x y, generation := x.generation, absent := absentWords x y, moving := [] }
  | none => { c with words := [], generation := 0, absent := bodyKeys, moving := [] }

/-- Commit an item that passed: the copy with the lower generation and then the other take it, and both end with the same new
generation (R421). Log: DESIGN CHOICE 153. -/
def Calibration.commit (c : Calibration) (serial : W64) (q : CalQuantity) (i : CalItem) : Calibration :=
  let key := calKey q i.index
  let c := c.retarget key (c.wordAt key) i.word
  let words := Store.put 0 c.words key i.word
  let copy : CalCopy := { header := calHeader serial (c.generation + 1) words.length, words }
  { c with
    words, generation := c.generation + 1, passed := c.passed + 1, copyA := copy, copyB := copy
    absent := c.absent.filter fun k => k ≠ key }

/-- The elements that the stored selections choose (quantity 0x03, Table 14.3: bits [3:0]), taken at once at a start (R423). -/
def State.chooseElements (s : State) : State :=
  (s.cal.words.filter fun p => p.1 / 65536 = 3 && decide (field p.2 28 4 = 4)).foldl (fun t p =>
    t.modRail (p.1 % 65536 / 32) fun q => { q with element := Store.put 0 q.element (p.1 % 32) (field p.2 0 4 % 3) }) s

end Sys2Proof.Machine
end

