-- ==== Sys2Proof/Machine/Operands.lean ====
section
/-! DEFINITION. Operand forms: how tokens and the words they carry are laid out (Tables 2.2, 2.2a, 2.2b), and the other
formats that commands read from memory. -/

namespace Sys2Proof

open Machine

/-! ### Tokens -/

/-- Kinds of a token (Table 2.2). -/
abbrev tkData : Nat := 0
abbrev tkCredit : Nat := 1
abbrev tkStart : Nat := 2
abbrev tkControl : Nat := 3

/-- Agents of a base die (Table 2.2b). -/
abbrev agDispatcher : Nat := 0
abbrev agComplex : Nat := 1
abbrev agHome : Nat := 2

/-- One end of a token: die, ward, tumbler; die 15 for a base-die agent (R29). -/
structure TokenEnd where
  die : Nat
  ward : Nat
  tum : Nat
deriving DecidableEq, Repr

/-- An agent of a base die as a token's end. -/
def agentEnd (d : BaseDie) (agent : Nat) : TokenEnd := { die := 15, ward := d.val, tum := agent }

/-- A tumbler as a token's end. -/
def TumId.toEnd (t : TumId) : TokenEnd := { die := t.die.val, ward := t.ward.val, tum := t.tum.val }

/-- A token header (Table 2.2). -/
def tokenHeader (ctx : CtxId) (gen : Gen) (kind : Nat) (dst : TokenEnd) (queue beats tag : Nat) (src : TokenEnd) : W64 :=
  BitVec.ofNat 64 (ctx.val * 2 ^ 54 + gen.toNat * 2 ^ 50 + kind % 4 * 2 ^ 48 + dst.die % 16 * 2 ^ 44
    + dst.ward % 32 * 2 ^ 39 + dst.tum % 64 * 2 ^ 33 + queue % 4 * 2 ^ 31 + beats % 8 * 2 ^ 28 + tag % 256 * 2 ^ 20
    + src.die % 16 * 2 ^ 16 + src.ward % 32 * 2 ^ 11 + src.tum % 64 * 2 ^ 5)

def Token.ctx (t : Token) : CtxId := Fin.ofNat 1024 (field t.header 54 10)
def Token.gen (t : Token) : Gen := BitVec.ofNat 4 (field t.header 50 4)
def Token.kind (t : Token) : Nat := field t.header 48 2
def Token.dst (t : Token) : TokenEnd :=
  { die := field t.header 44 4, ward := field t.header 39 5, tum := field t.header 33 6 }
def Token.queue (t : Token) : Nat := field t.header 31 2
def Token.beatCount (t : Token) : Nat := field t.header 28 3
def Token.tag (t : Token) : Byte := BitVec.ofNat 8 (field t.header 20 8)
def Token.src (t : Token) : TokenEnd :=
  { die := field t.header 16 4, ward := field t.header 11 5, tum := field t.header 5 6 }

/-- The tumbler that an end names, where it names one. -/
def TokenEnd.tumbler? (e : TokenEnd) : Option TumId :=
  if h : e.die < 12 ∧ e.ward < 24 ∧ e.tum < 64 then some ⟨⟨e.die, h.1⟩, ⟨e.ward, h.2.1⟩, ⟨e.tum, h.2.2⟩⟩ else none

/-- Base die of a token's end, and the port of it at which the token enters: a compute die's bond, or the die's own agents. -/
def TokenEnd.base (e : TokenEnd) : Nat := if e.die < 12 then e.die / 2 else e.ward
def TokenEnd.port (e : TokenEnd) : Nat := if e.die < 12 then 4 + e.die % 2 else 8

/-- Codes of control words (Table 2.2a). -/
abbrev ccCompletion : Nat := 1
abbrev ccDrained : Nat := 2
abbrev ccGeneration : Nat := 3
abbrev ccAbort : Nat := 4
abbrev ccProbe : Nat := 5
abbrev ccProbeAnswer : Nat := 6

/-- A control word (Table 2.2a). -/
def controlWord (code : Nat) (status : Byte) (opSerial : W32) (arg : Nat) : W64 :=
  BitVec.ofNat 64 (code % 256 * 2 ^ 56 + status.toNat * 2 ^ 48 + opSerial.toNat * 2 ^ 16 + arg % 65536)

/-- A control token: one beat whose first eight bytes are the control word, the other 56 bytes 0 (R29). -/
def controlToken (ctx : CtxId) (gen : Gen) (src dst : TokenEnd) (word : W64) : Token :=
  { header := tokenHeader ctx gen tkControl dst 0 1 0 src, beats := [word.setWidth 512] }

/-- A ward as the sender of a control token. -/
def wardEnd (die ward : Nat) : TokenEnd := { die, ward, tum := 0 }

/-- The base die whose dispatcher started an operator: bits [31:29] of its serial (R29). -/
def serialDie (op : W32) : BaseDie := Fin.ofNat 6 (field op 29 3)

/-- An operator's serial from its dispatcher and that dispatcher's count (R29). -/
def opSerialOf (die : BaseDie) (count : Nat) : W32 := BitVec.ofNat 32 (die.val * 2 ^ 29 + count % 2 ^ 29)

/-! ### Firmware packages (Table 15.2) -/

/-- Bytes of a format from an offset. -/
def slice (p : List Byte) (off n : Nat) : List Byte := (p.drop off).take n

/-- A little-endian number in a format. -/
def le (p : List Byte) (off n : Nat) : Nat := leNat (slice p off n)

/-- All bytes of a slice are 0. -/
def zeros (p : List Byte) (off n : Nat) : Bool := (slice p off n).all fun b => b = 0

/-- A signature from its 96 bytes, r then s. -/
def sigOf (bytes : List Byte) : BitVec 768 := BitVec.ofNat 768 (leNat (bytes.take 48) * 2 ^ 384 + leNat (bytes.drop 48))

/-- Order of the P-384 group (log entry 17). Log: PRESUMED 17. -/
def p384Order : Nat :=
  0xFFFFFFFFFFFFFFFFFFFFFFFFFFFFFFFFFFFFFFFFFFFFFFFFC7634D81F4372DDF581A0DB248B0A77AECEC196ACCC52973

/-- r and s lie in [1, n − 1] (R428), and the signature verifies. Log: PRESUMED 17. -/
def signed (key : List Byte) (msg : List Byte) (sig : BitVec 768) : Bool :=
  let r := sig.toNat / 2 ^ 384
  let s := sig.toNat % 2 ^ 384
  0 < r && r < p384Order && 0 < s && s < p384Order && Config.verify key (Config.sha384 msg) sig

def pkgSvn (p : List Byte) : Nat := le p 0x008 4
def pkgSvnMin (p : List Byte) : Nat := le p 0x00C 4
def pkgVersion (p : List Byte) : Nat := le p 0x010 8
def pkgTotal (p : List Byte) : Nat := le p 0x028 4
def pkgRootKey (p : List Byte) : List Byte := slice p 0x060 96
def pkgMicroKey (p : List Byte) : List Byte := slice p 0x190 96
def pkgHeader (p : List Byte) : List Byte := slice p 0 0x1000
def pkgLatch (p : List Byte) : List Byte := slice p (le p 0x020 4) (le p 0x024 4)

/-- Step 1 of R428. -/
def pkgFormOk (p : List Byte) : Bool :=
  le p 0 4 = 0x47504B47 && le p 4 2 = 1 && zeros p 6 2 && zeros p 0x02C 4 && zeros p 0x124 12 && zeros p 0x1F0 3504
    && 0x1000 ≤ pkgTotal p && pkgTotal p ≤ 0x1000000 && pkgTotal p ≤ p.length
    && le p 0x018 4 + le p 0x01C 4 ≤ pkgTotal p && decide (le p 0x020 4 + le p 0x024 4 ≤ pkgTotal p)

/-- The first step of R428 that a package fails, if any. -/
def packageFault (root : Option (BitVec 384)) (svn : Nat) (p : List Byte) : Option Nat :=
  if !pkgFormOk p then some 1
  else if some (Config.sha384 (pkgRootKey p)) ≠ root then some 2
  else if !(signed (pkgRootKey p) (slice p 0x0C0 0x70) (sigOf (slice p 0x130 96)) && (le p 0x120 4).testBit 0) then some 3
  else if !signed (slice p 0x0C0 96) (slice p 0 0xFA0) (sigOf (slice p 0xFA0 96)) then some 4
  else if Config.sha384 (slice p 0x1000 (pkgTotal p - 0x1000)) ≠ BitVec.ofNat 384 (le p 0x030 48) then some 5
  else if pkgSvn p < svn || decide (64 < pkgSvn p) then some 6
  else none

end Sys2Proof
end

