-- ==== Sys2Proof/Machine/Descriptors.lean ====
section
/-! DEFINITION. The formats that dispatchers and micro-images read (chapter 4): ring entries, operator and tensor descriptors, the
spans of R114, tiles and slivers (R44, R45, R122), and the checks of R124 that the descriptors decide. -/

namespace Sys2Proof.Machine

/-! ### Formats -/

/-- The command-ring entry (Table 4.4). -/
def enOpcode (e : BitVec 512) : Nat := field e 192 8
def enNotify (e : BitVec 512) : Bool := e.getLsbD 200
def enOverlap (e : BitVec 512) : Bool := e.getLsbD 201
def enTag (e : BitVec 512) : W64 := BitVec.ofNat 64 (field e 224 64)
def enFenceValue (e : BitVec 512) : W64 := BitVec.ofNat 64 (field e 288 64)
def enFence (e : BitVec 512) : PAddr := BitVec.ofNat 48 (field e 352 48)
def enCtx (e : BitVec 512) : CtxId := Fin.ofNat 1024 (field e 4 10)
def enGen (e : BitVec 512) : Gen := BitVec.ofNat 4 (field e 0 4)
def enDesc (e : BitVec 512) : PAddr := BitVec.ofNat 48 (field e 128 16 * 2 ^ 32 + field e 64 32)

/-- A critical value at a bit of a format reads with agreeing halves. -/
def critOk {w : Nat} (v : BitVec w) (at_ : Nat) : Bool := (critValue (BitVec.ofNat 64 (field v at_ 64))).isSome

/-- The reserved fields of an entry are 0. -/
def enReservedOk (e : BitVec 512) : Bool :=
  field e 400 112 = 0 && field e 202 22 = 0 && field e 144 16 = 0 && decide (field e 14 18 = 0)

/-- The operator descriptor (Table 4.6). -/
def odCtx (d : BitVec 1024) : CtxId := Fin.ofNat 1024 (field d 4 10)
def odGen (d : BitVec 1024) : Gen := BitVec.ofNat 4 (field d 0 4)
def odTable (d : BitVec 1024) : PAddr := BitVec.ofNat 48 (field d 128 16 * 2 ^ 32 + field d 64 32)
/-- Class parameter word `i` (R112). -/
def odParam (d : BitVec 1024) (i : Nat) : Nat := field d (448 + 32 * i) 32
/-- The operator's rounding mode; the reserved code rounds to nearest even (R78). -/
def odRounding (d : BitVec 1024) : Rounding :=
  match field d 248 2 with | 1 => .towardZero | 2 => .stochastic | _ => .nearest
/-- The operator's saturation mode: IEEE overflow in place of saturation (R81). -/
def odIeee (d : BitVec 1024) : Bool := d.getLsbD 250
/-- Passed to the micro-image (Table 4.6). -/
def odVariant (d : BitVec 1024) : Byte := BitVec.ofNat 8 (field d 232 8)
def odImage (d : BitVec 1024) : W32 := BitVec.ofNat 32 (field d 192 32)
def odClass (d : BitVec 1024) : Nat := field d 224 8
def odInputs (d : BitVec 1024) : Nat := field d 240 4
def odOutputs (d : BitVec 1024) : Nat := field d 244 4
def odMapKind (d : BitVec 1024) : Nat := field d 252 4
def odGrid (d : BitVec 1024) (k : Nat) : Nat := max 1 (field d (256 + 16 * k) 16)
def odTile (d : BitVec 1024) (k : Nat) : Nat := field d (320 + 16 * k) 16
def odDieMask (d : BitVec 1024) : BitVec 12 := BitVec.ofNat 12 (field d 384 12)
def odWardFirst (d : BitVec 1024) : Nat := field d 396 5
def odWardCount (d : BitVec 1024) : Nat := field d 401 5
def odPerWard (d : BitVec 1024) : Nat := field d 406 7
/-- Place mode 0b01; the other codes are exact placement (Table 4.6). -/
def odNear (d : BitVec 1024) : Bool := decide (field d 413 2 = 1)
def odDieCount (d : BitVec 1024) : Nat := field d 416 4

/-- The reserved fields of an operator descriptor are 0. -/
def odReservedOk (d : BitVec 1024) : Bool :=
  field d 960 64 = 0 && field d 420 28 = 0 && field d 415 1 = 0 && field d 251 1 = 0 && field d 144 16 = 0
    && decide (field d 14 18 = 0)

/-- The tensor descriptor (Table 4.7). -/
def tdCtx (t : BitVec 512) : CtxId := Fin.ofNat 1024 (field t 4 10)
def tdGen (t : BitVec 512) : Gen := BitVec.ofNat 4 (field t 0 4)
def tdBase (t : BitVec 512) : PAddr := BitVec.ofNat 48 (field t 128 16 * 2 ^ 32 + field t 64 32)
def tdGlobal (t : BitVec 512) : Bool := t.getLsbD 159
def tdModule (t : BitVec 512) : ModId := BitVec.ofNat 8 (field t 144 8)
def tdRank (t : BitVec 512) : Nat := field t 487 2 + 1
/-- Size of a dimension; dimensions above the rank read as 1. -/
def tdSize (t : BitVec 512) (k : Nat) : Nat := if k < tdRank t then field t (192 + 24 * k) 24 else 1
/-- Byte stride of dimensions 1 to 3. -/
def tdStride (t : BitVec 512) (k : Nat) : Nat := if k = 0 then 0 else field t (288 + 32 * (k - 1)) 32 * 16
def tdScaleAt (t : BitVec 512) : Nat := field t 384 32 * 64
def tdMetaAt (t : BitVec 512) : Nat := field t 416 32 * 64
/-- FP32 per-tensor scale, read only under scaling mode 0b01 (R113). -/
def tdScale (t : BitVec 512) : W32 := BitVec.ofNat 32 (field t 448 32)
def tdFormat (t : BitVec 512) : Nat := field t 480 4
def tdScaling (t : BitVec 512) : Nat := field t 484 2
def tdSparse (t : BitVec 512) : Bool := t.getLsbD 486

/-- The reserved fields of a tensor descriptor are 0. -/
def tdReservedOk (t : BitVec 512) : Bool := field t 489 23 = 0 && field t 152 7 = 0 && decide (field t 14 18 = 0)

/-- Tumblers that an operator descriptor's placement names (R119, R120). -/
def odPlaced (d : BitVec 1024) : Nat :=
  (if odNear d then odDieCount d else ((List.range 12).filter fun i => (odDieMask d).getLsbD i).length) * odWardCount d * odPerWard d

/-- Tiles of its grid. -/
def odTiles (d : BitVec 1024) : Nat := odGrid d 0 * odGrid d 1 * odGrid d 2 * odGrid d 3

/-! ### Spans (R114, R474, R72, R83) -/

/-- The least multiple of `m` that is not below `n`. -/
def roundUp (n m : Nat) : Nat := (n + m - 1) / m * m

/-- Stored elements of a row, before padding. -/
def tdStored (t : BitVec 512) : Nat := if tdSparse t then 2 * ((tdSize t 0 + 3) / 4) else tdSize t 0

/-- Stored elements of a row, padded to whole blocks. -/
def tdPadded (t : BitVec 512) : Nat :=
  if tdFormat t = 11 then roundUp (tdStored t) 40
  else match tdScaling t with
    | 2 => roundUp (tdStored t) 32
    | 3 => roundUp (tdStored t) 16
    | _ => tdStored t

/-- Bytes of the stored row (R474). -/
def tdRowBytes (t : BitVec 512) : Nat :=
  let n := tdPadded t
  match tdFormat t with
  | 0 | 10 => 4 * n
  | 1 | 2 => 2 * n
  | 3 | 4 | 8 => n
  | 5 | 6 => (n + 3) / 4 * 3
  | 7 | 9 => (n + 1) / 2
  | 11 => n / 40 * 9
  | _ => 0

/-- Rows of dimension 0. -/
def tdRows (t : BitVec 512) : Nat := tdSize t 1 * tdSize t 2 * tdSize t 3

/-- The element array's length, from the base. Log: DESIGN CHOICE 51. -/
def tdSpan (t : BitVec 512) : Nat :=
  ([1, 2, 3].map fun k => (tdSize t k - 1) * tdStride t k).sum + tdRowBytes t

/-- Every array of a tensor as an offset from its base and a length (R114). -/
def tdSpans (t : BitVec 512) : List (Nat × Nat) :=
  let scales := if (tdScaling t = 2 || tdScaling t = 3) && tdFormat t ≠ 11 then
      [(tdScaleAt t, tdRows t * (tdPadded t / (if tdScaling t = 2 then 32 else 16)))] else []
  let indices := if tdSparse t then [(tdMetaAt t, tdRows t * (((tdSize t 0 + 3) / 4 + 1) / 2))] else []
  (0, tdSpan t) :: scales ++ indices

/-! ### Tensors as rows of a step -/

/-- The format of a code of Table 3.1; a reserved code never passes dispatch (R62). -/
def fmtOfCode : Nat → Fmt
  | 0 => .fp32 | 1 => .fp16 | 2 => .bf16 | 3 => .e4m3 | 4 => .e5m2 | 5 => .e3m2 | 6 => .e2m3 | 7 => .e2m1 | 8 => .int8 | 9 => .int4
  | 10 => .int32 | _ => .pewter

/-- The scaling mode of a code of Table 3.3. -/
def scalingOfCode : Nat → Scaling
  | 1 => .perTensor | 2 => .mx | 3 => .block16 | _ => .none

/-- A row as its tensor's descriptor forms it (R113), or in the micro-image's own form. -/
def RowRef.row (ts : List (BitVec 512)) (r : RowRef) : SramRow :=
  match r.form with
  | .tensor i =>
    let t := ts.getD i 0
    { fmt := fmtOfCode (tdFormat t), scaling := scalingOfCode (tdScaling t), tensorScale := tdScale t, sparse := tdSparse t
      elems := r.elems, scales := r.scales, metaAt := r.metaAt }
  | .own f sc x sp => { fmt := f, scaling := sc, tensorScale := x, sparse := sp, elems := r.elems, scales := r.scales, metaAt := r.metaAt }

/-! ### Tiles and slivers (R44, R45, R122) -/

/-- Tile coordinates of the tumbler with flat index `t`, or none where it idles (R122, R44). -/
def tileOf (d : BitVec 1024) (t : Nat) : Option (List Nat) :=
  let g0 := odGrid d 0
  let g1 := odGrid d 1
  let g2 := odGrid d 2
  let g3 := odGrid d 3
  match odMapKind d with
  | 1 => if t < g0 * g1 * g2 * g3 then some [t % g0, t / g0 % g1, t / (g0 * g1) % g2, t / (g0 * g1 * g2)] else none
  | 2 =>
    let u := t / (g2 * g3)
    let across := (g1 + 3) / 4
    let c0 := u / 16 / across * 4 + u % 16 / 4
    let c1 := u / 16 % across * 4 + u % 4
    if c0 < g0 ∧ c1 < g1 then some [c0, c1, t / g3 % g2, t % g3] else none
  | _ => if t < g0 * g1 * g2 * g3 then some [t / (g1 * g2 * g3), t / (g2 * g3) % g1, t / g3 % g2, t % g3] else none

/-- The reduction length that the class parameters give (R122): K of MATMUL, the kv_len of ATTENTION, as Table 4.13 splits it, and the
C × R × S of a group of CONV. The other classes give none. Log: DEDUCED 156. -/
def reductionLength (d : BitVec 1024) : Option Nat :=
  match odClass d with
  | 1 => some (odParam d 2)
  | 2 => some (odParam d 1 * odParam d 5 * odParam d 6 / max 1 (odParam d 13))
  | 3 => some (odParam d 5)
  | _ => none

/-- The end of the iteration space in a dimension, past which a sliver is clipped (R44): rows and columns of output tensor 0 in
dimensions 0 and 1, its sizes 2 and 3 after that, and under split-reduction the reduction length in dimension 0. None where nothing
clips. Log: DESIGN CHOICE 157. -/
def spaceEnd (d : BitVec 1024) (out : BitVec 512) (k : Nat) : Option Nat :=
  if odMapKind d = 3 then (if k = 0 then reductionLength d else none)
  else some (tdSize out (match k with | 0 => 1 | 1 => 0 | k => k))

/-- Origin of a tile in a dimension (R122). -/
def tileOrigin (d : BitVec 1024) (c : List Nat) (k : Nat) : Nat := c.getD k 0 * odTile d k

/-- Extent of a tile in a dimension: its tile size, clipped at the edge; a tile that begins at the edge or beyond it is empty
(R44, R122). Log: DESIGN CHOICE 157. -/
def tileExtent (d : BitVec 1024) (out : BitVec 512) (c : List Nat) (k : Nat) : Nat :=
  match spaceEnd d out k with
  | some e => min (odTile d k) (e - tileOrigin d c k)
  | none => odTile d k

/-- A sliver's extents along the matrix unit's rows and columns, the padding of the edge included (R45). -/
def matrixRows (n : Nat) : Nat := roundUp n 16
def matrixCols (n : Nat) : Nat := roundUp n 32

/-! ### Checks of a micro-image's first step (R124) -/

/-- Split-reduction that does not cover the reduction (R122). -/
def splitShort (d : BitVec 1024) : Bool :=
  odMapKind d = 3 && match reductionLength d with | some k => decide (odGrid d 0 * odTile d 0 < k) | none => false

/-- A tensor's sizes are `x`, `y`, `z` (or 1 in dimension 2 where it may be shared) and 1 (Table 4.10a). -/
def sized (t : BitVec 512) (x y z : Nat) (shared : Bool) : Bool :=
  tdSize t 0 = x && tdSize t 1 = y && (tdSize t 2 = z || (shared && decide (tdSize t 2 = 1))) && decide (tdSize t 3 = 1)

/-- MATMUL's tensors match M, N, K and batch (R475). Other counts of tensors than those it lists match nothing. Log: DEDUCED 158. -/
def matmulFits (d : BitVec 1024) (ts : List (BitVec 512)) : Bool :=
  let m := odParam d 0
  let n := odParam d 1
  let k := odParam d 2
  let b := max 1 (odParam d 3)
  let flag (i : Nat) : Bool := (odParam d 4).testBit i
  let t (i : Nat) : BitVec 512 := ts.getD i 0
  let ins := odInputs d
  let third := if ins = 2 then true
    else if ins = 3 then (if flag 2 then sized (t 2) n 1 1 false else sized (t 2) n m b true)
    else sized (t 2) n m b true && sized (t 3) n 1 1 false
  (2 ≤ ins && decide (ins ≤ 4)) && odOutputs d = 1
    && (if flag 0 then sized (t 0) m k b true else sized (t 0) k m b true)
    && (if flag 1 then sized (t 1) k n b true else sized (t 1) n k b true)
    && third && sized (t ins) n m b false

/-- GATHER_SCATTER's tensors meet R478: a table, an index tensor and Y. Log: DEDUCED 158. -/
def gatherFits (d : BitVec 1024) (ts : List (BitVec 512)) : Bool :=
  let mode := odParam d 0
  let rows := odParam d 1
  let len := odParam d 2
  let table := ts.getD 0 0
  let index := ts.getD 1 0
  let y := ts.getD 2 0
  let flat (t : BitVec 512) : Bool := tdSize t 0 = len && tdSize t 2 = 1 && decide (tdSize t 3 = 1)
  decide (mode ≤ 2) && odInputs d = 2 && odOutputs d = 1 && flat table && flat y
    && tdSize (if mode = 0 then y else table) 1 = rows
    && sized index rows 1 1 false && (tdFormat index = 8 || tdFormat index = 9 || tdFormat index = 10)
    && tdScaling index = 0 && !tdSparse index
    && (mode ≠ 2 || ((tdFormat y = 0 || tdFormat y = 2) && tdScaling y = 0 && !tdSparse y))

/-- Rows that an index of GATHER_SCATTER may name (R478). -/
def indexLimit (d : BitVec 1024) (ts : List (BitVec 512)) : Nat := tdSize (ts.getD (if odParam d 0 = 0 then 0 else 2) 0) 1

/-- Index `j` of an index tensor's bytes, as a code of its format (R67, R66). -/
def indexCode (t : BitVec 512) (bytes : List Byte) (j : Nat) : Nat :=
  match tdFormat t with
  | 9 => (bytes.getD (j / 2) 0).toNat / 16 ^ (j % 2) % 16
  | 8 => (bytes.getD j 0).toNat
  | _ => leNat ((bytes.drop (4 * j)).take 4)

/-- Bits of an index. -/
def indexBits (t : BitVec 512) : Nat := match tdFormat t with | 9 => 4 | 8 => 8 | _ => 32

/-- Every index lies from 0 to its limit less 1; a negative one does not (R478). -/
def indicesFit (d : BitVec 1024) (ts : List (BitVec 512)) (bytes : List Byte) : Bool :=
  let t := ts.getD 1 0
  (List.range (odParam d 1)).all fun j =>
    let c := indexCode t bytes j
    decide (c < 2 ^ (indexBits t - 1) ∧ c < indexLimit d ts)

/-- COPY's bytes lie within the span of its source and of its destination (R478). Log: DEDUCED 158. -/
def copyFits (d : BitVec 1024) (ts : List (BitVec 512)) : Bool :=
  odInputs d = 1 && odOutputs d = 1 && decide (odParam d 0 ≤ tdSpan (ts.getD 0 0)) && decide (odParam d 0 ≤ tdSpan (ts.getD 1 0))

/-- The checks of R124 that the descriptors alone decide. -/
def descriptorsRefused (d : BitVec 1024) (ts : List (BitVec 512)) : Bool :=
  splitShort d || match odClass d with
    | 1 => !matmulFits d ts
    | 7 => !gatherFits d ts
    | 0x0C => !copyFits d ts
    | _ => false

end Sys2Proof.Machine
end

