-- ==== Sys2Proof/Machine/Edges.lean ====
section
/-! DEFINITION. Masks and plans of the die-to-die edges (R184, R185), as both ends of an edge and the spare ledger use them. -/

namespace Sys2Proof.Machine

/-- The other direction. -/
def flipDir : Dir → Dir
  | .up => .down
  | .down => .up

/-- An edge as an index. -/
def asEdge (e : Nat) : EdgeIx := Fin.ofNat 7 e

/-- A direction's plan, its held substitutions and its flows. -/
def Edge.plan (x : Edge) (d : Dir) : Plan := match d with | .up => x.up | .down => x.down
def Edge.held (x : Edge) (d : Dir) : Store (Option Nat) := match d with | .up => x.heldUp | .down => x.heldDown
def Edge.flows (x : Edge) (d : Dir) : List (Flow × Nat) := match d with | .up => x.flowsUp | .down => x.flowsDown

/-- Write them. -/
def Edge.setPlan (x : Edge) (d : Dir) (p : Plan) : Edge := match d with | .up => { x with up := p } | .down => { x with down := p }
def Edge.setHeld (x : Edge) (d : Dir) (h : Store (Option Nat)) : Edge :=
  match d with | .up => { x with heldUp := h } | .down => { x with heldDown := h }
def Edge.setFlows (x : Edge) (d : Dir) (f : List (Flow × Nat)) : Edge :=
  match d with | .up => { x with flowsUp := f } | .down => { x with flowsDown := f }

/-- Change a group of a direction. -/
def Edge.modGroup (x : Edge) (d : Dir) (g : Nat) (f : GroupState → GroupState) : Edge := x.setGroup d g (f (x.groupState d g))

/-- Lanes of an edge direction that the ledger padlocks. -/
def State.badLanes (s : State) (e : Nat) (d : Dir) : List Nat :=
  (List.range 136).filter fun l => s.faults.padlocked.contains (laneChan e d l)

/-- The agreed mask of a direction (R184). -/
def State.agreed (s : State) (e : Nat) (d : Dir) : BitVec 136 :=
  let x := s.edge e
  (s.badLanes e d).foldl (fun m l => putBit m l false) (match d with | .up => x.txUp &&& x.rxUp | .down => x.txDown &&& x.rxDown)

/-- The receiver of a direction finds a lane bad: its RX bit is cleared (R184). -/
def Edge.clearRx (x : Edge) (d : Dir) (l : Nat) : Edge :=
  match d with | .up => { x with rxUp := putBit x.rxUp l false } | .down => { x with rxDown := putBit x.rxDown l false }

/-- Spares of a plan (R185): a substitution that the ledger holds is kept while its spare stays agreed; a lane whose own lane is missing
takes the lowest agreed spare not in use. -/
def planSpares (m : BitVec 136) (held : Store (Option Nat)) : Store (Option Nat) :=
  let kept := held.filter fun p => match p.2 with | some sp => m.getLsbD sp | none => false
  (List.range 128).foldl (fun (acc : Store (Option Nat)) l =>
    if m.getLsbD l || (Store.get none acc l).isSome then acc
    else match (List.range 8).find? fun i => m.getLsbD (128 + i) && !acc.any fun p => decide (p.2 = some (128 + i)) with
      | some i => Store.put none acc l (some (128 + i))
      | none => acc) kept

/-- A logical data lane works under a plan's spares. -/
def laneWorks (m : BitVec 136) (sp : Store (Option Nat)) (l : Nat) : Bool := m.getLsbD l || (Store.get none sp l).isSome

/-- Width of a group and the lowest lane of its aligned set (R185). -/
def groupWidth (works : Nat → Bool) (g : Nat) : Nat × Nat :=
  let full (lo n : Nat) : Bool := (List.range n).all fun i => works (16 * g + lo + i)
  if full 0 16 then (16, 0)
  else match [0, 8].find? fun lo => full lo 8 with
    | some lo => (8, lo)
    | none => match [0, 4, 8, 12].find? fun lo => full lo 4 with
      | some lo => (4, lo)
      | none => (0, 0)

/-- The plan that both ends compute from an agreed mask and the substitutions held (R185). -/
def planOf (m : BitVec 136) (held : Store (Option Nat)) : Plan :=
  let sp := planSpares m held
  let gs := (List.range 8).map fun g => groupWidth (laneWorks m sp) g
  { widths := gs.map Prod.fst, sets := gs.map Prod.snd, spares := sp }

/-- A plan without the groups that the ledger padlocks as a whole (R380). -/
def State.dropGroups (s : State) (e : Nat) (d : Dir) (p : Plan) : Plan :=
  { p with widths := (List.range 8).map fun g => if s.faults.padlocked.contains (groupChan e d g) then 0 else p.widths.getD g 0 }

/-- The plan of a direction from its present masks. -/
def State.newPlan (s : State) (e : Nat) (d : Dir) : Plan := s.dropGroups e d (planOf (s.agreed e d) ((s.edge e).held d))

/-- The physical lane that carries a logical lane. -/
def Plan.phys (p : Plan) (l : Nat) : Nat := (Store.get none p.spares l).getD l

/-- The logical data lane that a spare carries by a substitution held, or the data lane itself. -/
def heldLane (held : Store (Option Nat)) (l : Nat) : Nat :=
  match held.find? fun p => p.2 = some l with
  | some p => p.1
  | none => l

/-! ### The mask exchange -/

/-- Both ends send MASK for the present round, once no isolation test is under way (R182, R187). -/
def State.sendMasks (s : State) (e : Nat) : State :=
  if (List.range 8).any fun g => ((s.edge e).groupState .up g).stopped then s.modEdge e fun x => { x with asked := false }
  else
    let s := s.modEdge e fun x => { x with asked := true }
    let x := s.edge e
    s.emits [.mask (asEdge e) true x.txUp x.rxDown x.round, .mask (asEdge e) false x.txDown x.rxUp x.round]

/-- What a new round forgets of the one before. -/
def Edge.clearRound (x : Edge) : Edge := { x with maskLow := false, maskHigh := false, planLow := none, planHigh := none }

/-- A retrain, or the exchange of training, begins (R187, R189). -/
def Edge.beginRetrain (x : Edge) : Edge :=
  { x.clearRound with retraining := true, round := 1, disagreed := 0, restarts := 0, reqLow := false, reqHigh := false, widthLog := [] }

/-- The mask exchange of training begins once the nearer end's role map is written (R341). -/
def State.beginMask (s : State) (e : Nat) : State :=
  if (s.edge e).state = .masking && (s.edge e).roleLowLocked && !(s.edge e).retraining then (s.modEdge e Edge.beginRetrain).sendMasks e
  else s

end Sys2Proof.Machine
end

