-- ==== Sys2Proof/Machine/Routes.lean ====
section
/-! DEFINITION. Routes: between base dies over the usable edges (R176), and a token's way from one ward to another (R41). -/

namespace Sys2Proof.Machine

/-- An edge joins two dies of one row (R13). -/
def sameRow (a b : Nat) : Bool := a / 3 = b / 3

/-- Paths longer by one die than those of a list, each without a die twice; a path lists its last die first. -/
def extendPaths (usable : List Nat) (ps : List (List Nat)) : List (List Nat) :=
  (ps.map fun p => match p with
    | d :: _ => ((List.range 6).filter fun x => !p.contains x && match edgeBetween d x with
        | some e => usable.contains e | none => false).map fun x => x :: p
    | [] => []).flatten

/-- Every path from a die over the usable edges, as the dies after it, in order. -/
def pathsFrom (usable : List Nat) (a : Nat) : List (List Nat) :=
  let p1 := extendPaths usable [[a]]
  let p2 := extendPaths usable p1
  let p3 := extendPaths usable p2
  let p4 := extendPaths usable p3
  (p1 ++ p2 ++ p3 ++ p4 ++ extendPaths usable p4).map fun p => p.reverse.drop 1

/-- Edges of a path that begins at `a`, true for a row edge. -/
def pathRows (a : Nat) : List Nat → List Bool
  | [] => []
  | d :: rest => sameRow a d :: pathRows d rest

/-- Turns from a between-rows edge onto a row edge. -/
def pathTurns : List Bool → Nat
  | false :: true :: rest => pathTurns (true :: rest) + 1
  | _ :: rest => pathTurns rest
  | [] => 0

/-- The first of two paths that runs along the row first. -/
def rowFirst : List Bool → List Bool → Bool
  | a :: x, b :: y => if a = b then rowFirst x y else a
  | _, _ => true

/-- The route from one base die to another (R176): a shortest path, along the row first among equals, with one turn onto a row edge at
most; none where there is no such path. -/
def routeOf (usable : List Nat) (a b : Nat) : Option (List Nat) :=
  ((pathsFrom usable a).filter fun p => p.getLast? = some b && decide (pathTurns (pathRows a p) ≤ 1)).foldl (fun best p =>
    match best with
    | none => some p
    | some q =>
      if p.length < q.length ∨ (p.length = q.length ∧ !rowFirst (pathRows a q) (pathRows a p)) then some p else some q) none

/-- The buffer set in which each edge of a path is crossed: 0 until the turn from a between-rows edge onto a row edge, 1 after it
(R176). -/
def pathSets (set : Bool) : List Bool → List Bool
  | false :: true :: rest => set :: pathSets true (true :: rest)
  | _ :: rest => set :: pathSets set rest
  | [] => []

/-- The route tables of all dies, keyed 6 × from + to. -/
def routeTables (usable : List Nat) : Store (List Nat) :=
  (List.range 36).foldl (fun m k =>
    if k / 6 = k % 6 then m else match routeOf usable (k / 6) (k % 6) with | some p => Store.put [] m k p | none => m) []

/-! ### The compute-die router -/

/-- Node of a physical ward on the 5 × 5 router. Log: DESIGN CHOICE 164. -/
def wardNode (die : Die) (pward : Nat) : Hop := .node die (pward / 5) (pward % 5)

/-- Numbers from `a` to `b`, both included. -/
def stepsTo (a b : Nat) : List Nat :=
  if a ≤ b then (List.range (b - a + 1)).map fun i => a + i else (List.range (a - b + 1)).map fun i => a - i

/-- Nodes from one to another, dimension by dimension, along the column first (R41). Log: DESIGN CHOICE 164. -/
def nodePath (die : Die) (p q : Nat) : List Hop :=
  ((stepsTo (p / 5) (q / 5)).map fun r => Hop.node die r (p % 5))
    ++ ((stepsTo (p % 5) (q % 5)).drop 1).map fun c => Hop.node die (q / 5) c

end Sys2Proof.Machine
end

