-- ==== Sys2Proof/Machine/Flits.lean ====
section
/-! DEFINITION. Die-to-die flits and their sending (R173–R175, R177, R178, R180): the format, the classes, the groups that a class rides, the
flows bound to groups, credits and the replay buffer. -/

namespace Sys2Proof.Machine

/-! ### The flit (Table 6.5) -/

def flitKind (f : BitVec 576) : Nat := field f 62 2
def flitSeq (f : BitVec 576) : BitVec 10 := BitVec.ofNat 10 (field f 52 10)
def flitAck (f : BitVec 576) : BitVec 10 := BitVec.ofNat 10 (field f 42 10)
def flitClass (f : BitVec 576) : Nat := field f 39 3
def flitSet (f : BitVec 576) : Bool := f.getLsbD 38
def flitCreditClass (f : BitVec 576) : Nat := field f 35 3
def flitCreditSet (f : BitVec 576) : Nat := field f 34 1
def flitCreditCount (f : BitVec 576) : Nat := field f 32 2
def flitPayload (f : BitVec 576) : BitVec 512 := BitVec.ofNat 512 (field f 64 512)

/-- The check of a flit: CRC-32C over bits [575:32] (R177). -/
def flitCheck (f : BitVec 576) : Bool := crc32c 544 (field f 32 544) = BitVec.ofNat 32 (field f 0 32)

/-- A flit from its fields, with its check. `credit` is the class and set of the credits returned, 2 × class + set, and their count. -/
def mkFlit (kind : Nat) (seq ack : BitVec 10) (cls : Nat) (set : Bool) (credit : Nat × Nat) (payload : BitVec 512) : BitVec 576 :=
  let body := payload.toNat * 2 ^ 32 + kind * 2 ^ 30 + seq.toNat * 2 ^ 20 + ack.toNat * 2 ^ 10 + cls * 2 ^ 7 + set.toNat * 2 ^ 6
    + credit.1 * 2 ^ 2 + credit.2
  BitVec.ofNat 576 (body * 2 ^ 32 + (crc32c 544 body).toNat)

/-- An idle flit: the last sequence received in order, and credits returned (R178, R180). -/
def idleFlit (ack : BitVec 10) (credit : Nat × Nat) : BitVec 576 := mkFlit 1 0 ack 0 false credit 0

/-! ### Classes and groups (R173, R174) -/

/-- What crosses an edge (Table 6.4). -/
inductive Traffic where
  | control
  | request (express : Bool)
  | response (express : Bool)
deriving DecidableEq, Repr

/-- Its class. -/
def Traffic.cls : Traffic → Nat
  | .control => 2
  | .request x => if x then 3 else 0
  | .response x => if x then 4 else 1

/-- Rank of a class within a group: 0 goes first. -/
def classRank (cls : Nat) : Nat := if cls = 2 then 0 else if cls = 3 ∨ cls = 4 then 1 else 2

/-- A group has lanes in a direction and has not turned off. -/
def Edge.usable (x : Edge) (d : Dir) (g : Nat) : Bool := (x.plan d).widths.getD g 0 ≠ 0 && !(x.groupState d g).off

/-- Groups that a class rides in a direction: the usable groups of its role, and the other role's where it has none left. -/
def Edge.groupsFor (x : Edge) (d : Dir) (cls : Nat) : List Nat :=
  let all := (List.range 8).filter fun g => x.usable d g
  let mine := all.filter fun g => classRank cls = 0 || (x.roleLow.getLsbD g == decide (classRank cls = 1))
  if mine.isEmpty then all else mine

/-- A group of an edge carries flits in a direction. -/
def Edge.carries (x : Edge) (d : Dir) (g : Nat) : Bool :=
  x.state = .opened && !(x.groupState d g).stopped && !(x.groupState d g).held && !(x.groupState d g).off

/-- The group of a flow (R175): the one it is bound to while that is usable, else the one that its hash picks.
Log: DESIGN CHOICE 169. -/
def Edge.groupOf (x : Edge) (d : Dir) (f : Flow) : Option Nat :=
  let gs := x.groupsFor d f.cls
  match (x.flows d).find? fun p => p.1 = f with
  | some p => if x.usable d p.2 then some p.2 else gs[Config.flowHash f.port f.dst % gs.length]?
  | none => gs[Config.flowHash f.port f.dst % gs.length]?

/-- A flow is bound to a group. -/
def Edge.bind (x : Edge) (d : Dir) (f : Flow) (g : Nat) : Edge := x.setFlows d ((x.flows d).filter (fun p => p.1 ≠ f) ++ [(f, g)])

/-- A beat joins the beats that wait at its flow's group; with no group usable it stays out. -/
def Edge.enqueue (x : Edge) (d : Dir) (b : BeatOut) : Edge :=
  match x.groupOf d b.flow with
  | some g => (x.bind d b.flow g).modGroup d g fun q => { q with waiting := q.waiting ++ [b] }
  | none => x

/-! ### Sending -/

/-- Receive buffers of a group for a class and set (R180). -/
def creditSize (cls : Nat) (set : Bool) : Nat :=
  if !set && (cls = 0 || cls = 1 || cls = 3 || decide (cls = 4)) then 128 else 16

/-- Key of a class and set among a sender's credits. -/
def creditKey (cls : Nat) (set : Bool) : Nat := 2 * cls + set.toNat

/-- The sender holds a credit for a class and set (R180). -/
def GroupState.credit (q : GroupState) (cls : Nat) (set : Bool) : Bool := Store.get 0 q.used (creditKey cls set) < creditSize cls set

/-- Places of the beats that may go next: the first that waits of its flow, with a credit. -/
def GroupState.ready (q : GroupState) : List (Nat × BeatOut) :=
  ((List.range q.waiting.length).zip q.waiting).filter fun p =>
    q.credit p.2.flow.cls p.2.set && !((q.waiting.take p.1).any fun b => b.flow = p.2.flow)

/-- How early a class goes: by rank, and within a rank the class that did not go last (R174). -/
def GroupState.order (q : GroupState) (cls : Nat) : Nat :=
  let r := classRank cls
  2 * r + (if (q.lastClass.find? fun p => p.1 = r).map Prod.snd = some cls then 1 else 0)

/-- The beat that goes next. -/
def GroupState.next (q : GroupState) : Option (Nat × BeatOut) :=
  q.ready.foldl (fun best p =>
    match best with
    | none => some p
    | some b => if q.order p.2.flow.cls < q.order b.2.flow.cls then some p else best) none

/-- Send a beat: it takes a credit, the next sequence and a place in the replay buffer. -/
def GroupState.send (q : GroupState) (ack : BitVec 10) (i : Nat) (b : BeatOut) : GroupState × BitVec 576 :=
  let f := mkFlit 0 q.nextSeq ack b.flow.cls b.set (0, 0) b.payload
  let k := creditKey b.flow.cls b.set
  ({ q with nextSeq := q.nextSeq + 1, replay := q.replay ++ [(b, f)], waiting := q.waiting.eraseIdx i
            used := Store.put 0 q.used k (Store.get 0 q.used k + 1)
            lastClass := Store.put 99 q.lastClass (classRank b.flow.cls) b.flow.cls }, f)

/-- What a group sends now, `n` flits at most: while a beat may go and fewer than 256 flits are unacknowledged (R178). -/
def GroupState.sendAll (q : GroupState) (ack : BitVec 10) : Nat → GroupState × List (BitVec 576)
  | 0 => (q, [])
  | n + 1 =>
    if 256 ≤ q.replay.length then (q, [])
    else match q.next with
      | none => (q, [])
      | some (i, b) =>
        let r := q.send ack i b
        let rest := GroupState.sendAll r.1 ack n
        (rest.1, r.2 :: rest.2)

/-- Last sequence that the sender of a direction has received in order on the other direction of the group. -/
def Edge.ackOf (x : Edge) (d : Dir) (g : Nat) : BitVec 10 := (x.groupState (flipDir d) g).expected - 1

/-- A group of a direction sends the beats that wait, as far as it may. -/
def State.pumpGroup (s : State) (e : Nat) (d : Dir) (g : Nat) : State :=
  let x := s.edge e
  let q := x.groupState d g
  if !x.carries d g || q.waiting.isEmpty then s
  else
    let r := q.sendAll (x.ackOf d g) q.waiting.length
    (s.modEdge e fun y => y.setGroup d g r.1).emits (r.2.map fun f => .flit (asEdge e) d (Fin.ofNat 8 g) f)

/-- Every group of a direction. -/
def State.pumpGroups (s : State) (e : Nat) (d : Dir) : State := (List.range 8).foldl (fun t g => t.pumpGroup e d g) s

/-- Beats go from one base die toward another over the first edge of the route (R173, R176). Log: DESIGN CHOICE 148. -/
def State.carry (s : State) (from_ dest port : Nat) (t : Traffic) (beats : List (BitVec 512)) : State :=
  match Store.get [] s.d2d.table (6 * from_ + dest) with
  | [] => s
  | next :: rest =>
    match edgeBetween from_ next with
    | none => s
    | some e =>
      let d : Dir := if from_ < next then .up else .down
      let set := (pathSets false (pathRows from_ (next :: rest))).headD false
      let flow : Flow := { cls := t.cls, port, dst := dest }
      (s.modEdge e fun x => beats.foldl (fun y b => y.enqueue d { flow, set, payload := b }) x).pumpGroups e d

/-- Bytes as beats of 64 B. -/
def beatsOf (bytes : List Byte) : List (BitVec 512) := slotsOf ((bytes.length + 63) / 64) bytes

/-- Base die of the home of an address. -/
def State.homeAt (s : State) (a : Nat) : Option Nat :=
  match s.place a with
  | .cell h _ => some (if h < 12 then h / 2 else h - 12)
  | _ => none

/-- The beats of a token to another base die cross the edges of its route: data tokens as mesh requests, every other as control (R41,
R173, Table 6.4). -/
def State.carryToken (s : State) (t : Token) : State :=
  s.carry t.src.base t.dst.base t.src.port (if t.kind = tkData then .request false else .control) t.beats

/-- Send tokens among other emissions. -/
def State.sendTokens (s : State) (os : List Out) : State :=
  (os.foldl (fun t o => match o with | .token k => t.carryToken k | _ => t) s).emits os

/-- Unacknowledged flits after an acknowledgement of everything up to `ack`. -/
def ackReplay (replay : List (BeatOut × BitVec 576)) (ack : BitVec 10) : List (BeatOut × BitVec 576) :=
  match replay with
  | [] => []
  | f :: _ =>
    let n := (ack - flitSeq f.2 + 1).toNat
    if n ≤ replay.length then replay.drop n else replay

/-- Credits come back to a sender (R180). -/
def takeCredits (q : GroupState) (f : BitVec 576) : GroupState :=
  let k := 2 * flitCreditClass f + flitCreditSet f
  { q with used := Store.put 0 q.used k (Store.get 0 q.used k - flitCreditCount f) }

/-- A group that has turned off in a direction: its unacknowledged flits, then the beats that wait, move to their flows' new groups,
before any new flit of those flows (R175). With no group left they stay where they are (R176). -/
def Edge.rehome (x : Edge) (d : Dir) (g : Nat) : Edge :=
  let q := x.groupState d g
  if x.usable d g || ((List.range 8).all fun k => !x.usable d k) then x
  else
    let x := x.setGroup d g { q with replay := [], waiting := [], used := [] }
    (q.replay.map Prod.fst ++ q.waiting).foldl (fun y b => y.enqueue d b) x

/-- Every group of both directions that has turned off. -/
def State.rehomeAll (s : State) (e : Nat) : State :=
  let s := s.modEdge e fun x => [Dir.up, Dir.down].foldl (fun y d => (List.range 8).foldl (fun z g => z.rehome d g) y) x
  (s.pumpGroups e .up).pumpGroups e .down

end Sys2Proof.Machine
end

