-- ==== Sys2Proof/Machine/Wards.lean ====
section
/-! DEFINITION. What the wards do for every family: the remap tables (R46), releasing tumblers, failing operators (R374)
and answering a generation change (R42). -/

namespace Sys2Proof.Machine

/-- Keys of wards and tumblers by logical index. -/
def wardKey (die ward : Nat) : Nat := 24 * die + ward
def tumKey (die ward tum : Nat) : Nat := 1536 * die + 64 * ward + tum
def tkey (t : TumId) : Nat := tumKey t.die.val t.ward.val t.tum.val
def wkey (t : TumId) : Nat := wardKey t.die.val t.ward.val

/-- Base die beneath a compute die. -/
def dieBase (die : Nat) : BaseDie := asBase (die / 2)

/-! ### Generations -/

/-- Local drain of a teardown has completed: every named dispatcher has reported (Table 4.11 step 7). -/
def Teardown.drained (td : Teardown) : Bool := td.changed && td.named.all fun d => td.reported.contains d

/-- The module acts on accesses and start tokens of a context's generation (Table 4.1, R128): its own while it is Open or its teardown
has not changed it, and then the old one until local drain completes. -/
def State.acceptsGen (s : State) (ctx : CtxId) (gen : Gen) : Bool :=
  let c := s.context ctx.val
  match c.state with
  | .opened => decide (gen = c.gen)
  | .draining =>
    match c.teardown with
    | some td => if td.changed then decide (gen + 1 = c.gen) && !td.drained else decide (gen = c.gen)
    | none => decide (gen = c.gen)
  | _ => false

/-- Count a straggler in a context's teardown record (R128). -/
def State.straggler (s : State) (ctx : CtxId) : State :=
  s.modContext ctx.val fun c => { c with teardown := c.teardown.map fun td => { td with stragglers := td.stragglers + 1 } }

/-! ### Clocks -/

/-- A base die's blocks run: it holds its own place and its clock is locked (R13, R15, R192). -/
def State.clocked (s : State) (die : BaseDie) : Bool := (s.base die.val).pllLocked

/-- The hinge map entry of a die's sampled position; that of position 7 while none is sampled (R169). -/
def State.hingeOf (s : State) (die : Nat) : Hinge :=
  match (s.base die).position with
  | some p => hinge p.val
  | none => Hinge.none

/-! ### Remap tables -/

/-- What a remap entry says. Log: DESIGN CHOICE 14. -/
inductive Remap where
  | phys (i : Nat)
  /-- Valid bit clear: nothing stands behind the logical index. -/
  | unserved
  /-- The halves of the critical value disagree (R46). -/
  | absent
deriving DecidableEq, Repr

/-- The value of a remap entry: valid bit 31, index in bits [6:0] (log entry 14). Log: DESIGN CHOICE 14. -/
def remapValue (valid : Bool) (i : Nat) : W32 := BitVec.ofNat 32 (valid.toNat * 2 ^ 31 + i)

/-- Read a remap entry; an unlisted one is the identity. Log: DESIGN CHOICE 14. -/
def readRemap (m : Store (Option W64)) (key ident : Nat) : Remap :=
  match Store.get none m key with
  | none => .phys ident
  | some w =>
    match critValue w with
    | none => .absent
    | some v => if v.getLsbD 31 then .phys (field v 0 7) else .unserved

/-- Key of a tumbler remap entry of a physical ward. -/
def tumRemapKey (die pward ltum : Nat) : Nat := 1600 * die + 64 * pward + ltum

def State.wardRemap (s : State) (die lward : Nat) : Remap := readRemap s.compute.wardRemap (wardKey die lward) lward
def State.tumRemap (s : State) (die pward ltum : Nat) : Remap :=
  readRemap s.compute.tumRemap (tumRemapKey die pward ltum) ltum

/-- The physical ward behind a logical one. -/
def State.physWard (s : State) (die lward : Nat) : Option Nat :=
  match s.wardRemap die lward with | .phys i => some i | _ => none

/-- What stands behind a logical tumbler: an entry on its way that is absent makes it absent. -/
def State.physTum (s : State) (die lward ltum : Nat) : Remap :=
  match s.wardRemap die lward with
  | .phys w => s.tumRemap die w ltum
  | r => r

/-- Write a remap entry as a critical value. -/
def State.setWardRemap (s : State) (die lward : Nat) (valid : Bool) (i : Nat) : State :=
  { s with compute := { s.compute with
    wardRemap := Store.put none s.compute.wardRemap (wardKey die lward)
      (if valid && decide (i = lward) then none else some (critWord (remapValue valid i))) } }

def State.setTumRemap (s : State) (die pward ltum : Nat) (valid : Bool) (i : Nat) : State :=
  { s with compute := { s.compute with
    tumRemap := Store.put none s.compute.tumRemap (tumRemapKey die pward ltum)
      (if valid && decide (i = ltum) then none else some (critWord (remapValue valid i))) } }

/-- Logical ward that a physical one serves. -/
def State.logWard (s : State) (die pward : Nat) : Option Nat :=
  (List.range 24).find? fun l => s.physWard die l = some pward

/-- Logical tumbler that a physical one serves. -/
def State.logTum (s : State) (die pward ptum : Nat) : Option Nat :=
  (List.range 64).find? fun l => s.tumRemap die pward l = .phys ptum

/-- Physical channel of a logical ward, as a collector turns it (R369). -/
def State.chanOfWard (s : State) (die lward : Nat) : Chan := wardChan die ((s.physWard die lward).getD lward)

/-- Physical channel of a logical tumbler. -/
def State.chanOfTum (s : State) (t : TumId) : Chan :=
  let w := (s.physWard t.die.val t.ward.val).getD t.ward.val
  match s.tumRemap t.die.val w t.tum.val with
  | .phys i => tumblerChan t.die.val w i
  | _ => tumblerChan t.die.val w t.tum.val

/-! ### Releasing tumblers -/

/-- Tokens in an output queue that belong to a context's old generation. -/
def staleToken (ctx : CtxId) (gen : Gen) (t : Token) : Bool := t.ctx = ctx && t.gen = gen
def staleBeat (ctx : CtxId) (gen : Gen) (b : Beat) : Bool := b.ctx = ctx && b.gen = gen

/-- Tokens of a context's generation held in a tumbler's queues. -/
def Tumbler.staleCount (t : Tumbler) (ctx : CtxId) (gen : Gen) : Nat :=
  (t.inq.map fun (q : Nat × List Beat) => (q.2.filter fun b => b.last && staleBeat ctx gen b).length).sum
    + (t.outq.map fun (q : Nat × List Token) => (q.2.filter (staleToken ctx gen)).length).sum

/-- Filter every queue of a store, keeping it in canonical form. -/
def filterQueues {α : Type} [DecidableEq α] (keep : α → Bool) : Store (List α) → Store (List α)
  | [] => []
  | (k, q) :: m =>
    let q' := q.filter keep
    if q' = [] then filterQueues keep m else (k, q') :: filterQueues keep m

/-- Steps 2, 3 and 5 of R42 on a tumbler: the running step is aborted, tokens of the old generation leave its queues, and
it is released; while it still holds a read or write slot it stays occupied, failed with `st` (R126). -/
def Tumbler.release (t : Tumbler) (ctx : CtxId) (gen : Gen) (st : Byte) : Tumbler :=
  { t with
    inq := filterQueues (fun b => !staleBeat ctx gen b) t.inq
    outq := filterQueues (fun k => !staleToken ctx gen k) t.outq
    credits := []
    resident := if t.loads.isEmpty && t.writes.isEmpty then none
      else t.resident.map fun r => { r with running := none, toIssue := [], reserved := 0, toSend := [], failed := some st } }

/-- The tumbler's operator is this one. -/
def Tumbler.runs (t : Tumbler) (op : W32) (ctx : CtxId) : Bool :=
  match t.resident with
  | some r => r.opSerial = op && r.ctx = ctx
  | none => false

/-- Change every tumbler of a logical ward. -/
def State.modWardTums (s : State) (die ward : Nat) (f : Tumbler → Tumbler) : State :=
  (List.range 64).foldl (fun t i => t.modTumbler (tumKey die ward i) f) s

/-- Tumblers of a ward. -/
def State.wardTums (s : State) (die ward : Nat) : List Tumbler :=
  (List.range 64).map fun i => s.tumbler (tumKey die ward i)

/-- A tumbler or its start queue holds an operator of a context. -/
def Tumbler.holds (t : Tumbler) (ctx : CtxId) : Bool :=
  (match t.resident with | some o => decide (o.ctx = ctx) | none => false) || t.startq.any fun k => decide (k.ctx = ctx)

/-- Load a context's region table into a ward, where the ward holds none and one of its 8 is free (R138). -/
def Ward.load (w : Ward) (ctx : CtxId) (gen : Gen) (rs : List Region) : Ward :=
  let others := w.tables.filter fun r => r.ctx ≠ ctx
  if (w.tables.any fun r => r.ctx = ctx && r.gen = gen) || decide (8 ≤ others.length) then w
  else { w with tables := others ++ [{ ctx, gen, regions := rs, coming := 0 }] }

/-- Change the region table of a context. -/
def Ward.modTable (w : Ward) (ctx : CtxId) (f : RegionTable → RegionTable) : Ward :=
  { w with tables := w.tables.map fun r => if r.ctx = ctx then f r else r }

/-- Free a released tumbler whose last slot is free. -/
def Tumbler.settle (t : Tumbler) : Tumbler :=
  match t.resident with
  | some r => if r.failed.isSome && t.loads.isEmpty && t.writes.isEmpty then { t with resident := none } else t
  | none => t

/-! ### Completion, abort and drained tokens -/

/-- The control-class credit that a start token's place returns to its dispatcher when it leaves the start queue (R43). -/
def startCredit (k : StartTok) : Out :=
  .token { header := tokenHeader k.ctx k.gen tkCredit (agentEnd (serialDie k.opSerial) agDispatcher) 0 0 0 k.dest.toEnd, beats := [] }

/-- Credits of the start tokens of a ward that are dropped. -/
def State.startCredits (s : State) (die ward : Nat) (p : StartTok → Bool) : List Out :=
  ((s.wardTums die ward).map fun t => (t.startq.filter p).map startCredit).flatten

/-- A ward's completion token to the operator's dispatcher (R21, R374). -/
def completionToken (ctx : CtxId) (gen : Gen) (die ward : Nat) (op : W32) (st : Byte) : Out :=
  .token (controlToken ctx gen (wardEnd die ward) (agentEnd (serialDie op) agDispatcher)
    (controlWord ccCompletion st op 0))

/-- The dispatchers that a generation change names in its arg field (Table 2.2a). -/
def argDies (arg : BitVec 16) : List BaseDie := (List.finRange 6).filter fun d => arg.getLsbD d.val

/-- A ward's drained tokens (R42 step 6). -/
def drainedTokens (ctx : CtxId) (gen : Gen) (die ward : Nat) (arg : BitVec 16) : List Out :=
  (argDies arg).map fun d =>
    .token (controlToken ctx gen (wardEnd die ward) (agentEnd d agDispatcher) (controlWord ccDrained 0 0 0))

/-- No tumbler of the ward has an unacknowledged write of an operator. -/
def State.written (s : State) (die ward : Nat) (ctx : CtxId) (op : W32) : Bool :=
  (s.wardTums die ward).all fun t => !(t.writes.any fun w => w.ctx = ctx && decide (w.opSerial = op))

/-- Send the completion tokens that waited for writes now acknowledged (R21). -/
def State.flushOwed (s : State) (die ward : Nat) : State :=
  let k := wardKey die ward
  let due := (s.ward k).owed.filter fun o => s.written die ward o.1 o.2.2.1
  (s.modWard k fun w => { w with owed := w.owed.filter fun o => !due.contains o }).sendTokens
    (due.map fun o => completionToken o.1 o.2.1 die ward o.2.2.1 o.2.2.2)

/-- What a ward does when a slot or a tumbler of it has been freed: the completion tokens that no write holds back leave (R21), and a
context's region table is freed once no tumbler and no start queue holds an operator of it and no start token of it is on its way
(R138). -/
def State.settleWard (s : State) (die ward : Nat) : State :=
  let s := s.flushOwed die ward
  let ts := s.wardTums die ward
  s.modWard (wardKey die ward) fun w =>
    { w with tables := w.tables.filter fun r => decide (0 < r.coming) || ts.any fun t => t.holds r.ctx }

/-- The ward releases an operator's tumblers, drops its start tokens, and returns its completion token once, when its writes are
acknowledged (R374 steps 1 and 3, R21). -/
def State.failOnWard (s : State) (die ward : Nat) (ctx : CtxId) (gen : Gen) (op : W32) (st : Byte) : State :=
  if (s.ward (wardKey die ward)).completed.contains (ctx, op) then s
  else
    let n := ((s.wardTums die ward).map fun t => if t.runs op ctx then t.staleCount ctx gen else 0).sum
    let credits := s.startCredits die ward fun k => k.opSerial = op && k.ctx = ctx
    let s := s.modWardTums die ward fun t =>
      let t := if t.runs op ctx then t.release ctx gen st else t
      { t with startq := t.startq.filter fun k => !(k.opSerial = op && k.ctx = ctx) }
    let s := s.modWard (wardKey die ward) fun w =>
      { w with completed := w.completed ++ [(ctx, op)], owed := w.owed ++ [(ctx, gen, op, st)], discarded := w.discarded + n }
    (s.emits credits).settleWard die ward

/-- Operators resident on a ward, with the context and generation of each. -/
def State.wardOps (s : State) (die ward : Nat) : List (CtxId × Gen × W32) :=
  ((s.wardTums die ward).filterMap fun t =>
    match t.resident with
    | some r => if r.failed.isNone then some (r.ctx, r.gen, r.opSerial) else none
    | none => none).eraseDups

/-- Operators of a ward's start queues. -/
def State.wardStarts (s : State) (die ward : Nat) : List (CtxId × Gen × W32) :=
  (((s.wardTums die ward).map fun t => t.startq.map fun k => (k.ctx, k.gen, k.opSerial)).flatten).eraseDups

/-- Fail each operator of a list on a ward. -/
def State.failAll (s : State) (die ward : Nat) (ops : List (CtxId × Gen × W32)) (st : Byte) : State :=
  ops.foldl (fun t o => t.failOnWard die ward o.1 o.2.1 o.2.2 st) s

/-! ### Silicon -/

/-- The part of a tumbler that is its silicon: SRAM, registers, instruction store and generators. -/
def Tumbler.wearing (t old : Tumbler) : Tumbler :=
  { t with sram := old.sram, regs := old.regs, slots := old.slots, tables := old.tables, lastCtx := old.lastCtx,
           rng := old.rng }

/-- Key of a physical tumbler. -/
def siliconKey (die pward ptum : Nat) : Nat := 1700 * die + 68 * pward + ptum

/-- The physical tumbler behind a logical one. -/
def State.silicon (s : State) (die lward ltum : Nat) : Option Nat :=
  match s.wardRemap die lward with
  | .phys w => match s.tumRemap die w ltum with | .phys p => some (siliconKey die w p) | _ => none
  | _ => none

/-- A physical tumbler behind no logical index. -/
def State.idleTumbler (s : State) (k : Nat) : Tumbler := Store.get Tumbler.reset s.compute.idle k
def State.setIdle (s : State) (k : Nat) (t : Tumbler) : State :=
  { s with compute := { s.compute with idle := Store.put Tumbler.reset s.compute.idle k t } }

/-- After a change of the remap tables each logical tumbler of a list has the silicon that the tables now name, and silicon left behind
no index is kept as it was. `before` is the state before the change. -/
def State.moveSilicon (s before : State) (die : Nat) (tums : List (Nat × Nat)) : State :=
  let moved := tums.filter fun x => s.silicon die x.1 x.2 ≠ before.silicon die x.1 x.2
  let s := moved.foldl (fun t x => match before.silicon die x.1 x.2 with
    | some k => t.setIdle k (Tumbler.reset.wearing (t.tumbler (tumKey die x.1 x.2)))
    | none => t) s
  moved.foldl (fun t x =>
    match t.silicon die x.1 x.2 with
    | some k => (t.modTumbler (tumKey die x.1 x.2) fun u => u.wearing (t.idleTumbler k)).setIdle k Tumbler.reset
    | none => t.modTumbler (tumKey die x.1 x.2) fun u => u.wearing Tumbler.reset) s

end Sys2Proof.Machine
end

