-- ==== Sys2Proof/Machine/Capacity.lean ====
section
/-! DEFINITION. The capacity that the module reports (R2, R378), and the keeper's moves between READY and DEGRADED (R342). -/

namespace Sys2Proof.Machine

/-- A flash part that does not serve (R338). -/
def FlashPart.out (p : FlashPart) : Bool := !p.present || p.padlocked

/-- Reported capacity below Table 0.1, a flash part absent, or a link waiting (R342). -/
def State.short (s : State) : Bool :=
  let c := s.faults.capacity
  !c.wards.isEmpty || !c.tumblers.isEmpty || !c.pages.isEmpty || !c.lanes.isEmpty || decide (c.cores < 24)
    || s.flash.partA.out || s.flash.partB.out
    || s.domain.links.any fun p => decide (p.2.state = .waiting)

/-- The keeper moves between READY and DEGRADED as the reported capacity changes (R342). -/
def State.adjustReady (s : State) : State :=
  if s.modState = .ready ∨ s.modState = .degraded then s.setModState (if s.short then .degraded else .ready) else s

def Capacity.wardCount (c : Capacity) (die : Nat) : Nat := Store.get 24 c.wards die
def Capacity.tumCount (c : Capacity) (die ward : Nat) : Nat := Store.get 64 c.tumblers (wardKey die ward)
def Capacity.pageCount (c : Capacity) (stack : Nat) : Nat := Store.get 770048 c.pages stack
def Capacity.laneCount (c : Capacity) (link dir : Nat) : Nat := Store.get 16 c.lanes (2 * link + dir)

/-- Payload of a CAPACITY event: tumblers, wards, visible pages and link lanes (R353). Log: DESIGN CHOICE 27. -/
def Capacity.payload (c : Capacity) : List Byte :=
  leBytes 8 (((List.range 12).map fun d => ((List.range (c.wardCount d)).map fun w => c.tumCount d w).sum).sum)
    ++ leBytes 8 ((List.range 12).map fun d => c.wardCount d).sum
    ++ leBytes 8 ((List.range 12).map fun k => c.pageCount k).sum
    ++ leBytes 8 ((List.range 128).map fun l => c.laneCount (l / 2) (l % 2)).sum

/-- The capacity table: its sequence as a critical word, the ward count of each die and the tumbler count of each ward in a byte each, the
pages of each stack in 32 bits, the width of each link direction and the application cores in a byte each (R378).
Log: DESIGN CHOICE 27. -/
def Capacity.bytes (c : Capacity) : List Byte :=
  leBytes 8 (critWord c.seq).toNat
    ++ ((List.range 12).flatMap fun d => leBytes 1 (c.wardCount d))
    ++ ((List.range 288).flatMap fun k => leBytes 1 (c.tumCount (k / 24) (k % 24)))
    ++ ((List.range 12).flatMap fun k => leBytes 4 (c.pageCount k))
    ++ ((List.range 128).flatMap fun l => leBytes 1 (c.laneCount (l / 2) (l % 2)))
    ++ leBytes 1 c.cores

/-- The table is written to the keeper control block (R378). -/
def State.writeCapacity (s : State) : State := s.homeStore (baseChan 0) 0 0x2108000 s.faults.capacity.bytes

/-- Report a capacity (R378): the table with its next sequence, capacity_changed, a CAPACITY event and vector 68.
Log: DESIGN CHOICE 27. -/
def State.reportCapacity (s : State) (f : Capacity → Capacity) : State :=
  let c := f s.faults.capacity
  if c = s.faults.capacity then s
  else
    let c := { c with seq := c.seq + 1 }
    let s := { s with faults := { s.faults with capacity := c } }
    if !s.keeper.idore then s
    else
      let s := if s.keeper.shelfCleared then s.writeCapacity else s
      let s := (((s.statusBit stCapacity true).event .capacity 0 c.payload).vector 68).notice .capacity
      s.adjustReady

end Sys2Proof.Machine
end

