-- ==== Sys2Proof/Machine/LinkState.lean ====
section
/-! DEFINITION. Link states (R271) and the entry into DOWN (R266–R268), which every loss of a fiber, a site or a cartridge
shares. -/

namespace Sys2Proof.Machine

/-- Codes of Table 8.10, in its row order. -/
def LinkState.code : LinkState → Nat
  | .absent => 0 | .optical => 1 | .waiting => 2 | .active => 3 | .retrain => 4 | .down => 5

/-- Counters of Table 8.12 by their place in a link record (Table 10.9). -/
abbrev lnTx : Nat := 0
abbrev lnRx : Nat := 1
abbrev lnCrc : Nat := 2
abbrev lnMalformed : Nat := 3
abbrev lnNakTx : Nat := 4
abbrev lnNakRx : Nat := 5
abbrev lnReplay : Nat := 6
abbrev lnNakIgnored : Nat := 7
abbrev lnFull : Nat := 17
abbrev lnShort : Nat := 18
abbrev lnFail : Nat := 19
abbrev lnDown : Nat := 20
abbrev lnMoved : Nat := 21
abbrev lnHeld : Nat := 22
abbrev lnReleased : Nat := 23
abbrev lnRestart : Nat := 24
abbrev lnTag : Nat := 25
abbrev lnReject : Nat := 26

/-- Count an event of a link. -/
def State.countLink (s : State) (l k n : Nat) : State := s.count 2 l k n

/-- A link index from a number. -/
def asLink (l : Nat) : LinkIx := Fin.ofNat 64 l

/-- This module's ID; 0xFF until one is assigned (R259, R282). -/
def State.moduleId (s : State) : ModId := s.domain.id.getD 0xFF

/-- A state that the fabric manager is told of on entry and exit (Table 9.6). -/
def LinkState.noticed (st : LinkState) : Bool := st = .down || decide (st = .absent)

/-- Change a link's state: a LINK event, and a notice where the link enters or leaves DOWN or ABSENT (R353, Table 9.6). -/
def State.setLinkState (s : State) (l : Nat) (st : LinkState) : State :=
  let old := (s.link l).state
  if old = st then s
  else
    let s := (s.modLink l fun x => { x with state := st }).event .link l [BitVec.ofNat 8 st.code]
    if old.noticed || st.noticed then s.notice (.linkState (asLink l) st.code) else s

/-- Twins serve domains of 32 modules or fewer (R267). -/
def State.usableTwin (s : State) (l : Nat) : Option LinkIx :=
  match (s.link l).twin with
  | some t => if s.domain.size ≤ 32 ∧ (s.link t.val).state ≠ .down ∧ (s.link t.val).state ≠ .absent then some t else none
  | none => none

/-- A DOWN link without a usable twin holds its traffic; the fabric manager is told (R268). Log: DEDUCED 43. -/
def State.holdLink (s : State) (l : Nat) : State :=
  let x := s.link l
  if x.held then s
  else ((s.modLink l fun x => { x with held := true, heldAt := s.tel.timestamp }).countLink l lnHeld (x.replay.length + x.queue.length)).notice
    (.linkHeld (asLink l))

/-- A link enters DOWN (R266): its capacity is reported as no lanes (R2, R378), LINK_DOWN is raised; a usable twin is sent LINK_LOST, and
without one the traffic is held (R267, R268). -/
def State.linkDown (s : State) (l : Nat) : State :=
  if (s.link l).state = .down ∨ (s.link l).state = .absent then s
  else
    let s := ((s.setLinkState l .down).countLink l lnDown 1).modLink l fun x =>
      { x with failed := 0, lostSent := false, nakSent := false, openSent := none, train := none }
    let s := s.raise (asBase (engineBase (l / 8))) { cause := .linkDown, suspect := linkChan l, detail := BitVec.ofNat 64 LinkState.down.code }
    let s := s.reportCapacity fun c => { c with lanes := Store.put 16 (Store.put 16 c.lanes (2 * l) 0) (2 * l + 1) 0 }
    match s.usableTwin l with
    | some t => (s.modLink l fun x => { x with lostSent := true }).emit
        (.linkLost t (asLink l) s.keeper.bootCount (s.link l).e)
    | none => s.holdLink l

/-- Links of an engine. -/
def engineLinks (e : Nat) : List Nat := (List.range 8).map fun m => 8 * e + m

/-- Every link of an engine goes DOWN. -/
def State.engineDown (s : State) (e : Nat) : State := (engineLinks e).foldl State.linkDown s

end Sys2Proof.Machine
end

