-- ==== Sys2Proof/Machine/Lanes.lean ====
section
/-! DEFINITION. An engine's lanes, slots and rings by index (R202, R206, R218), shared by the ledger's replay and by
chapter 7. -/

namespace Sys2Proof.Machine

/-- Keys of lanes and rings (R206, R218). -/
def laneKey (fiber : Nat) (rx : Bool) (lane : Nat) : Nat := 32 * fiber + 16 * rx.toNat + lane
def ringKey (fiber slot : Nat) (drop : Bool) : Nat := 36 * fiber + 2 * slot + drop.toNat

/-- Slot that carries a logical lane; lane L rides slot L unless the map says otherwise (R218). -/
def Engine.slotOf (e : Engine) (fiber : Nat) (rx : Bool) (lane : Nat) : Nat :=
  (Store.get none e.lanes (laneKey fiber rx lane)).getD lane

/-- Logical transmit lane that a slot carries on a fiber, unless it is dropped. -/
def Engine.laneOn (e : Engine) (fiber slot : Nat) : Option Nat :=
  (List.range 16).find? fun i => e.slotOf fiber false i = slot && !e.dropped.contains (laneKey fiber false i)

/-- Put a lane on a slot. -/
def Engine.setSlot (e : Engine) (fiber : Nat) (rx : Bool) (lane slot : Nat) : Engine :=
  { e with lanes := Store.put none e.lanes (laneKey fiber rx lane) (if slot = lane then none else some slot) }

/-- Drop a lane: its ring is not driven, and parks (R208). -/
def Engine.dropLane (e : Engine) (fiber : Nat) (rx : Bool) (lane : Nat) : Engine :=
  if e.dropped.contains (laneKey fiber rx lane) then e
  else { e.modRing (ringKey fiber (e.slotOf fiber rx lane) rx) parkRing with dropped := e.dropped ++ [laneKey fiber rx lane] }

/-- Lanes of a fiber and direction that are not dropped, as a mask. -/
def Engine.laneMask (e : Engine) (fiber : Nat) (rx : Bool) : BitVec 16 :=
  BitVec.ofNat 16 (((List.range 16).filter fun i => !e.dropped.contains (laneKey fiber rx i)).map fun i => 2 ^ i).sum

/-- Data of a laser move's ledger entry: fiber mask, old slot, new slot (Table 12.7). -/
def moveData (fibers : List Nat) (old new : Nat) : W32 :=
  BitVec.ofNat 32 ((fibers.map fun f => 2 ^ f).sum % 512 + old * 512 + new * 16384)

/-- Drop the lanes that are due to be dropped at a fiber's next training (R231). Log: DEDUCED 145. -/
def Engine.dropsDue (e : Engine) (fiber : Nat) : Engine :=
  (List.range 16).foldl (fun x i => if e.dropDue.contains (laneKey fiber true i) then x.dropLane fiber true i else x)
    { e with dropDue := e.dropDue.filter fun k => k / 32 ≠ fiber }

/-- Replay a laser move: the fibers' lanes go from the old slot to the new, which the named tunable laser lights. -/
def Engine.replayMove (e : Engine) (laser spare : Nat) (data : W32) : Engine :=
  let old := field data 9 5
  let new := field data 14 5
  let e := (List.range 9).foldl (fun x f =>
    if data.getLsbD f then (match x.laneOn f old with | some i => x.setSlot f false i new | none => x) else x) e
  (e.modLaser laser fun l => { l with retired := true }).modLaser spare fun l => { l with slot := some new }

/-- The fiber that carries a link: its own, or F8 where F8 serves it (R234). -/
def Engine.fiberOf (e : Engine) (m : Nat) : Nat := if e.f8For = some m then 8 else m
def State.linkFiber (s : State) (l : Nat) : Nat := (s.engine (l / 8)).fiberOf (l % 8)

/-- The link that a fiber serves. -/
def State.fiberLink (s : State) (e f : Nat) : Option Nat :=
  if f < 8 then (if (s.engine e).f8For = some f then none else some (8 * e + f))
  else (s.engine e).f8For.map fun m => 8 * e + m

end Sys2Proof.Machine
end

