-- ==== Sys2Proof/Machine/Heaters.lean ====
section
/-! DEFINITION. The heaters of an engine's rings and the loops of its lasers: the two loops of a laser and its key tone (R203, R204),
windows and searches (R206–R211), bias tables by band (R213), and thermal feed-forward (R214–R216). Heater powers are in µW. -/

namespace Sys2Proof.Machine

/-- Counters of an engine's telemetry record (Table 10.9). -/
abbrev enSearch : Nat := 0
abbrev enWrong : Nat := 1
abbrev enRelease : Nat := 2
abbrev enSegment : Nat := 3
abbrev enOffered : Nat := 4
abbrev enAccepted : Nat := 5
abbrev enRejected : Nat := 6
abbrev enCorrected : Nat := 7
abbrev enUncorrectable : Nat := 8

/-- Count an event of an engine. -/
def State.countEngine (s : State) (e k : Nat) : State := s.count 5 e k 1

/-- Indices of fibers, slots and engines for emissions. -/
def asEngine (e : Nat) : EngineIx := Fin.ofNat 8 e
def asFiber (f : Nat) : FiberIx := Fin.ofNat 9 f

/-! ### Lasers -/

/-- Frequency of a slot in GHz (R201). -/
def slotFrequency (slot : Nat) : Nat := 229800 - 200 * slot

/-- Key tone of a slot in Hz: 10 kHz + 1 kHz × slot (R204). -/
def keyTone (slot : Nat) : Nat := 10000 + 1000 * slot

/-- The lit laser that feeds a slot: the fixed laser of that number, or a tunable one tuned to it (R202). -/
def Engine.laserOn (e : Engine) (slot : Nat) : Option Nat :=
  (List.range 18).find? fun k => (e.laser k).lit && decide ((if k < 16 then some k else (e.laser k).slot) = some slot)

/-- Slot that a laser lights. -/
def Engine.laserSlot (e : Engine) (k : Nat) : Option Nat := if k < 16 then some k else (e.laser k).slot

/-- The tone that a laser carries: that of its slot, while it is lit (R204). -/
def Engine.laserTone (e : Engine) (k : Nat) : Option Nat := if (e.laser k).lit then (e.laserSlot k).map keyTone else none

/-- Output of a laser in 0.1 dBm: its loop holds it at the calibrated set point (R203). -/
def State.laserOutput (s : State) (e k : Nat) : Option Nat :=
  if ((s.engine e).laser k).lit then some (Config.laserSetPoint (s.cart (e / 4)).serial e k) else none

/-- The loops of a lit laser settle: the bias that the output loop needs, and a frequency within 10 GHz of the slot (R201, R203), are free
values. Log: DESIGN CHOICE 174. -/
def State.settleLaser (s : State) (e k : Nat) : State :=
  if ((s.engine e).laser k).lit then
    (s.modEngine e fun x => x.modLaser k fun l => { l with bias := BitVec.ofNat 64 (field s.fresh 0 16)
                                                           freqErr := Int.ofNat (field s.fresh 16 16 % 21) - 10 }).spend
  else s

/-- Light a laser, a tunable one on its slot; its loops settle. -/
def State.light (s : State) (e k : Nat) (slot : Option Nat) : State :=
  (s.modEngine e fun x => x.modLaser k fun l => { l with lit := true, slot := if k < 16 then l.slot else slot }).settleLaser e k

/-- Every loop of an engine's lasers has moved on since the last interval. -/
def State.settleLasers (s : State) (e : Nat) : State := (List.range 18).foldl (fun t k => t.settleLaser e k) s

/-- A slot of an engine is lit by its own laser; an engine that its cartridge does not feed has light of its own (Table 6.11).
Log: DEDUCED 44. -/
def State.slotLit (s : State) (e slot : Nat) : Bool := ((s.engine e).laserOn slot).isSome || !(s.site e).laserExternal

/-! ### Bias tables, segments and windows -/

/-- Band of a part. Log: DEDUCED 131. -/
def State.bandOfPart (s : State) (part : Nat) : Nat := Store.get 0 s.thermal.band part

/-- A ring's calibration word, which holds its bias tables (R213). -/
def State.ringWord (s : State) (e f slot : Nat) (drop : Bool) : W64 := s.cal.wordAt (calKey .ringCal (ringIndex e f slot drop))

/-- Heater power that a ring's slot is expected to need, by the bias table of the engine's present band and its modelled temperature
(R209, R213). -/
def State.expectedHeater (s : State) (e f slot : Nat) (drop : Bool) : Nat :=
  Config.ringExpected (s.ringWord e f slot drop) (s.bandOfPart (30 + e)) (Store.get 0 s.thermal.hotspot (30 + e))

/-- 0.08 THz-equivalent in µW for a segment of the given efficiency, in 2^-16 THz per mW (R209). -/
def halfWindow (eff : Int) : Nat := 80 * 65536 / eff.toNat

/-- A ring's heater window with its segment in use (R209). -/
def State.heaterWindow (s : State) (e f slot : Nat) (drop : Bool) : Nat × Nat :=
  let seg := ((s.engine e).ring (ringKey f slot drop)).segment
  let half := halfWindow (calValue (s.cal.wordAt (calKey .heaterEff (4 * ringIndex e f slot drop + seg))))
  let mid := s.expectedHeater e f slot drop
  (mid - half, mid + half)

/-- Power of a ring's present loop: a parked ring is held at its calibrated park point, and one without a working segment is unheated
(R208, R212). -/
def State.loopOutput (s : State) (e f slot : Nat) (drop : Bool) : Nat :=
  let r := (s.engine e).ring (ringKey f slot drop)
  if 3 ≤ r.badSegments.length then 0
  else if r.state = .parked ∨ r.state = .permanent then Config.ringPark (s.ringWord e f slot drop) else r.heater

/-- The segment that calibration selects among a ring's good ones (R206, R418). -/
def State.chosenSegment (s : State) (e f slot : Nat) (drop : Bool) : Option Nat :=
  let bad := ((s.engine e).ring (ringKey f slot drop)).badSegments
  bestBy (s.cal.segmentError (ringIndex e f slot drop)) ([0, 1, 2].filter fun i => !bad.contains i)

/-! ### Searching, locking and parking -/

/-- No link of the engine has opened since its start: a search sweeps (R209). -/
def State.starting (s : State) (e : Nat) : Bool :=
  (engineLinks e).all fun l => (s.link l).state = .absent || (s.link l).state = .optical || decide ((s.link l).state = .waiting)

/-- Begin a ring's search: at start a sweep upward from 0, and in service from the low edge of its window (R209). -/
def State.search (s : State) (e f slot : Nat) (drop : Bool) : State :=
  let k := ringKey f slot drop
  if ((s.engine e).ring k).state = .permanent then s
  else
    let st : RingState := if s.starting e then .sweeping else .searching
    let at_ := if s.starting e then 0 else (s.heaterWindow e f slot drop).1
    (s.modEngine e fun x => x.modRing k fun r => { r with state := st, driving := false, failures := 0, heater := at_ }).countEngine e enSearch

/-- A ring's loop holds it on its slot, at a power within its window that the spec does not state; the lane that it carries is ready.
Log: DEDUCED 183; DESIGN CHOICE 174. -/
def State.holdRing (s : State) (e f slot : Nat) (drop : Bool) : State :=
  let w := s.heaterWindow e f slot drop
  (s.modEngine e fun x =>
    { x.modRing (ringKey f slot drop) fun r =>
        { r with state := .locked, driving := !drop, failures := 0, heater := w.1 + s.fresh.toNat % (w.2 - w.1 + 1) } with
      notReady := x.notReady.filter fun k => !(k / 32 = f && !drop && decide (x.slotOf f false (k % 16) = slot)) }).spend

/-- Lock a modulator or drop ring by in-service search and drive it (Table 7.5), unless it is permanent; a modulator ring whose laser is
dark goes on searching (R210). Log: DEDUCED 183. -/
def State.lockRing (s : State) (e f slot : Nat) (drop : Bool) : State :=
  if ((s.engine e).ring (ringKey f slot drop)).state = .permanent then s
  else
    let t := s.search e f slot drop
    if drop || t.slotLit e slot then t.holdRing e f slot drop else t

/-- Park a ring (R208). -/
def State.park (s : State) (e f slot : Nat) (drop : Bool) : State :=
  s.modEngine e fun x => x.modRing (ringKey f slot drop) parkRing

/-- The lane that a ring carries, in use. -/
def Engine.ringLane (x : Engine) (f slot : Nat) (drop : Bool) : Option Nat :=
  (List.range 16).find? fun i => x.slotOf f drop i = slot && !x.dropped.contains (laneKey f drop i)

/-- Conditions 1 and 2 of R210, in 0.1 dB; an engine without key tones takes a receive training pattern for them (Table 6.11). -/
def State.toneGood (s : State) (e : Nat) (t : ToneReading) : Bool :=
  if (s.site e).keyTone then 60 ≤ t.overOthers && decide (100 ≤ t.overNoise) else t.pattern

/-! ### Thermal feed-forward -/

/-- Time constants that a bias table may give, in µs (R215). -/
def clipConstant (n : Nat) : Nat := max 5 (min 200 n)

/-- One step of the first-order filter of time constant `tau` µs, at the 1 µs of the words (R214, R215): the published power in 0.1 W,
the filtered one with 16 fraction bits. Log: DESIGN CHOICE 174. -/
def filterStep (y tau power : Nat) : Nat := (y * tau + power * 65536) / (tau + 1)

/-- A good word steps the filter of every time constant. -/
def Feed.step (f : Feed) (power : Nat) : Feed :=
  { f with power, filtered := f.filtered.zipIdx.map fun p => filterStep p.1 (p.2 + 5) power }

/-- y(d) of a die for a ring's time constant (R215). -/
def Feed.value (f : Feed) (tau : Nat) : Nat := f.filtered.getD (clipConstant tau - 5) 0

/-- What a ring subtracts for one of its engine's dies: a(r,d) × y(d) in µW (R215), with a in 2^-16 µW per W, no more than 4. -/
def State.feedTerm (s : State) (e f slot : Nat) (drop second : Bool) : Nat :=
  let w := s.ringWord e f slot drop
  let band := s.bandOfPart (30 + e)
  let die := 2 * engineBase e + second.toNat
  let a := min (4 * 65536) (Config.ringCoefficient w band second)
  a * (Store.get Feed.reset (s.engine e).feeds die).value (Config.ringConstant w band second) / (2 ^ 32 * 10)

/-- A ring's heater command: the loop output less the terms of its two dies (R215). -/
def State.heaterCommand (s : State) (e f slot : Nat) (drop : Bool) : Int :=
  Int.ofNat (s.loopOutput e f slot drop) - Int.ofNat (s.feedTerm e f slot drop false + s.feedTerm e f slot drop true)

end Sys2Proof.Machine
end

