-- ==== Sys2Proof/Machine/LaneCode.lean ====
section
/-! DEFINITION. The coding of an optical lane (R217): the self-synchronous scrambler, the Reed–Solomon code RS(272,257) over GF(2^10) with
its decoder, Gray-coded PAM4, and codeword alignment. The manual names the code and gives neither the field's polynomial nor the
generator's roots; they are those of the IEEE 802.3 codes over this field. -/

namespace Sys2Proof.Machine

/-! ### GF(2^10) -/

/-- A symbol. -/
abbrev Sym := BitVec 10

/-- Times x, modulo x^10 + x^3 + 1. Log: PRESUMED 175. -/
def symDouble (a : Sym) : Sym := (a <<< 1) ^^^ (if a.getLsbD 9 then 9 else 0)

/-- The product. -/
def symMul (a b : Sym) : Sym :=
  (List.range 10).foldl (fun acc i => symDouble acc ^^^ (if b.getLsbD (9 - i) then a else 0)) 0

/-- A power. -/
def symPow (a : Sym) : Nat → Sym
  | 0 => 1
  | n + 1 => symMul (symPow a n) a

/-- The inverse of a symbol that is not 0: a^1022, by squaring. -/
def symInv (a : Sym) : Sym :=
  let r := (List.range 9).foldl (fun (p : Sym × Sym) _ => let q := symMul p.1 p.1; (q, symMul p.2 q)) (a, 1)
  r.2

/-- Powers of the primitive element x: x^0 to x^(n − 1). -/
def alphaPowers : Nat → Sym → List Sym
  | 0, _ => []
  | n + 1, a => a :: alphaPowers n (symDouble a)

/-- A polynomial's value, its highest coefficient first. -/
def symEval (p : List Sym) (x : Sym) : Sym := p.foldl (fun acc c => symMul acc x ^^^ c) 0

/-! ### The code -/

/-- Symbols of a codeword and of its message. -/
abbrev codeLen : Nat := 272
abbrev codeData : Nat := 257

/-- The generator, highest coefficient first: the product of (X − x^i), i = 0 to 14. Log: PRESUMED 175. -/
def codeGen : List Sym :=
  (alphaPowers 15 1).foldl (fun g a => List.zipWith (fun u v => u ^^^ symMul a v) (g ++ [0]) (0 :: g)) [1]

/-- The systematic codeword of a message: its symbols in order, then the remainder of the message by the generator. -/
def rsEncode (message : List Sym) : List Sym :=
  message ++ message.foldl (fun reg m =>
    let fb := m ^^^ reg.headD 0
    List.zipWith (fun r g => r ^^^ symMul fb g) (reg.drop 1 ++ [0]) (codeGen.drop 1)) (List.replicate 15 0)

/-- The fifteen syndromes of a received word. -/
def syndromes (word : List Sym) : List Sym := (alphaPowers 15 1).map fun a => symEval word a

/-- The locator search's state: the locator and the previous one, lowest coefficient first, the length, the shift and the last
discrepancy. -/
structure Locator where
  cur : List Sym
  old : List Sym
  len : Nat
  shift : Nat
  last : Sym
deriving DecidableEq, Repr

/-- `p + c · X^k · q`, lowest coefficient first. -/
def polyAdd (p : List Sym) (c : Sym) (k : Nat) (q : List Sym) : List Sym :=
  let t := List.replicate k 0 ++ q.map (symMul c)
  (List.range (max p.length t.length)).map fun i => p.getD i 0 ^^^ t.getD i 0

/-- One step of the Berlekamp–Massey search. -/
def Locator.step (syn : List Sym) (l : Locator) (n : Nat) : Locator :=
  let d := ((List.range (l.len + 1)).map fun i => symMul (l.cur.getD i 0) (if i ≤ n then syn.getD (n - i) 0 else 0)).foldl (· ^^^ ·) 0
  if d = 0 then { l with shift := l.shift + 1 }
  else
    let next := polyAdd l.cur (symMul d (symInv l.last)) l.shift l.old
    if 2 * l.len ≤ n then { cur := next, old := l.cur, len := n + 1 - l.len, shift := 1, last := d }
    else { l with cur := next, shift := l.shift + 1 }

/-- The error locator of a word's syndromes. -/
def locate (syn : List Sym) : Locator :=
  (List.range 15).foldl (Locator.step syn) { cur := [1], old := [1], len := 0, shift := 1, last := 1 }

/-- Errors of a word by their place: the roots of the locator, with the value that Forney's rule gives at each. -/
def errorsOf (syn : List Sym) (l : Locator) : List (Nat × Sym) :=
  let omega := (List.range 15).map fun i =>
    ((List.range (i + 1)).map fun j => symMul (l.cur.getD j 0) (syn.getD (i - j) 0)).foldl (· ^^^ ·) 0
  let slope := (List.range l.cur.length).map fun i => if i % 2 = 0 then l.cur.getD (i + 1) 0 else 0
  ((alphaPowers codeLen 1).zipIdx.filterMap fun p =>
    let x := symInv p.1
    if symEval l.cur.reverse x = 0 then
      some (codeLen - 1 - p.2, symMul p.1 (symMul (symEval omega.reverse x) (symInv (symEval slope.reverse x))))
    else none)

/-- A received word's message with the number of symbols corrected, at most 7; none where the codeword is uncorrectable (R217). -/
def rsDecode (word : List Sym) : Option (List Sym × Nat) :=
  let syn := syndromes word
  if word.length ≠ codeLen then none
  else if syn.all fun s => s = 0 then some (word.take codeData, 0)
  else
    let l := locate syn
    let errs := errorsOf syn l
    let fixed := word.zipIdx.map fun p => match errs.find? fun e => e.1 = p.2 with | some e => p.1 ^^^ e.2 | none => p.1
    if 7 < errs.length || !((syndromes fixed).all fun s => s = 0) then none else some (fixed.take codeData, errs.length)

/-! ### The scrambler -/

/-- One bit through the scrambler x^58 + x^39 + 1, whose register holds the last 58 bits sent, the latest at bit 0. -/
def scrambleBit (reg : BitVec 58) (d : Bool) : Bool × BitVec 58 :=
  let o := d ^^ (reg.getLsbD 38 ^^ reg.getLsbD 57)
  (o, (reg <<< 1) ||| (if o then 1 else 0))

/-- One bit through the descrambler, whose register holds the last 58 bits received. -/
def descrambleBit (reg : BitVec 58) (r : Bool) : Bool × BitVec 58 :=
  (r ^^ (reg.getLsbD 38 ^^ reg.getLsbD 57), (reg <<< 1) ||| (if r then 1 else 0))

/-- Scramble bits in order. -/
def scramble (reg : BitVec 58) : List Bool → List Bool × BitVec 58
  | [] => ([], reg)
  | d :: ds =>
    let r := scrambleBit reg d
    let q := scramble r.2 ds
    (r.1 :: q.1, q.2)

/-- Descramble bits in order. -/
def descramble (reg : BitVec 58) : List Bool → List Bool × BitVec 58
  | [] => ([], reg)
  | d :: ds =>
    let r := descrambleBit reg d
    let q := descramble r.2 ds
    (r.1 :: q.1, q.2)

/-! ### Symbols on the fiber -/

/-- Bits as symbols of ten, the first bit lowest. Log: PRESUMED 175. -/
def symsOf : Nat → List Bool → List Sym
  | 0, _ => []
  | n + 1, bs => ((bs.take 10).zipIdx.foldl (fun (s : Sym) p => if p.1 then s ||| (1 <<< p.2) else s) 0) :: symsOf n (bs.drop 10)

/-- Symbols as bits. -/
def symBits (ss : List Sym) : List Bool := (ss.map fun s => (List.range 10).map fun i => s.getLsbD i).flatten

/-- The Gray-coded PAM4 level of two bits, the first the more significant. Log: PRESUMED 175. -/
def grayLevel (a b : Bool) : Fin 4 :=
  match a, b with
  | false, false => 0 | false, true => 1 | true, true => 2 | true, false => 3

/-- PAM4 levels of bits. -/
def levels : List Bool → List (Fin 4)
  | a :: b :: bs => grayLevel a b :: levels bs
  | _ => []

/-- What a lane sends for the 2,570 message bits of a codeword: the bits scrambled, encoded, and sent as PAM4 (R217). -/
def laneSend (reg : BitVec 58) (message : List Bool) : List (Fin 4) × BitVec 58 :=
  let r := scramble reg message
  (levels (symBits (rsEncode (symsOf codeData r.1))), r.2)

/-- Message bits of a received codeword, or none where it is uncorrectable. -/
def laneTake (reg : BitVec 58) (word : List Sym) : Option (List Bool) :=
  (rsDecode word).map fun m => (descramble reg (symBits m.1)).1

/-- Consecutive codewords that decode, at most the 8 after which a receiver is aligned (R217). -/
def alignCount (n : Nat) (word : List Sym) : Nat := if (rsDecode word).isSome then min 8 (n + 1) else 0

/-- A receiver is aligned after 8 consecutive codewords decode (R217). -/
def aligned (words : List (List Sym)) : Bool :=
  (words.foldl (fun (p : Nat × Bool) w => let n := alignCount p.1 w; (n, p.2 || decide (8 ≤ n))) (0, false)).2

/-! ### Comparing two slots (R226) -/

/-- The codewords of two slots are identical wherever both decode. -/
def sameCodewords (pairs : List (List Sym × List Sym)) : Bool :=
  pairs.all fun p => match rsDecode p.1, rsDecode p.2 with
    | some a, some b => decide (a.1 = b.1)
    | _, _ => true

/-- Uncorrectable codewords, and symbols corrected, of a run of them. -/
def uncorrectables (words : List (List Sym)) : Nat := (words.filter fun w => (rsDecode w).isNone).length
def correctedSymbols (words : List (List Sym)) : Nat := (words.map fun w => match rsDecode w with | some m => m.2 | none => 0).sum

end Sys2Proof.Machine
end

