-- ==== Sys2Proof/Machine/Sparing.lean ====
section
/-! DEFINITION. Padlocking and sparing (R376–R380): capacity reports, ledger entries, and how a channel that is declared
permanent is replaced, repaired, withdrawn or left padlocked. -/

namespace Sys2Proof.Machine

/-! ### The spare ledger -/

/-- Actions of a ledger entry (Table 12.7). -/
abbrev laPadlock : BitVec 4 := 1
abbrev laReplace : BitVec 4 := 2
abbrev laWithdraw : BitVec 4 := 3
abbrev laClose : BitVec 4 := 4

/-- An entry's 32 bytes: four critical values (Table 12.7). -/
def LedgerEntry.bytes (e : LedgerEntry) : List Byte :=
  leBytes 8 (critWord (e.action ++ e.seq)).toNat ++ leBytes 8 (critWord e.chan).toNat
    ++ leBytes 8 (critWord e.spare).toNat ++ leBytes 8 (critWord e.data).toNat

/-- Write an entry to the mirror of the complex that owns the channel (R377 step 3); the keeper is to commit it.
Log: DESIGN CHOICE 26. -/
def State.ledgerWrite (s : State) (action : BitVec 4) (chan spare : Chan) (data : W32) : State :=
  let e : LedgerEntry := { action, seq := s.faults.nextEntry, chan, spare, data }
  let s := { s with faults := { s.faults with
    ledger := s.faults.ledger ++ [e], uncommitted := s.faults.uncommitted ++ [e], nextEntry := s.faults.nextEntry + 1 } }
  if s.keeper.shelfCleared then s.homeStore (baseChan (chanOwner chan)) (chanOwner chan) (0x2000000 + 32 * (e.seq.toNat % 32768)) e.bytes else s

/-- Direction of an edge's lane, group or clock pair. -/
def chanDir (c : Chan) : Dir := if chanBits c 20 1 = 0 then .up else .down

/-- The parent that is padlocked in a channel's place when the ledger is full (R380): a ward for a tumbler, a group for a
lane, a stack for a page, row or data lane. -/
def parentChan (c : Chan) : Option Chan :=
  match chanKind c with
  | 0x01 => some (wardChan (chanBits c 20 4) (chanBits c 15 5))
  | 0x10 => if chanBits c 12 8 < 128 then some (groupChan (chanBits c 21 3) (chanDir c) (chanBits c 12 8 / 16)) else none
  | 0x18 | 0x19 | 0x1A => some (stackChan (chanBits c 20 4))
  | _ => none

/-- Replay a ledger entry of a laser or of a lane (R218): a laser is retired, and its lanes have moved where another took its place; a lane
rides its substitute, or is dropped. -/
def Engine.replayEntry (x : Engine) (n : LedgerEntry) : Engine :=
  let c := n.chan
  let key := 32 * chanBits c 17 4 + 16 * chanBits c 12 1 + chanBits c 13 4
  match chanKind c with
  | 0x20 =>
    if n.action = laReplace then x.replayMove (chanBits c 16 5) (chanBits n.spare 16 5) n.data
    else x.modLaser (chanBits c 16 5) fun l => { l with retired := true }
  | 0x24 =>
    if n.action = laReplace then { x with lanes := Store.put none x.lanes key (some (n.data.toNat % 32)) }
    else { x with dropped := x.dropped ++ [key] }
  | _ => x

/-- Entries that are open, oldest first (R379, R380): not named by a CLOSE entry, not followed by a REPLACE entry for the
same channel, and not closed by an entry for the channel's parent. A row's channel names its bank, so a bank's rows are told apart by
their data (R152). -/
def openEntries : List LedgerEntry → List LedgerEntry
  | [] => []
  | e :: rest =>
    let closed := rest.any fun x => (x.action = laClose && x.data = BitVec.ofNat 32 e.seq.toNat)
      || (x.action = laReplace && x.chan = e.chan && (chanKind e.chan ≠ 0x19 || x.data = e.data)) || (x.action = laPadlock && decide (some x.chan = parentChan e.chan))
    if e.action = laClose || closed then openEntries rest else e :: openEntries rest

/-- Padlock a channel (R377 step 1). -/
def State.padlock (s : State) (c : Chan) : State :=
  if s.faults.padlocked.contains c then s
  else { s with faults := { s.faults with padlocked := s.faults.padlocked ++ [c] } }

/-- The channel that a spare in use replaces: the latest REPLACE entry that names it. -/
def State.origin (s : State) (c : Chan) : Chan :=
  match s.faults.ledger.reverse.find? fun e => e.action = laReplace && decide (e.spare = c) with
  | some e => e.chan
  | none => c

/-- A spare in use that is itself declared permanent has its PADLOCK entry first (R379). -/
def State.padlockSpare (s : State) (c : Chan) : State :=
  if s.origin c = c then s else s.ledgerWrite laPadlock c noChan 0

/-! ### Outcomes -/

/-- The outcome of sparing a channel, on its record: action, spare, and DEGRADED or FATAL where it costs that. -/
def markRecord (action : FaultAction) (spare : Chan) (cls : FaultClass) (r : FaultRecord) : FaultRecord :=
  { r with action, spare, cls := maxClass r.cls cls }

/-- A spare has come into use. -/
def State.replaced (s : State) (c : Chan) (cause : Cause) (spare : Chan) : State :=
  s.onRecord c cause (markRecord .replaced spare 1)

/-- No spare remains: PADLOCK entry, class DEGRADED. -/
def State.leftPadlocked (s : State) (c : Chan) (cause : Cause) : State :=
  (s.ledgerWrite laPadlock c noChan 0).onRecord c cause (markRecord .padlocked noChan 2)

/-- Padlocked with capacity to spare: PADLOCK entry, class unchanged. -/
def State.onlyPadlocked (s : State) (c : Chan) (cause : Cause) : State :=
  (s.ledgerWrite laPadlock c noChan 0).onRecord c cause (markRecord .padlocked noChan 1)

/-- Withdrawn: WITHDRAW entry, class DEGRADED. -/
def State.withdrawnChan (s : State) (c : Chan) (cause : Cause) : State :=
  (s.ledgerWrite laWithdraw c noChan 0).onRecord c cause (markRecord .withdrawn noChan 2)

/-! ### Tumblers and wards -/

/-- No operator is resident on a logical ward. -/
def State.wardIdle (s : State) (die ward : Nat) : Bool := (s.wardTums die ward).all fun t => t.resident.isNone

/-- The lowest-numbered spare tumbler of a physical ward that is neither in use nor padlocked (R48). -/
def State.freeSpareTum (s : State) (die pward : Nat) : Option Nat :=
  [64, 65, 66, 67].find? fun p =>
    !s.faults.padlocked.contains (tumblerChan die pward p) && (s.logTum die pward p).isNone

/-- The spare ward of a compute die is good and unused (R49). -/
def State.spareWardFree (s : State) (die : Nat) : Bool :=
  !s.faults.padlocked.contains (wardChan die 24) && (s.logWard die 24).isNone
    && !s.faults.padlocked.contains (dieChan die)

/-- Start tokens of a ward wait for an insertion, or no longer (R47). -/
def State.setInserting (s : State) (die ward : Nat) (b : Bool) : State :=
  s.modWard (wardKey die ward) fun w => { w with inserting := b }

/-- Every logical tumbler of a logical ward, for `moveSilicon`. -/
def wardSlots (lward : Nat) : List (Nat × Nat) := (List.range 64).map fun i => (lward, i)

/-- A spare's self-test is under way (Table 2.4). -/
def State.awaitSpare (s : State) (spare replaced : Chan) : State :=
  { s with faults := { s.faults with spareTests := s.faults.spareTests ++ [(spare, replaced)] } }

/-- Table 2.4 from the ledger write on: the entry, the remap entry, a cleared spare that awaits its self-test. -/
def State.insertTum (s : State) (die pward lward ltum : Nat) (c : Chan) (cause : Cause) (spare : Nat) : State :=
  let sc := tumblerChan die pward spare
  let s := (s.padlockSpare c).ledgerWrite laReplace (s.origin c) sc 0
  let s := (s.setTumRemap die pward ltum true spare).moveSilicon s die [(lward, ltum)]
  let s := (s.modTumbler (tumKey die lward ltum) fun t => { t with sram := [], regs := [] }).setInserting die lward true
  (s.awaitSpare sc c).replaced c cause sc

/-- A ward's own tumbler remap table as the open entries of the ledger give it (R46, R49): the identity, and a spare for each tumbler
that one replaces. -/
def State.loadTumRemap (s : State) (open_ : List LedgerEntry) (die pward : Nat) : State :=
  (List.range 64).foldl (fun t i =>
    t.setTumRemap die pward i true (match open_.find? fun e => e.action = laReplace && decide (e.chan = tumblerChan die pward i) with
      | some e => chanBits e.spare 8 7
      | none => i)) s

/-- Table 2.4 for a whole ward (R49): the ward remap entry is written, the spare ward's own tumbler remap table is loaded from the
ledger, its tumblers start clear, and the failed ward's remaining good tumblers are padlocked with it. -/
def State.insertWard (s : State) (die pward lward : Nat) (c : Chan) (cause : Cause) : State :=
  let sc := wardChan die 24
  let s := (s.padlock (wardChan die pward)).ledgerWrite laReplace (wardChan die pward) sc 0
  let s := ((s.loadTumRemap (openEntries s.faults.ledger) die 24).setWardRemap die lward true 24).moveSilicon s die (wardSlots lward)
  let s := (s.modWardTums die lward fun t => { t with sram := [], regs := [] }).setInserting die lward true
  (s.awaitSpare sc c).replaced c cause sc

/-- Good physical tumblers of a physical ward, in order (R50). -/
def State.goodTums (s : State) (die pward : Nat) : List Nat :=
  (List.range 68).filter fun p => !s.isPadlocked (tumblerChan die pward p)

/-- Operators whose start tokens wait at logical tumblers from `n` on of a ward. -/
def State.startsFrom (s : State) (die lward n : Nat) : List (CtxId × Gen × W32) :=
  ((((s.wardTums die lward).drop n).map fun t => t.startq.map fun k => (k.ctx, k.gen, k.opSerial)).flatten).eraseDups

/-- Re-pack the logical tumblers of a ward over its good tumblers in physical order (R50). An operator that has a start token at a
tumbler withdrawn fails with 0x42, and runs on no fewer (R23). Log: DEDUCED 134. -/
def State.repackTums (s : State) (die pward lward : Nat) : State :=
  let good := s.goodTums die pward
  let s := s.failAll die lward (s.startsFrom die lward good.length) 0x42
  let r := (List.range 64).foldl (fun t i =>
    match good[i]? with
    | some p => t.setTumRemap die pward i true p
    | none => t.setTumRemap die pward i false 0) s
  let s := r.moveSilicon s die (wardSlots lward)
  s.reportCapacity fun c => { c with tumblers := Store.put 64 c.tumblers (wardKey die lward) (min 64 good.length) }

/-- Good physical wards of a compute die, in order. -/
def State.goodWards (s : State) (die : Nat) : List Nat :=
  (List.range 25).filter fun p => !s.faults.padlocked.contains (wardChan die p)

/-- Re-pack the logical wards of a die over its good wards in physical order (R50); each keeps its own tumbler remap table and count.
An operator that waits at a ward withdrawn fails with 0x42 (R23). Log: DEDUCED 134. -/
def State.repackWards (s : State) (die : Nat) : State :=
  let good := s.goodWards die
  let counts := good.map fun p => match s.logWard die p with | some l => s.faults.capacity.tumCount die l | none => 64
  let s := ((List.range 24).drop good.length).foldl (fun t l => t.failAll die l (t.startsFrom die l 0) 0x42) s
  let r := (List.range 24).foldl (fun t l =>
    match good[l]? with
    | some p => t.setWardRemap die l true p
    | none => t.setWardRemap die l false 0) s
  let s := r.moveSilicon s die ((List.range 24).map wardSlots).flatten
  s.reportCapacity fun c =>
    { c with
      wards := Store.put 24 c.wards die (min 24 good.length)
      tumblers := (List.range 24).foldl (fun m l => Store.put 64 m (wardKey die l) (counts.getD l 64)) c.tumblers }

/-- Logical wards of a die whose index a re-packing changes. -/
def State.movedWards (s : State) (die : Nat) : List Nat :=
  (List.range 24).filter fun l => (s.goodWards die)[l]? ≠ s.physWard die l

/-- Bring in what replaces a tumbler (R48, R49, R50), once its ward has drained; answers whether it could. -/
def State.insertForTum (s : State) (c : Chan) (cause : Cause) : State × Bool :=
  let die := chanBits c 20 4
  let pw := chanBits c 15 5
  let pt := chanBits c 8 7
  match s.logWard die pw, s.logTum die pw pt with
  | some lw, some lt =>
    if !s.wardIdle die lw then (s, false)
    else
      match s.freeSpareTum die pw with
      | some sp => (s.insertTum die pw lw lt c cause sp, true)
      | none =>
        if s.spareWardFree die then ((s.padlockSpare c).insertWard die pw lw c cause, true)
        else if 0 < (s.goodTums die pw).length then
          (((s.leftPadlocked c cause).repackTums die pw lw).setInserting die lw false, true)
        else
          let s := (s.leftPadlocked c cause).padlock (wardChan die pw)
          ({ s with faults := { s.faults with insertions := s.faults.insertions ++ [(wardChan die pw, cause)] } }, true)
  | _, _ => (s.onlyPadlocked c cause, true)

/-- Bring in what replaces a ward (R49, R50). -/
def State.insertForWard (s : State) (c : Chan) (cause : Cause) : State × Bool :=
  let die := chanBits c 20 4
  let pw := chanBits c 15 5
  match s.logWard die pw with
  | some lw =>
    if !s.wardIdle die lw then (s, false)
    else if s.spareWardFree die then (s.insertWard die pw lw c cause, true)
    else if (s.movedWards die).all fun l => s.wardIdle die l then
      let moved := s.movedWards die
      let s := ((s.padlockSpare c).leftPadlocked c cause).repackWards die
      (moved.foldl (fun t l => t.setInserting die l false) s, true)
    else ((s.movedWards die).foldl (fun t l => t.setInserting die l true) s, false)
  | none => (s.onlyPadlocked c cause, true)

/-- Carry out the insertions whose wards have drained, in order. -/
def State.settleInsertions (s : State) : State :=
  s.faults.insertions.foldl (fun t p =>
    let r := if chanKind p.1 = 1 then t.insertForTum p.1 p.2 else t.insertForWard p.1 p.2
    if r.2 then { r.1 with faults := { r.1.faults with insertions := r.1.faults.insertions.erase p } } else r.1) s

/-- The tokens that a ward declared permanent owes, sent in its place at once (R480). -/
def State.substitutes (s : State) (die lward : Nat) : State :=
  let ops := s.wardOps die lward ++ (s.wardStarts die lward).filter fun o => !(s.wardOps die lward).contains o
  let s := s.failAll die lward ops 0x81
  let s := (List.finRange 1024).foldl (fun t c =>
    match (t.context c.val).teardown with
    | some td =>
      if td.changed then
        t.sendTokens ((td.named.filter fun d => !t.ops.drained.contains (d.val, c, wardKey die lward)).map fun d =>
          .token (controlToken c (t.context c.val).gen (wardEnd die lward) (agentEnd d agDispatcher)
            (controlWord ccDrained 0 0 0)))
      else t
    | none => t) s
  let due := (s.ward (wardKey die lward)).owed
  let s := s.sendTokens (due.map fun o => completionToken o.1 o.2.1 die lward o.2.2.1 o.2.2.2)
  s.modWard (wardKey die lward) fun w => { w with draining := [], owed := [] }

/-- A tumbler is declared permanent (R47, Table 2.4). -/
def State.loseTumbler (s : State) (c : Chan) (cause : Cause) : State :=
  let die := chanBits c 20 4
  let s := s.padlock c
  let s := match s.logWard die (chanBits c 15 5), s.logTum die (chanBits c 15 5) (chanBits c 8 7) with
    | some lw, some _ =>
      let ops := s.wardOps die lw
      let s := if ops.isEmpty then s else s.onRecord c cause fun r =>
        { r with cls := maxClass r.cls 3, opStatus := 0x80, ops := r.ops ++ ops.map fun (o : CtxId × Gen × W32) => o.2.2 }
      (s.failAll die lw ops 0x80).setInserting die lw true
    | _, _ => s
  { s with faults := { s.faults with insertions := s.faults.insertions ++ [(c, cause)] } }.settleInsertions

/-- A ward is declared permanent (R49, R374, R480). -/
def State.loseWard (s : State) (c : Chan) (cause : Cause) : State :=
  let die := chanBits c 20 4
  let s := s.padlock c
  let s := match s.logWard die (chanBits c 15 5) with
    | some lw =>
      let ops := s.wardOps die lw ++ s.wardStarts die lw
      let s := if ops.isEmpty then s else s.onRecord c cause fun r =>
        { r with cls := maxClass r.cls 3, opStatus := 0x81, ops := r.ops ++ ops.map fun (o : CtxId × Gen × W32) => o.2.2 }
      (s.substitutes die lw).setInserting die lw true
    | none => s
  { s with faults := { s.faults with insertions := s.faults.insertions ++ [(c, cause)] } }.settleInsertions

/-! ### Die-to-die lanes -/

/-- A die-to-die lane is declared permanent (R183–R185, Table 6.8a): its receiver's RX bit is cleared, and the logical lane that it
carries takes the spare that the next plan gives it; the ledger holds the substitution from then on. -/
def State.loseLane (s : State) (c : Chan) (cause : Cause) : State :=
  let e := chanBits c 21 3
  let d := chanDir c
  let l := chanBits c 12 8
  let s := (s.padlock c).modEdge e fun x => x.clearRx d l
  let log := heldLane ((s.edge e).held d) l
  if 128 ≤ log then s.onlyPadlocked c cause
  else
    let held := Store.put none ((s.edge e).held d) log none
    match Store.get none (planSpares (s.agreed e d) held) log with
    | some sp =>
      let s := (s.padlockSpare c).ledgerWrite laReplace (laneChan e d log) (laneChan e d sp) 0
      (s.modEdge e fun x => x.setHeld d (Store.put none held log (some sp))).replaced c cause (laneChan e d sp)
    | none => (s.modEdge e fun x => x.setHeld d held).leftPadlocked c cause

/-- A group is padlocked in place of its lanes (R380): it turns off in its direction. -/
def State.loseGroup (s : State) (c : Chan) (cause : Cause) : State :=
  let e := chanBits c 21 3
  let s := (s.padlock c).modEdge e fun x => x.modGroup (chanDir c) (chanBits c 17 3) fun q => { q with off := true }
  (s.rehomeAll e).leftPadlocked c cause

/-! ### HBM and shelf SRAM -/

/-- A stack is padlocked as a whole (R156). -/
def State.loseStack (s : State) (k : Nat) (cause : Cause) : State :=
  let c := stackChan k
  let s := ((s.padlock c).modStack k fun x => { x with padlocked := true }).leftPadlocked c cause
  s.reportCapacity fun cap => { cap with pages := Store.put 770048 cap.pages k 0 }

/-- The lowest-numbered free page of a stack's retirement reserve (R153). -/
def Stack.freeReserve (k : Stack) : Option Nat :=
  (List.range 12288).find? fun j =>
    !k.badReserve.contains j && !(k.retired.any fun p => decide (p.2 = some j)) && !(k.copying.any fun p => decide (p.2 = some j))

/-- The report of a withdrawn range (R155): its page or block by channel ID, which gives its place. Log: DESIGN CHOICE 46. -/
def State.reportWithdrawn (s : State) (c : Chan) : State := s.logEvent ("withdrawn " ++ hexDigits 8 c.toNat)

/-- Retire or withdraw a data page (R153, R155). -/
def State.retirePage (s : State) (k page : Nat) (c : Chan) (cause : Cause) : State :=
  match (s.stack k).freeReserve with
  | some j =>
    let sc := pageChan k (770048 + j)
    ((s.ledgerWrite laReplace (pageChan k page) sc 0).modStack k fun x =>
      { x with copying := Store.put none x.copying page (some j) }).replaced c cause sc
  | none =>
    let s := ((s.modStack k fun x => { x with withdrawn := x.withdrawn ++ [page] }).padlock (pageChan k page)).withdrawnChan c cause
    let s := (s.reportCapacity fun cap => { cap with pages := Store.put 770048 cap.pages k (cap.pageCount k - 1) }).reportWithdrawn
      (pageChan k page)
    if 1024 ≤ (s.stack k).withdrawn.length && !(s.stack k).padlocked then s.loseStack k cause else s

/-- An HBM page is declared permanent: a data page, a reserve page in use or the target of a running copy, which another replaces, or a
free reserve page (R153–R155). Log: DEDUCED 37; DESIGN CHOICE 31. -/
def State.losePage (s : State) (c : Chan) (cause : Cause) : State :=
  let k := chanBits c 20 4
  let page := chanBits c 0 20
  let s := s.padlock c
  if page < 770048 then s.retirePage k page c cause
  else
    let j := page - 770048
    let used := (((s.stack k).copying ++ (s.stack k).retired).find? fun p => p.2 = some j).map fun p => p.1
    let s := s.modStack k fun x => { x with badReserve := x.badReserve ++ [j], copying := x.copying.filter fun p => p.2 ≠ some j }
    match used with
    | some d => (s.padlockSpare c).retirePage k d c cause
    | none => s.onlyPadlocked c cause

/-- An HBM row is declared permanent (R152): soft repair, or its page is retired. The channel names the row's bank, which serves on
with its other rows. The page is that of the reported address; where the report carries none it is a free value.
Log: DESIGN CHOICE 31. -/
def State.loseRow (s : State) (c : Chan) (cause : Cause) (detail : W64) (data : W32) : State :=
  let k := chanBits c 20 4
  let pc := chanBits c 14 6
  let bank := chanBits c 9 5
  if ((s.stack k).repaired.filter fun r => r.1 = pc && decide (r.2.1 = bank)).length < Config.rowRepairs then
    ((s.modStack k fun x => { x with repaired := x.repaired ++ [(pc, bank, data.toNat)] }).ledgerWrite laReplace c noChan data).replaced
      c cause noChan
  else
    let named := match s.place detail.toNat with
      | .cell h off => if cause = Cause.uncorrectable && decide (h = k) then some (off / 65536) else none
      | _ => none
    let s' := if named.isNone then s.spend else s
    let page := named.getD (s.fresh.toNat % 770048)
    if s.isPadlocked (pageChan k page) then s' else (s'.padlock (pageChan k page)).retirePage k page c cause

/-- An HBM data lane is declared permanent (R151). -/
def State.loseHbmLane (s : State) (c : Chan) (cause : Cause) : State :=
  let k := chanBits c 20 4
  let pc := chanBits c 14 6
  let lane := chanBits c 7 7
  let s := s.padlock c
  let used := Store.get 0 (s.stack k).lanesUsed pc
  if used < Config.redundantLanes then
    let s := s.modStack k fun x => { x with
      lanesUsed := Store.put 0 x.lanesUsed pc (used + 1)
      remapping := Store.put [] x.remapping pc (Store.get [] x.remapping pc ++ [lane]) }
    (s.ledgerWrite laReplace c noChan 0).replaced c cause noChan
  else (s.onlyPadlocked c cause).loseStack k cause

/-- A shelf block lies in an area that keeps its address (R377): micro-image region, ring area, ledger mirror, and on P0
the retained region. -/
def keptArea (die block : Nat) : Bool :=
  let off := block * 4096
  decide (off < 0x2000000) || (0x2000000 ≤ off && off < 0x2100000) || (die = 0 && 0x3000000 ≤ off && off < 0x4000000)

/-- Regions of all contexts that are not Free. -/
def State.allRegions (s : State) : List Region :=
  (s.ops.contexts.map fun p => if p.2.state = .free then [] else p.2.regions).flatten

/-- The highest free 4 KiB block of a die's general space: not withdrawn, not in use by the block remap, and in no
context's region (R377). -/
def State.freeBlock (s : State) (die : Nat) : Option Nat :=
  let sh := s.shelf die
  let rs := s.allRegions
  (((List.range 0xC000).map fun i => 0xFFFF - i).find? fun b =>
    !sh.withdrawn.contains b && !(sh.blockRemap.any fun p => p.2 = b)
      && !(rs.any fun r => r.base.toNat < 0x020000000000 + die * 0x10000000 + (b + 1) * 4096
        && decide (0x020000000000 + die * 0x10000000 + b * 4096 < r.base.toNat + r.len)))

/-- Rewrite a redirected block from its other copy (R377): an image block from P0's region, or P1's for P0, and a mirror
block from the keeper's ledger. -/
def State.recoverBlock (s : State) (die block : Nat) : State :=
  let off := block * 4096
  let clear (t : State) : State := (List.range 64).foldl (fun u i => u.setPoison (12 + die) (off + 64 * i) false) t
  if off < 0x800000 then (clear s).putBytes (12 + die) off (s.bytes (12 + (if die = 0 then 1 else 0)) off 4096)
  else if 0x2000000 ≤ off ∧ off < 0x2100000 then clear s
  else s

/-- A block that keeps its address finds no free block or remap entry: the record is FATAL, and its entry has the next start redirect it
(R377). -/
def State.blockFatal (s : State) (die block : Nat) (c : Chan) (cause : Cause) : State :=
  (s.ledgerWrite laPadlock (blockChan die block) noChan 0).onRecord c cause (markRecord .padlocked noChan 5)

/-- A shelf SRAM block is lost (R160, R377). -/
def State.loseBlock (s : State) (die block : Nat) (c : Chan) (cause : Cause) : State :=
  if keptArea die block then
    match s.freeBlock die with
    | some b =>
      if (s.shelf die).blockRemap.length < 16 then
        let s := s.modShelf die fun x => { x with blockRemap := x.blockRemap ++ [(block, b)] }
        ((s.ledgerWrite laReplace (blockChan die block) (blockChan die b) 0).recoverBlock die block).replaced c cause
          (blockChan die b)
      else s.blockFatal die block c cause
    | none => s.blockFatal die block c cause
  else
    (((s.modShelf die fun x => { x with withdrawn := x.withdrawn ++ [block] }).padlock (blockChan die block)).withdrawnChan
      c cause).reportWithdrawn (blockChan die block)

/-- A shelf SRAM row is declared permanent (R160). A macro's 32,768 rows hold 128 B each, so 32 rows are a block. Log: DEDUCED 32. -/
def State.loseShelfRow (s : State) (c : Chan) (cause : Cause) : State :=
  let die := chanBits c 21 3
  let m := chanBits c 15 6
  let row := chanBits c 0 15
  let s := s.padlock c
  let used := Store.get 0 (s.shelf die).sparesUsed m
  if used < 2 then
    let s := s.modShelf die fun x => { x with
      sparesUsed := Store.put 0 x.sparesUsed m (used + 1), replaced := x.replaced ++ [(m, row)] }
    (s.ledgerWrite laReplace c noChan (BitVec.ofNat 32 row)).replaced c cause noChan
  else s.loseBlock die (m * 1024 + row / 32) c cause

/-! ### Rails -/

/-- Phases of a rail that are not padlocked. -/
def State.phasesLeft (s : State) (rail : Nat) : Nat :=
  match railSpec rail with
  | some (n, _, _) => n - (s.rail rail).padlocked.length
  | none => 0

/-- Channels that a rail supplies (Table 13.2), those that are channels of Table 12.1. -/
def railLoads (rail : Nat) : List Chan :=
  if rail < 0x0C then [dieChan rail]
  else if 0x10 ≤ rail ∧ rail < 0x1C then [coreChan (2 * (rail - 0x10)), coreChan (2 * (rail - 0x10) + 1)]
  else if 0x20 ≤ rail ∧ rail < 0x26 then [baseChan (rail - 0x20)]
  else if 0x28 ≤ rail ∧ rail < 0x2E then [baseChan (rail - 0x28)]
  else if 0x30 ≤ rail ∧ rail < 0x3C then [stackChan (rail - 0x30)]
  else if 0x40 ≤ rail ∧ rail < 0x4C then [stackChan (rail - 0x40)]
  else if 0x50 ≤ rail ∧ rail < 0x5C then [stackChan (rail - 0x50)]
  else if 0x60 ≤ rail ∧ rail < 0x68 then [siteChan (rail - 0x60)]
  else if rail = 0x70 ∨ rail = 0x71 then [cartChan (rail - 0x70)]
  else if rail = 0x78 then [flashChan 0, flashChan 1]
  else []

/-- An application core stops serving: one core fewer is available (R378). -/
def State.loseCore (s : State) (core : Nat) : State :=
  let s := (s.padlock (coreChan core)).modCore core fun c => { c with running := false, ctxs := [] }
  s.reportCapacity fun c => { c with cores := c.cores - 1 }

/-- A load goes absent with its rail, or is padlocked with it (R395, R396). -/
def State.loseLoad (s : State) (c : Chan) : State :=
  if s.faults.padlocked.contains c then s
  else
    match chanKind c with
    | 0x04 => s.loseCore (2 * chanBits c 20 4 + chanBits c 19 1)
    | 0x1B =>
      ((s.padlock c).modStack (chanBits c 20 4) fun x => { x with padlocked := true }).reportCapacity
        fun cap => { cap with pages := Store.put 770048 cap.pages (chanBits c 20 4) 0 }
    | 0x03 => (s.padlock c).reportCapacity fun cap => { cap with wards := Store.put 24 cap.wards (chanBits c 20 4) 0 }
    | 0x26 => ((s.padlock c).modSite (chanBits c 21 3) fun x => { x with closed := true }).engineDown (chanBits c 21 3)
    | 0x27 => (List.range 4).foldl (fun t j => t.engineDown (4 * chanBits c 23 1 + j))
        ((s.padlock c).modCart (chanBits c 23 1) fun x => { x with present := false })
    | 0x38 => ((s.padlock c).modPart (chanBits c 23 1) fun x => { x with padlocked := true }).adjustReady
    | _ => s.padlock c

/-- The loads of a rail that has no phase left, or whose phases carry less than its peak and that no throttle spares, go absent with it
(R395, R396). -/
def State.railLost (s : State) (rail : Nat) : State :=
  match railSpec rail with
  | none => s
  | some (n, rating, peak) =>
    let left := s.phasesLeft rail
    let throttled := rail < 0x0C || (0x20 ≤ rail && rail < 0x26)
    if left < n - 2 && (left = 0 || (!throttled && decide (left * rating * 10 < peak))) then (railLoads rail).foldl State.loseLoad s else s

/-- A power phase is declared permanent (R395): while N phases are left the rail runs at its full rating. -/
def State.losePhase (s : State) (c : Chan) (cause : Cause) : State :=
  let rail := chanBits c 16 8
  let ph := chanBits c 11 5
  let s := (s.padlock c).modRail rail fun r => { r with padlocked := r.padlocked ++ [ph] }
  match railSpec rail with
  | none => s.onlyPadlocked c cause
  | some (n, _, _) => if n - 2 ≤ s.phasesLeft rail then s.onlyPadlocked c cause else (s.leftPadlocked c cause).railLost rail

/-- Good diodes of a die. -/
def State.goodDiodes (s : State) (die : Nat) : Nat :=
  ((List.range 12).filter fun k => !(Store.get Diode.reset s.thermal.diodes (12 * die + k)).padlocked).length

/-- A die with fewer than six good diodes carries the diode-floor request, a base die on its two compute dies (R399). -/
def State.diodeFloor (s : State) (die : Nat) : State :=
  let floor (t : State) (d : Nat) : State := t.modGovernor d fun g => { g with diode := 1 }
  if 6 ≤ s.goodDiodes die then s
  else if die < 12 then floor s die
  else floor (floor s (2 * (die - 12))) (2 * (die - 12) + 1)

/-- A diode is declared permanent (R399): a die with fewer than six good ones carries the diode-floor request. -/
def State.loseDiode (s : State) (c : Chan) (cause : Cause) : State :=
  let die := chanBits c 19 5
  let k := 12 * die + chanBits c 15 4
  let s := s.padlock c
  let s := { s with thermal := { s.thermal with
    diodes := Store.modify Diode.reset s.thermal.diodes k fun d => { d with padlocked := true } } }
  if s.goodDiodes die < 6 then (s.leftPadlocked c cause).diodeFloor die else s.onlyPadlocked c cause

/-- Good control cores of a base die. -/
def State.controlCores (s : State) (die : Nat) : Nat :=
  ((List.range 4).filter fun k => !s.faults.padlocked.contains (controlCoreChan die k)).length

/-- A control core is declared permanent (R331): three are enough; a latch left with fewer stops. -/
def State.loseControlCore (s : State) (c : Chan) (cause : Cause) : State :=
  let die := chanBits c 21 3
  let s := s.padlock c
  if 3 ≤ s.controlCores die then s.onlyPadlocked c cause
  else
    let s := s.leftPadlocked c cause
    if die = 0 then s else s.modLatch die fun l => { l with running := false }

/-- A sense element is declared permanent: if it was the phase's chosen one, the best good one replaces it (R418, R419). -/
def State.loseElement (s : State) (c : Chan) (cause : Cause) : State :=
  let rail := chanBits c 16 8
  let ph := chanBits c 11 5
  let s := (s.padlock c).modRail rail fun r => { r with badElements := r.badElements ++ [4 * ph + chanBits c 9 2] }
  let bad := [0, 1, 2].filter fun e => (s.rail rail).badElements.contains (4 * ph + e)
  match nextElement (s.cal.gainError rail ph) bad (Store.get 0 (s.rail rail).element ph) with
  | some e =>
    ((s.switchElement rail ph e).ledgerWrite laReplace c (senseChan rail ph e) 0).replaced
      c cause (senseChan rail ph e)
  | none => s.leftPadlocked c cause

/-- Optical channels: a laser is dark and retired, a ring or segment is out of use, a fiber is dead. -/
def State.loseOptical (s : State) (c : Chan) (cause : Cause) : State :=
  let e := chanBits c 21 3
  let f := chanBits c 17 4
  let ring := 36 * f + 2 * chanBits c 12 5
  let s := s.padlock c
  let s := match chanKind c with
    | 0x20 => s.modEngine e fun x => x.modLaser (chanBits c 16 5) fun l => { l with lit := false, retired := true }
    | 0x21 => s.modEngine e fun x => x.modRing ring fun r => { r with state := .permanent, driving := false }
    | 0x22 => s.modEngine e fun x => x.modRing (ring + 1) fun r => { r with state := .permanent, driving := false }
    | 0x23 => s.modEngine e fun x => x.modRing (ring + chanBits c 11 1) fun r =>
        { r with badSegments := r.badSegments ++ [chanBits c 9 2] }
    | 0x24 => s.modEngine e fun x => x.dropLane f (decide (chanBits c 12 1 = 1)) (chanBits c 13 4)
    | 0x25 => s.modEngine e fun x => { x with deadFibers := x.deadFibers ++ [f] }
    | _ => s
  s.leftPadlocked c cause

/-- The channel to act on: itself, or its parent where a further entry would pass 24,576 open entries other than retired
pages (R380). -/
def State.ledgerTarget (s : State) (c : Chan) : Chan :=
  let others := (openEntries s.faults.ledger).filter fun e => !(chanKind e.chan = 0x1A && e.action = laReplace)
  if 24576 ≤ others.length then (parentChan c).getD c else c

/-- A channel is declared permanent (R377): its owning complex padlocks it, chooses a spare by the rule of the channel's
chapter, writes the ledger entry and brings the spare into use. -/
def State.declare (s : State) (c : Chan) (cause : Cause) (detail : W64) (data : W32) : State :=
  let c := s.ledgerTarget c
  if s.isPadlocked c then s
  else
    match chanKind c with
    | 0x01 => s.loseTumbler c cause
    | 0x02 => s.loseWard c cause
    | 0x04 => ((s.loseCore (2 * chanBits c 20 4 + chanBits c 19 1))).leftPadlocked c cause
    | 0x08 => s.loseControlCore c cause
    | 0x10 => s.loseLane c cause
    | 0x11 => s.loseGroup c cause
    | 0x18 => s.loseHbmLane c cause
    | 0x19 => s.loseRow c cause detail data
    | 0x1A => s.losePage c cause
    | 0x1B => s.loseStack (chanBits c 20 4) cause
    | 0x1C => s.loseShelfRow c cause
    | 0x1D => (s.padlock c).loseBlock (chanBits c 21 3) (chanBits c 0 16) c cause
    | 0x20 | 0x21 | 0x22 | 0x23 | 0x24 | 0x25 => s.loseOptical c cause
    | 0x26 => (((s.padlock c).modSite (chanBits c 21 3) fun x => { x with closed := true }).engineDown (chanBits c 21 3)).leftPadlocked
        c cause
    | 0x30 => s.losePhase c cause
    | 0x31 => s.loseElement c cause
    | 0x32 => s.loseDiode c cause
    | 0x38 =>
      (((s.padlock c).modPart (chanBits c 23 1) fun p => { p with padlocked := true }).leftPadlocked c cause).adjustReady
    | 0x03 => ((s.loseLoad c)).leftPadlocked c cause
    | _ => (s.padlock c).leftPadlocked c cause

/-- Raise a record at the complex that owns a channel and declare the channel permanent. -/
def State.declareWith (s : State) (c : Chan) (cause : Cause) (detail : W64) (data : W32) : State :=
  if s.isPadlocked c then s
  else (s.raise (asBase (chanOwner c)) { cause, suspect := c, detail }).declare c cause detail data

/-- Count transients against a channel (R365); at its threshold the channel is declared permanent, unless reaching it only
starts a test. Answers whether the threshold was reached. Log: DEDUCED 118. -/
def State.transient (s : State) (c : Chan) (n : Nat) : State × Bool :=
  let k := c.toNat
  let before := Store.get 0 s.faults.transients k
  let s := { s with faults := { s.faults with transients := Store.put 0 s.faults.transients k (before + n) } }
  match threshold c s.tel.interval with
  | some t => (s, decide (before < t ∧ t ≤ before + n))
  | none => (s, false)

end Sys2Proof.Machine
end

