-- ==== Sys2Proof/Machine/Reset.lean ====
section
/-! DEFINITION. Whole-module reset (R383–R387), the reset and PERST inputs (R466–R468) and the clock losses of R193. -/

namespace Sys2Proof.Machine

/-! ### What a reset keeps -/

/-- Cells of the retained region of P0's shelf SRAM (R159, Table 12.11). -/
def retainedCell (k : Nat) : Bool := cellKey 12 offRetained ≤ k && decide (k < cellKey 12 (offRetained + 0x1000000))

/-- Base dies that keep the position sampled at the last rail-up (R166). -/
def keepPositions (s : State) : Store BaseState :=
  (List.range 6).foldl (fun m d => Store.put BaseState.reset m d { BaseState.reset with position := (s.base d).position }) []

/-- The module as a reset or a loss of power leaves it, before its next start: `lost` is a loss of the 64 V input, which
loses every memory (R391); `cycled` a cycle of every rail but VRET (R384). Flash, fuses, calibration stores, cartridges and
the levels of the input contacts remain. -/
def State.freshStart (s : State) (p : Power) (lost cycled : Bool) : State :=
  { State.reset with
    power := p
    host := { HostGroup.reset with
      portA := { Port.reset with perst := s.host.portA.perst }, portB := { Port.reset with perst := s.host.portB.perst } }
    flash := s.flash
    cal := { s.cal with moving := [], absent := [], passed := 0, failed := 0, sel := [] }
    sec := { s.sec with
      udsClosed := false, scopes := 0, aliasKey := none, measures := [], phases := [], sessions := []
      nextSession := 0, token := if lost || cycled then none else s.sec.token }
    optics := { Optics.reset with
      cart0 := { s.optics.cart0 with read := false, overtemp := false }
      cart1 := { s.optics.cart1 with read := false, overtemp := false }
      ledgerSerial := s.optics.ledgerSerial }
    mem := { Memory.reset with
      cells := if lost then [] else if cycled then s.mem.cells.filter fun c => retainedCell c.1 else s.mem.cells
      poison := if lost then [] else if cycled then s.mem.poison.filter fun c => retainedCell (64 * c.1)
        else s.mem.poison }
    d2d := { D2d.reset with bases := if lost || cycled then [] else keepPositions s }
    keeper := { Keeper.reset with serials := s.keeper.serials }
    out := s.out, freeIx := s.freeIx, pending := s.pending }

/-- Power across a reset: a standing assertion of THROTTLE_N keeps the sequencer's request until the keeper's first
power-cap step (R409). -/
def Power.acrossReset (p : Power) : Power :=
  { p with
    governors := [], fastLimit := false, throttleHold := p.throttleN, throttleHoldDue := p.throttleN
    throttleUnseen := p.throttleN, capBelow := 0, capLowered := false, capBar := none, railSel := [], escalated := false
    rails := p.rails.filterMap fun (r : Nat × Rail) => if r.2.up then none else some (r.1, { Rail.reset with up := false }) }

/-- The module loses power (R391, R392). -/
def State.losePower (s : State) (ps : PsState) : State :=
  s.freshStart { Power.reset with
    ps, inputMv := s.power.inputMv, band := s.power.band, stoppedOnce := s.power.stoppedOnce, lastStop := s.power.lastStop
    eeprom := s.power.eeprom, psCal := s.power.psCal, bus12 := false, railsUp := false, retained := false, throttleN := s.power.throttleN
    throttleHold := s.power.throttleN, throttleHoldDue := s.power.throttleN, throttleUnseen := s.power.throttleN
    refclk := s.power.refclk, resetN := s.power.resetN } true true

/-! ### The reset record -/

/-- Number of a reset cause, in the order of Table 12.8 (log entry 16). Log: DESIGN CHOICE 16, 28. -/
def resetCode : ResetCause → Nat
  | .cmdReset => 1 | .fatal c => 2 + c.toNat * 0x10000 | .watchdog => 3 | .resetN => 4 | .perstPair => 5
  | .perst0Single => 6 | .refclk => 7

/-- Units that missed quiesce as a mask in the order of Table 12.9. Log: DESIGN CHOICE 28. -/
def unitBit : QUnit → Nat
  | .dispatchers => 1 | .wards => 2 | .homes => 4 | .engines => 8 | .latches => 16 | .keeper => 32 | .flash => 64

/-- The words of the retained region's header (Table 12.11), as critical values. Log: DESIGN CHOICE 28. -/
def headerWords (used boot cause : Nat) (escalated : Bool) (missed : Nat) (time : W64) : List W64 :=
  [0x52544E44, 1, used, boot, cause, escalated.toNat, missed, time.toNat % 2 ^ 32, time.toNat / 2 ^ 32].map
    fun v => critWord (BitVec.ofNat 32 v)

/-- Write the header. -/
def State.writeHeader (s : State) (used boot cause : Nat) (escalated : Bool) (missed : Nat) : State :=
  s.shelfStore 0 offRetained
    (((headerWords used boot cause escalated missed s.tel.timestamp).map fun w => leBytes 8 w.toNat).flatten)

/-! ### The sequencer -/

/-- Entries of one half of the journal (Table 11.2). -/
abbrev journalHalf : Nat := 65536

/-- Append an entry to a part's journal; a full half is replaced by a snapshot of the open entries in the other half (R337).
Log: DESIGN CHOICE 36. -/
def FlashPart.append (p : FlashPart) (e : LedgerEntry) : FlashPart :=
  { p with journal := (if journalHalf ≤ p.journal.length then openEntries p.journal else p.journal) ++ [e] }

/-- The ledger commits that were in progress at the quiesce request complete, and a running keeper has then acknowledged (R384, Table
12.9). -/
def State.finishCommits (s : State) : State :=
  let put (e : LedgerEntry) (u : State) (k : Nat) : State :=
    if (u.part k).out || !(u.part k).formatted then u else u.modPart k fun p => p.append e
  let q := s.faults.seqr
  let t := (q.commits.filter fun e => s.faults.uncommitted.contains e).foldl (fun t e => put e (put e t 0) 1) s
  { t with faults := { t.faults with uncommitted := t.faults.uncommitted.filter fun e => !q.commits.contains e, seqr := { q with commits := [] } } }

/-- The reset takes effect (R383, R384): the reset record stands, every unit starts afresh, and a new start follows once
the three reset inputs are high. -/
def State.takeReset (s : State) : State :=
  match s.faults.seqr.active with
  | none => s
  | some c =>
    let q := s.faults.seqr
    let mask := (q.missed.map unitBit).sum
    let s := if s.keeper.shelfCleared then
        s.writeHeader 0x60000 s.keeper.bootCount.toNat (resetCode c) q.escalated mask
      else s
    let t := s.freshStart { s.power.acrossReset with railsUp := !q.escalated } false q.escalated
    { t with faults := { t.faults with resetCause := some c, resetEscalated := q.escalated, resetMissed := q.missed } }

/-- WHOLE_MODULE_RESET: the cause starts the quiesce of Table 12.9; with the watchdog the sequencer pulses FAULT_N
(Table 12.8), and the loss of REFCLK resets at once without one. -/
def execWholeModuleReset (cause : ResetCause) (s : State) : Host.Outcome State Fault Refusal :=
  .next <|
    if cause = .refclk then
      let s := { s with faults := { s.faults with seqr := { Sequencer.reset with active := some cause } } }
      s.takeReset
    else
      let idle := s.faults.seqr.active.isNone
      let s := s.beginReset cause
      if idle && decide (cause = .watchdog) then s.emit .faultPulse else s

/-- QUIESCE_COMPLETE: every unit has acknowledged, so the reset takes effect (R384). -/
def execQuiesceComplete (s : State) : Host.Outcome State Fault Refusal :=
  .next <| if s.faults.seqr.escalated then s
    else { s with faults := { s.faults with seqr := { s.faults.seqr with waiting := [] } } }.finishCommits.takeReset

/-- QUIESCE_ESCALATION: the units named have not acknowledged 200 ms after the reset began, so every rail but VRET goes off
(R384). The units that did acknowledge are no part of the record. -/
def execQuiesceEscalation (missed : List QUnit) (s : State) : Host.Outcome State Fault Refusal :=
  .next <| match s.faults.seqr.active with
    | none => s
    | some _ =>
      let s := if missed.contains .keeper || missed.contains .flash then s else s.finishCommits
      { s with
        faults := { s.faults with seqr := { s.faults.seqr with escalated := true, missed := missed } }
        power := { s.power with escalated := true, railsUp := false } }

/-- ESCALATION_RAIL_REAPPLY: after 100 ms off the rails come up again by Table 13.3, and the reset takes effect with every
volatile state but the retained region lost (R384, R385). -/
def execEscalationRailReapply (s : State) : Host.Outcome State Fault Refusal :=
  .next <| if s.power.escalated then
      let t := s.takeReset
      { t with power := { t.power with escalated := false, railsUp := true, rails := [] } }
    else s

/-! ### Reset inputs -/

/-- Port mode in force: until the profile is read PERST0_N acts as RESET_N, as in single mode (R466). -/
def State.singleMode (s : State) : Bool := !s.keeper.idore || s.host.mode = 0

/-- Cause for the sequencer of a reset that an input asks for, when the module is powered. -/
def State.inputReset (s : State) (c : ResetCause) : State := if s.power.railsUp then s.beginReset c else s

/-- RESET_N_ASSERT: a whole-module reset, by the sequencer alone; during a reset it is recorded only (R466, R467). -/
def execResetNAssert (s : State) : Host.Outcome State Fault Refusal :=
  .next ({ s with power := { s.power with resetN := true } }.inputReset .resetN)

/-- PERST_PAIR_ASSERT: both PERST inputs low in the same eleven samples (R314, R466); before the profile is read, and in
single mode, PERST0_N alone acts. -/
def execPerstPairAssert (s : State) : Host.Outcome State Fault Refusal :=
  let s := { s with host := { s.host with portA := { s.host.portA with perst := true, up := false }
                                          portB := { s.host.portB with perst := true, up := false } } }
  .next (s.inputReset (if s.singleMode then .perst0Single else .perstPair))

/-- REFCLK_LOSS: P0 holds the module in reset with no quiesce (R193). -/
def execRefclkLoss (s : State) : Host.Outcome State Fault Refusal :=
  let s := { s with power := { s.power with refclk := false }
                    faults := { s.faults with seqr := { Sequencer.reset with active := some .refclk } } }
  .next (if s.power.railsUp then s.takeReset else s)

/-- REFCLK_RESTORED: REFCLK has been present for 10 ms, so the start may begin (R193). -/
def execRefclkRestored (s : State) : Host.Outcome State Fault Refusal :=
  .next { s with power := { s.power with refclk := true } }

end Sys2Proof.Machine
end

