-- ==== Sys2Proof/Machine/Boot.lean ====
section
/-! DEFINITION. The start (R334–R342): image selection and verification, key derivation, Idore's stages 2 and 3, the latches,
the stacks, the dump copy and the entry to READY. -/

namespace Sys2Proof.Machine

/-! ### Image selection -/

/-- The newer of the two boot records (R335). -/
def newerRecord (a b : Option BootRecord) : Option BootRecord :=
  match a, b with
  | some x, some y => some (if x.count.toNat < y.count.toNat then y else x)
  | some x, none => some x
  | none, y => y

/-- The boot record of a part that serves. -/
def FlashPart.record (p : FlashPart) : Option BootRecord := if p.out || !p.formatted then none else p.boot

/-- The record that a start takes; with both absent, image A and boot count 0 (R335). -/
def State.bootRecord (s : State) : BootRecord :=
  (newerRecord s.flash.partA.record s.flash.partB.record).getD
    { count := 0, preferB := false, trial := false, trialStarts := 0 }

/-- Write a boot record to both parts, part A first (R335). -/
def State.putBootRecord (s : State) (r : BootRecord) : State :=
  let w (p : FlashPart) : FlashPart := if p.out || !p.formatted then p else { p with boot := some r }
  { s with flash := { partA := w s.flash.partA, partB := w s.flash.partB } }

/-- Trial rules of R336, steps 1 and 2. -/
def trialRules (r : BootRecord) : BootRecord :=
  if r.trial && decide (r.trialStarts = 2) then { r with trial := false, preferB := !r.preferB, trialStarts := 0 }
  else if r.trial then { r with trialStarts := r.trialStarts + 1 }
  else r

/-- The boot ROM starts: status word BOOTING at stage 1, port A leaves reset as the active port (R302), an image is selected (R336, Table 11.4). -/
def State.startRom (s : State) : State :=
  let r := trialRules s.bootRecord
  let s := s.putBootRecord r
  let s := { s with keeper := { s.keeper with rom := true, imageB := r.preferB, trial := r.trial } }
  let s := s.modPort .a fun p => { p with active := true, released := !p.perst }
  (s.setModState .booting).setStage 1

/-- MODULE_START: with every rail in regulation and the three reset inputs high, time 0: each base die samples its straps if
its rails have just come up (R166, R340). -/
def execModuleStart (straps : Straps) (s : State) : Host.Outcome State Fault Refusal :=
  .next <| if s.power.railsUp && s.power.refclk && s.faults.seqr.active.isNone && !s.keeper.started then
      let take (t : State) (p : Nat × Fin 8) : State :=
        t.modBase p.1 fun b => match b.position with | some _ => b | none => { b with position := some p.2 }
      let s := [(0, straps.p0), (1, straps.p1), (2, straps.p2), (3, straps.p3), (4, straps.p4), (5, straps.p5)].foldl take s
      let s := (s.modPort .a fun p => { p with perst := false }).modPort .b fun p => { p with perst := false }
      { s with keeper := { s.keeper with started := true }, power := { s.power with resetN := false } }
    else s

/-! ### Verification and keys -/

/-- The part of an image: 0 A, 1 B. -/
def imagePart (b : Bool) : Nat := b.toNat

/-- The step of R428 that an image's slot fails; a slot with an invalid header fails step 1. -/
def State.slotFault (s : State) (k : Nat) : Option Nat :=
  let p := s.part k
  if p.out || !p.formatted || !p.slotValid then some 1 else packageFault s.sec.vendorRootHash s.sec.svn p.package

/-- The image that starts: the preferred one, or the other where it fails (R336 step 3). -/
def State.chooseImage (s : State) : Option Bool :=
  if (s.slotFault (imagePart s.keeper.imageB)).isNone then some s.keeper.imageB
  else if (s.slotFault (imagePart !s.keeper.imageB)).isNone then some (!s.keeper.imageB)
  else none

/-- Bytes that an unlock token's signature covers (R438). -/
def tokenBytes (t : DebugToken) : List Byte :=
  leBytes 4 t.magic.toNat ++ leBytes 8 t.serial.toNat ++ leBytes 4 t.bootCount.toNat ++ leBytes 1 t.scopes.toNat
    ++ leBytes 4 t.keyIndex.toNat ++ leBytes 48 t.nonce.toNat

/-- The owner key is accepted: programmed, not revoked, and its hash present (R430). -/
def Security.ownerGood (s : Security) : Bool := s.ownerState = some 1 && s.ownerHash.isSome

/-- The key that an unlock token's index names, where that key may unlock (R438). -/
def State.tokenKey (s : State) (t : DebugToken) (pkg : List Byte) : Option (List Byte) :=
  if t.keyIndex = 0 then (if s.sec.vendorDebugOff = some false then some (pkgRootKey pkg) else none)
  else if t.keyIndex = 1 && s.sec.ownerGood then s.sec.ownerHash.map Config.ownerKey
  else none

/-- The scopes that a stored token opens for this start (R438). -/
def State.tokenScopes (s : State) (pkg : List Byte) (count : W32) : BitVec 4 :=
  match s.sec.token with
  | none => 0
  | some t =>
    match s.tokenKey t pkg with
    | none => 0
    | some key =>
      if t.magic = 0x4442554C && t.serial = Store.get 0 s.keeper.serials 0 && t.bootCount = count && t.nonce = s.sec.nonce
        && signed key (tokenBytes t) t.sig then t.scopes
      else 0

/-- A fresh nonce of 48 bytes. -/
def State.freshNonce (s : State) : State :=
  let f (i : Nat) : W64 := Config.freeValue (s.freeIx + i)
  { s with freeIx := s.freeIx + 6, sec := { s.sec with nonce := f 5 ++ f 4 ++ f 3 ++ f 2 ++ f 1 ++ f 0 } }

/-- The boot ROM's key derivation (R432); with uds absent no key exists (R435). -/
def State.deriveKeys (s : State) (pkg : List Byte) : State :=
  let m := Config.sha384 (pkgHeader pkg)
  let measure (st : Store (BitVec 384)) (p : Nat × BitVec 384) : Store (BitVec 384) := Store.put 0 st p.1 p.2
  let ms := [(1, Config.romDigest), (2, m), (3, Config.sha384 (pkgLatch pkg)), (5, s.sec.scopes.setWidth 384)].foldl measure []
  let key := s.sec.uds.map fun u =>
    let cdi0 := Config.hmac u (leBytes 48 Config.romDigest.toNat)
    let cdi1 := Config.hmac cdi0 (leBytes 48 m.toNat ++ leBytes 4 (pkgSvn pkg) ++ leBytes 1 s.sec.scopes.toNat)
    (Config.derive cdi1 "Alias").1
  { s with sec := { s.sec with aliasKey := key, udsClosed := true, measures := ms } }

/-! ### Idore's stages 2 and 3 -/

/-- A good profile copy: 22 words whose halves agree (R339). -/
def profileValues (ws : List W64) : Option (List W32) :=
  if ws.length = 22 then ws.mapM critValue else none

/-- Profile copies in the order they are tried. Log: DEDUCED 33. -/
def State.profileCopies (s : State) : List (List W64) :=
  let of (p : FlashPart) : List (List W64) := if p.out || !p.formatted then [] else [p.profile1, p.profile2]
  of s.flash.partA ++ of s.flash.partB

/-- The profile in force: the first copy that is complete, or the defaults (R339); and whether it is a stored one. Log: DEDUCED 33. -/
def State.profile (s : State) : List W32 × Bool :=
  match s.profileCopies.findSome? profileValues with
  | some v => (v, true)
  | none => (defaultProfileValues, false)

/-- A role map as an edge applies it: one with no mesh group gets group 0 made mesh (R172). -/
def roleMap (v : Byte) : Byte := if v = 0xFF then 0xFE else v

/-- The keeper writes the group roles of an edge at the end nearer P0 (R172, R341): a map with no mesh group gets group 0 made mesh, which
is logged, and an edge that waits at its mask step begins the exchange. -/
def State.writeRole (s : State) (e : Nat) (v : Byte) : State :=
  if (s.edge e).roleLowLocked then s
  else
    let s := s.modEdge e fun x => { x with roleLow := roleMap v, roleLowLocked := true }
    (if v = 0xFF then s.logEvent "role map without mesh" else s).beginMask e

/-- During the start the keeper writes the profile's group roles at the nearer end of every edge that it reaches: P0's own, and one whose
nearer end an open edge leads to (R341). -/
def State.writeRoles (s : State) : State :=
  if !s.keeper.idore || decide (s.modState ≠ .booting) then s
  else
    let opened := (List.range 7).filter fun e => decide ((s.edge e).state = .opened)
    let near := (List.range 7).filter fun e => (edgeEnds e).1 = 0 || (routeOf opened 0 (edgeEnds e).1).isSome
    near.foldl (fun t e => t.writeRole e (BitVec.ofNat 8 (s.profile.1.getD (4 + e) 0xC0).toNat)) s

/-- Default T_v of each VC (Table 8.3). -/
def defaultLimit (vc : Nat) : Nat := (defaultProfileValues.getD (11 + vc) 64).toNat

/-- Write the registers that Table 11.3 names from the profile. Log: DEDUCED 34. -/
def State.applyProfile (s : State) (v : List W32) : State :=
  let w (k : Nat) : Nat := (v.getD k 0).toNat
  let limits : Store Nat := (List.range 8).foldl (fun m vc => if w (11 + vc) = defaultLimit vc then m else Store.put 0 m vc (w (11 + vc))) []
  let s := { s with
    host := { s.host with mode := Fin.ofNat 3 (w 2) }
    mem := { s.mem with share := min 47 (w 3), scrubShare := (List.range 6).foldl (fun m d => Store.put 4 m d (w 20)) [] }
    tel := { s.tel with interval := min 1000000 (max 100 (w 19)), nextInterval := min 1000000 (max 100 (w 19)) }
    faults := { s.faults with policy := Fin.ofNat 3 (w 21) } }
  let s := (List.range 64).foldl (fun t l => t.modLink l fun x => { x with vcLimit := limits }) s
  s.writeRoles

/-- Change the capacity table without reporting the change: what a start finds. -/
def State.modCapacity (s : State) (f : Capacity → Capacity) : State :=
  { s with faults := { s.faults with capacity := f s.faults.capacity } }


/-- Every stack is cleared or padlocked. -/
def State.stacksDone (s : State) : Bool := (List.range 12).all fun k => (s.stack k).cleared || (s.stack k).padlocked

/-- A base die is absent, with its compute dies, stacks, engines and shelf SRAM: its stacks leave the interleave set and no start waits
for them (R2, R167). -/
def State.loseDie (s : State) (d : Nat) : State :=
  if s.faults.padlocked.contains (baseChan d) then s
  else
    let s := s.padlock (baseChan d)
    let s := ((List.range 8).filter fun e => engineBase e = d).foldl
      (fun t e => (t.modSite e fun x => { x with closed := true }).engineDown e) s
    let s := (s.modStack (2 * d) fun x => { x with padlocked := true }).modStack (2 * d + 1) fun x => { x with padlocked := true }
    let s := { s with mem := { s.mem with interleave := s.mem.interleave.filter fun k => k / 2 ≠ d } }
    let s := s.modLatch d fun l => { l with running := false }
    let s := if s.keeper.idore && s.stacksDone then s.setStage 5 else s
    s.reportCapacity fun c => { c with
      wards := Store.put 24 (Store.put 24 c.wards (2 * d) 0) (2 * d + 1) 0
      pages := Store.put 770048 (Store.put 770048 c.pages (2 * d) 0) (2 * d + 1) 0
      cores := c.cores - 4 }

/-- Replay one ledger entry outside the compute dies. Log: DEDUCED 130. -/
def State.replayEntry (s : State) (e : LedgerEntry) : State :=
  let c := e.chan
  let k := chanBits c 20 4
  let en := chanBits c 21 3
  if e.action = laClose then s
  else
    let s := if chanKind c = 0x19 then s else s.padlock c
    match chanKind c with
    | 0x03 => s.modCapacity fun x => { x with wards := Store.put 24 x.wards k 0 }
    | 0x04 =>
      s.modCapacity fun c => { c with cores := c.cores - 1 }
    | 0x10 =>
      if e.action = laReplace then
        s.modEdge en fun x => x.setHeld (chanDir c) (Store.put none (x.held (chanDir c)) (chanBits c 12 8) (some (chanBits e.spare 12 8)))
      else s
    | 0x18 => s.modStack k fun x => { x with
        lanesUsed := Store.modify 0 x.lanesUsed (chanBits c 14 6) (· + 1)
        remapped := x.remapped ++ [(chanBits c 14 6, chanBits c 7 7)] }
    | 0x19 => s.modStack k fun x => { x with repaired := x.repaired ++ [(chanBits c 14 6, chanBits c 9 5, e.data.toNat)] }
    | 0x1A =>
      let page := chanBits c 0 20
      if e.action = laReplace then
        s.modStack k fun x => { x with retired := Store.put none x.retired page (some (chanBits e.spare 0 20 - 770048)) }
      else if page < 770048 then
        (s.modStack k fun x => { x with withdrawn := x.withdrawn ++ [page] }).modCapacity
          fun c => { c with pages := Store.put 770048 c.pages k (c.pageCount k - 1) }
      else s.modStack k fun x => { x with badReserve := x.badReserve ++ [page - 770048] }
    | 0x1B =>
      (s.modStack k fun x => { x with padlocked := true }).modCapacity fun c => { c with pages := Store.put 770048 c.pages k 0 }
    | 0x1C => s.modShelf en fun x => { x with
        sparesUsed := Store.modify 0 x.sparesUsed (chanBits c 15 6) (· + 1)
        replaced := x.replaced ++ [(chanBits c 15 6, chanBits c 0 15)] }
    | 0x1D => s.modShelf en fun x =>
        if e.action = laReplace then { x with blockRemap := x.blockRemap ++ [(chanBits c 0 16, chanBits e.spare 0 16)] }
        else if e.action = laWithdraw then { x with withdrawn := x.withdrawn ++ [chanBits c 0 16] }
        else x
    | 0x20 | 0x24 => s.modEngine en fun x => x.replayEntry e
    | 0x21 => s.modEngine en fun x => x.modRing (36 * chanBits c 17 4 + 2 * chanBits c 12 5) fun r => { r with state := .permanent }
    | 0x22 => s.modEngine en fun x => x.modRing (36 * chanBits c 17 4 + 2 * chanBits c 12 5 + 1) fun r => { r with state := .permanent }
    | 0x23 => s.modEngine en fun x =>
        x.modRing (36 * chanBits c 17 4 + 2 * chanBits c 12 5 + chanBits c 11 1) fun r =>
          { r with badSegments := r.badSegments ++ [chanBits c 9 2]
                   segment := (nextElement (s.cal.segmentError (ringIndex en (chanBits c 17 4) (chanBits c 12 5) (decide (chanBits c 11 1 = 1))))
                    (r.badSegments ++ [chanBits c 9 2]) r.segment).getD r.segment }
    | 0x25 => s.modEngine en fun x => { x with
        deadFibers := x.deadFibers ++ [chanBits c 17 4], f8For := if e.action = laReplace then some (chanBits c 17 4) else x.f8For }
    | 0x26 => s.modSite en fun x => { x with closed := true }
    | 0x30 => (s.modRail (chanBits c 16 8) fun r => { r with padlocked := r.padlocked ++ [chanBits c 11 5] }).railLost (chanBits c 16 8)
    | 0x31 => s.modRail (chanBits c 16 8) fun r => { r with
        badElements := r.badElements ++ [4 * chanBits c 11 5 + chanBits c 9 2]
        element := if e.action = laReplace then Store.put 0 r.element (chanBits c 11 5) (chanBits e.spare 9 2) else r.element }
    | 0x32 =>
      let key := 12 * chanBits c 19 5 + chanBits c 15 4
      let ds := Store.modify Diode.reset s.thermal.diodes key fun d => { d with padlocked := true }
      { s with thermal := { s.thermal with diodes := ds } }
    | 0x38 => s.modPart (chanBits c 23 1) fun p => { p with padlocked := true }
    | _ => s

/-- The journal that a start takes: that of the part with the higher last sequence, counted modulo 2^28 (R337, R379).
Log: DESIGN CHOICE 36. -/
def newerJournal (a b : List LedgerEntry) : List LedgerEntry :=
  match a.getLast?, b.getLast? with
  | some x, some y => if (y.seq - x.seq).toNat < 2 ^ 27 ∧ y.seq ≠ x.seq then b else a
  | none, some _ => b
  | _, none => a

/-- A block that found no free block in its start is redirected into general space at the next one, before regions exist (R377). -/
def State.redirectBlock (s : State) (e : LedgerEntry) : State :=
  let die := chanBits e.chan 21 3
  if chanKind e.chan ≠ 0x1D ∨ e.action ≠ laPadlock then s
  else
    match s.freeBlock die with
    | some b =>
      if (s.shelf die).blockRemap.length < 16 then
        (s.modShelf die fun x => { x with blockRemap := x.blockRemap ++ [(chanBits e.chan 0 16, b)] }).ledgerWrite laReplace e.chan (blockChan die b) 0
      else s
    | none => s

/-- The ledger is read into keeper memory and replayed; the other part is rewritten to match (R337). The die of a latch with fewer than
three good cores is absent (R331). -/
def State.readLedger (s : State) : State :=
  let of (p : FlashPart) : List LedgerEntry := if p.out || !p.formatted then [] else p.journal
  let j := newerJournal (of s.flash.partA) (of s.flash.partB)
  let put (p : FlashPart) : FlashPart := if p.out || !p.formatted then p else { p with journal := j }
  let s := { s with
    flash := { partA := put s.flash.partA, partB := put s.flash.partB }
    faults := { s.faults with ledger := j, nextEntry := match j.getLast? with | some e => e.seq + 1 | none => 0 } }
  let s := (openEntries j).foldl State.replayEntry s
  let s := (openEntries j).foldl State.redirectBlock s
  let s := (List.range 18).foldl State.diodeFloor s
  let s := ([1, 2, 3, 4, 5].filter fun d => decide (s.controlCores d < 3)).foldl State.loseDie s
  { s with mem := { s.mem with interleave := (List.range 12).filter fun k => !(s.stack k).padlocked } }

/-- Load the remap tables of a base die's two compute dies from the ledger (R46, R50). -/
def State.loadRemaps (s : State) (base : Nat) : State :=
  let open_ := openEntries s.faults.ledger
  [2 * base, 2 * base + 1].foldl (fun t die =>
    let t := (List.range 25).foldl (fun u pw => u.loadTumRemap open_ die pw) t
    let t := (List.range 24).foldl (fun u lw =>
      match open_.find? fun e => e.action = laReplace && decide (e.chan = wardChan die lw) with
      | some e => u.setWardRemap die lw true (chanBits e.spare 15 5)
      | none => u) t
    let t := if (List.range 24).any fun lw => t.faults.padlocked.contains (wardChan die ((t.physWard die lw).getD lw))
      then t.repackWards die else t
    (List.range 24).foldl (fun u lw =>
      match u.physWard die lw with
      | some pw =>
        if (List.range 64).any fun lt => match u.tumRemap die pw lt with
          | .phys p => u.isPadlocked (tumblerChan die pw p)
          | _ => false
        then u.repackTums die pw lw else u
      | none => u) t) s

/-- An erased part without a header is formatted from the other part (R454). -/
def State.autoFormat (s : State) (k : Nat) : State :=
  let p := s.part k
  let q := s.part (1 - k)
  if p.present && !p.padlocked && !p.formatted && p.package.isEmpty && !q.out && q.formatted then
    s.modPart k fun p => { p with
      formatted := true, slotValid := false, verified := false, profile1 := q.profile1, profile2 := q.profile2
      journal := q.journal, boot := q.boot, dump0 := .erased, dump1 := .erased }
  else s

/-- The retained region's header is good (R159, R386). -/
def State.headerGood (s : State) : Bool :=
  ((List.range 9).all fun i => (critValue (BitVec.ofNat 64 (leNat (s.bytes 12 (offRetained + 8 * i) 8)))).isSome)
    && decide (s.bytes 12 offRetained 8 = leBytes 8 (critWord 0x52544E44).toNat)

/-- The lowest-numbered erased dump slot: part and slot. -/
def State.erasedSlot (s : State) : Option (Fin 2 × Fin 2) :=
  let free (k : Nat) (d : DumpSlot) : Bool := !(s.part k).out && decide (d = .erased)
  if free 0 s.flash.partA.dump0 then some (0, 0)
  else if free 0 s.flash.partA.dump1 then some (0, 1)
  else if free 1 s.flash.partB.dump0 then some (1, 0)
  else if free 1 s.flash.partB.dump1 then some (1, 1)
  else none

/-- Each context's generation from the retained table; an absent word, or an absent header, gives 0 (R387). -/
def State.readGenerations (s : State) : State :=
  let good := s.headerGood
  (List.range 1024).foldl (fun t c =>
    let v := if good then (critValue (BitVec.ofNat 64 (leNat (s.bytes 12 (offRetained + 0x1000 + 8 * c) 8)))).getD 0 else 0
    t.modContext c fun x => { x with gen := v.setWidth 4 }) s

/-- Stage 2: Idore runs, writes every MBX_CSTAT as IDLE and its first STATUS event; held doorbells stay latched for it to take
(R349, R482). -/
def State.stage2 (s : State) : State :=
  let idle (m : Store Mailbox) (n : Nat) : Store Mailbox :=
    Store.modify Mailbox.reset m n fun b => { b with cstat := cstat .idle 0 0 0 }
  let boxes := (List.range 16).foldl idle s.keeper.mailboxes
  let s := { s with keeper := { s.keeper with idore := true, mailboxes := boxes } }
  let s := ((s.putStatus (putField (putField s.keeper.status 23 1 s.keeper.imageB.toNat) 22 1 s.keeper.trial.toNat))).setStage 2
  s.event .status 0 (leBytes 8 s.statusWord.toNat)

/-- FAULT_N after a reset caused by a FATAL record, the watchdog or escalation (R382). -/
def State.pulseAfterReset (s : State) : State :=
  let due := s.faults.resetEscalated || (match s.faults.resetCause with
    | some (.fatal _) => true | some .watchdog => true | _ => false)
  if due then s.pulseFaultN true else s

/-- The keeper copies the power stage's calibration and writes a LOG event with a serial number that is new (R453). No channel of
Table 12.1 lies in the power stage, so R376 lifts no padlock for it. Log: DESIGN CHOICE 154. -/
def State.readPs (s : State) : State :=
  let serial := Store.get 0 s.keeper.serials 1
  if Store.get 0 s.optics.ledgerSerial 2 = serial then s
  else { s with optics := { s.optics with ledgerSerial := Store.put 0 s.optics.ledgerSerial 2 serial } }.event .log 0
    (asciiBytes "power stage calibration " ++ leBytes 8 serial.toNat)

/-- What a word absent in both copies of the body store leaves (Table 14.2): a sense element padlocked, a diode or ring permanent, a
heater segment rejected, a thermal request of at least 1 on the partition's compute dies. The other quantities have default values
that the state does not show. Log: DESIGN CHOICE 153. -/
def State.calAbsent (s : State) (key : Nat) : State :=
  let s := s.count kCal 0 1 1
  let i := key % 65536
  let ring (k : Nat) : Nat × Nat × Nat × Bool := (k / 1024, k % 1024 / 64, k % 64 / 2, decide (k % 2 = 1))
  match key / 65536 with
  | 2 => s.declareWith (senseChan (i / 128) (i % 128 / 4) (i % 4)) .critAbsent 0 0
  | 5 => s.declareWith (diodeChan (i / 12) (i % 12)) .critAbsent 0 0
  | 6 => (s.modGovernor (2 * i) fun g => { g with calFloor := 1 }).modGovernor (2 * i + 1) fun g => { g with calFloor := 1 }
  | 7 =>
    let r := ring (i / 4)
    let k := ringKey r.2.1 r.2.2.1 r.2.2.2
    let q := (s.engine r.1).ring k
    let bad := q.badSegments ++ [i % 4]
    match nextElement (s.cal.segmentError (i / 4)) bad q.segment with
    | some g => s.modEngine r.1 fun x => x.modRing k fun o => { o with badSegments := bad, segment := g }
    | none => (s.modEngine r.1 fun x => x.modRing k fun o => { o with badSegments := bad }).declareWith
        (ringChan r.1 r.2.1 r.2.2.1 r.2.2.2) .critAbsent 0 0
  | 8 =>
    let r := ring i
    s.declareWith (ringChan r.1 r.2.1 r.2.2.1 r.2.2.2) .critAbsent 0 0
  | _ => s

/-- Stage 3 (Table 11.4): calibration, boot count, profile, RWL registers, ledger, generations, the dump copy. -/
def State.stage3 (s : State) : State :=
  let noRecord := (newerRecord s.flash.partA.record s.flash.partB.record).isNone
  let r := s.bootRecord
  let s := s.putBootRecord { r with count := r.count + 1 }
  let s := { s with keeper := { s.keeper with bootCount := r.count + 1 } }
  let s := if noRecord then s.logEvent "boot records absent" else s
  let s := (s.autoFormat 0).autoFormat 1
  let p := s.profile
  let s := if p.2 then s else s.logEvent "profile absent"
  let s := s.applyProfile p.1
  let words := p.1.map critWord
  let digest := Config.sha384 ((words.map fun w => leBytes 8 w.toNat).flatten)
  let s := { s with sec := { s.sec with measures := Store.put 0 s.sec.measures 6 digest } }
  let s := { s with cal := s.cal.load (Store.get 0 s.keeper.serials 0) }.chooseElements.readPs
  let s := (s.readLedger.loadRemaps 0).readGenerations
  let s := s.cal.absent.foldl (fun t k => t.calAbsent k) s
  let s := if s.sec.uds.isNone then s.logEvent "uds absent" else s
  let s := if s.power.eeprom.isEmpty then s
    else { s with power := { s.power with eeprom := [] } }.logEvent "power stage stop"
  let s := { s with keeper := { s.keeper with
    locked := true, dumpCopying := if s.headerGood then s.erasedSlot else none } }
  let s := if s.headerGood then (if s.erasedSlot.isNone then s.logEvent "dump lost" else s) else s.logEvent "retained region absent"
  let s := (s.modBase 0 fun b => { b with locked := true }).setStage 3
  (s.pulseAfterReset.modPort .b fun q =>
    { q with active := decide (s.host.mode = 2), released := s.host.mode ≠ 0 && !q.perst }).adjustReady

/-- FAILED: the boot ROM serves recovery only and holds FAULT_N low (R336, R382). -/
def State.bootFail (s : State) : State :=
  let s := s.setModState .failed
  { s with faults := { s.faults with faultN := { s.faults.faultN with held := true } } }

/-- The boot ROM's banner, once in a start: its version and the time that P0's PLL took, which the manual does not give, and whether
each of P1 to P5 has locked (R441). Log: DESIGN CHOICE 125. -/
def State.banner (s : State) : State :=
  if s.console.banner then s
  else
    let known : List Int := [1, 2, 3, 4, 5].map fun d => if (s.base d).pllLocked then 1 else 0
    let free : List Int := [Int.ofNat s.fresh.toNat, Int.ofNat s.spend.fresh.toNat]
    { s.spend.spend with console := { s.console with banner := true } }.emit (.line "banner" (free ++ known))

/-- BOOT_IMAGE_VERIFIED: the verification of the chosen package ends (R336, R428): the boot ROM checks the stored unlock
token, derives the keys and starts Idore, which runs stages 2 and 3; or it enters FAILED (R331, R336). -/
def execBootImageVerified (s : State) : Host.Outcome State Fault Refusal :=
  .next <| if !s.keeper.rom || s.keeper.idore || decide (s.modState ≠ .booting) then s
    else
      let s := s.banner
      let cores := ((openEntries (newerJournal s.flash.partA.journal s.flash.partB.journal)).filter fun e =>
        chanKind e.chan = 0x08 && decide (chanBits e.chan 21 3 = 0)).length
      match s.chooseImage with
      | none => s.bootFail
      | some b =>
        if 2 ≤ cores then s.bootFail
        else
          let pkg := (s.part (imagePart b)).package
          let scopes := s.tokenScopes pkg (s.bootRecord.count + 1)
          let s := { s with
            keeper := { s.keeper with imageB := b, trial := s.keeper.trial && decide (b = s.keeper.imageB) }
            sec := { s.sec with scopes := scopes, token := none } }
          ((s.freshNonce.deriveKeys pkg).stage2).stage3

/-! ### Stages 4 to 6 -/

/-- LATCH_IMAGE_DELIVERY: the latch ROM recomputes the image's digest and runs it only on a match (R428); its remap tables are
then loaded (R46). -/
def execLatchImageDelivery (die : BaseDie) (image : List Byte) (digest : BitVec 384) (s : State) :
    Host.Outcome State Fault Refusal :=
  .next <| if s.keeper.idore && decide (die ≠ 0) && (s.base die.val).pllLocked && decide (3 ≤ s.controlCores die.val)
      && decide (Config.sha384 image = digest) then
      let s := s.modLatch die.val fun _ => { running := true, capsHeld := false, loaded := true }
      ((s.loadRemaps die.val).modBase die.val fun b => { b with locked := true }).setStage 4
    else s

/-- The base die of a stack serves it and runs: the position that its straps gave enables the PHY, and its clock is locked (R13, R15,
R192). -/
def State.stackOn (s : State) (k : Nat) : Bool := s.clocked (asBase (k / 2)) && (s.hingeOf (k / 2)).stackOn k

/-- STACK_TRAINING_COMPLETE: the stack is trained, its soft row repairs reapplied, and its clear begins; on failure it is
padlocked as a whole (R147, R156). The eye margins that training finds are free values. Log: DESIGN CHOICE 173. -/
def execStackTrainingComplete (stack : StackIx) (failedStep : Option (Fin 6)) (s : State) :
    Host.Outcome State Fault Refusal :=
  .next <| if (s.stack stack.val).padlocked || (s.stack stack.val).trained || !s.stackOn stack.val then s
    else
      let s := (s.modStack stack.val fun x => { x with eyeMargin := s.fresh }).spend
      match failedStep with
      | none => s.modStack stack.val fun x => { x with trained := true }
      | some st =>
        let s := s.modStack stack.val fun x => { x with failedStep := some st }
        let s := s.declareWith (stackChan stack.val) .trainFail (BitVec.ofNat 64 (st.val + 1)) 0
        let s := { s with mem := { s.mem with interleave := s.mem.interleave.filter fun k => k ≠ stack.val } }
        if s.stacksDone then s.setStage 5 else s

/-- A home with every line zero and no poison (R161). -/
def State.clearHome (s : State) (home : Nat) (keep : Nat → Bool) : State :=
  { s with mem := { s.mem with
    cells := s.mem.cells.filter fun c => c.1 / 0x10000000000 ≠ home || keep c.1
    poison := s.mem.poison.filter fun c => 64 * c.1 / 0x10000000000 ≠ home || keep (64 * c.1) } }

/-- HBM_CLEAR_COMPLETE: every line of the stack is zero with a valid code (R161). -/
def execHbmClearComplete (stack : StackIx) (s : State) : Host.Outcome State Fault Refusal :=
  .next <| if (s.stack stack.val).trained then
      let s := (s.clearHome stack.val fun _ => false).modStack stack.val fun x => { x with cleared := true }
      if s.stacksDone then s.setStage 5 else s
    else s

/-- Bytes of the sequencer capture and Idore's crash area, which no rule lays out, as free values. Log: DESIGN CHOICE 29. -/
def freeBytes (ix n : Nat) : List Byte := (List.range n).map fun i => (Config.freeValue (ix + i)).setWidth 8

/-- The dump copy: the used length of the retained region, the sequencer capture and the crash area as free values (R338,
R386). Log: DESIGN CHOICE 29. -/
def State.dumpData (s : State) : List Byte :=
  let used := ((critValue (BitVec.ofNat 64 (leNat (s.bytes 12 (offRetained + 16) 8)))).getD 0).toNat
  s.bytes 12 offRetained (min used 0x44000) ++ freeBytes s.freeIx (min used 0x1000000 - 0x44000)

/-- Write held event slots to the ring, in order (R482). -/
def State.flushHeld (s : State) : State :=
  let slots := s.keeper.held
  let s := { s with keeper := { s.keeper with held := [] } }
  slots.foldl (fun t w => (t.ringRecord (leBytes 64 w.toNat)).1) s

/-- The generation of a context in the retained table (R387). -/
def State.writeGeneration (s : State) (c : Nat) : State :=
  if s.keeper.shelfCleared then
    s.homeStore (baseChan 0) 0 (offRetained + 0x1000 + 8 * c) (leBytes 8 (critWord ((s.context c).gen.setWidth 32)).toNat)
  else s

/-- Stage 6: shelf SRAM is cleared except the retained region, whose header, generations and log are written afresh; the
ledger mirrors and the rings are set up (R161, R387, Table 11.4). Log: DEDUCED 30; DESIGN CHOICE 26. -/
def State.stage6 (s : State) : State :=
  let s := (List.range 6).foldl (fun t d => t.clearHome (12 + d) fun k => d = 0 && retainedCell k) s
  let s := { s with keeper := { s.keeper with shelfCleared := true, dumpCopying := none, eventRing := true } }
  let s := s.writeHeader 0 s.keeper.bootCount.toNat
    (match s.faults.resetCause with | some c => resetCode c | none => 0) s.faults.resetEscalated
    (s.faults.resetMissed.map unitBit).sum
  let s := (List.range 1024).foldl State.writeGeneration s
  let s := s.putBytes 12 (offRetained + 0x4000) (List.replicate 0x40000 0)
  let s := s.faults.log.foldl State.logWrite s
  let s := s.faults.ledger.foldl (fun t e =>
    t.shelfStore (chanOwner e.chan) (0x2000000 + 32 * (e.seq.toNat % 32768)) e.bytes) s
  s.writeCapacity.flushHeld.setStage 6

/-- DUMP_COPY_COMPLETE: the copy of the retained region ends, if one was made, and shelf SRAM is cleared (R338, R387).
Log: DEDUCED 30. -/
def execDumpCopyComplete (s : State) : Host.Outcome State Fault Refusal :=
  .next <| if !s.keeper.idore || s.keeper.shelfCleared then s
    else
      let s := match s.keeper.dumpCopying with
        | some (p, k) =>
          let d := DumpSlot.full s.dumpData
          { s.modPart p.val fun x => if k = 0 then { x with dump0 := d } else { x with dump1 := d } with
            freeIx := s.freeIx + 0x1000000 }
        | none => s
      s.stage6

/-! ### Ready -/

/-- Width of each link direction as the module reports it. -/
def Link.width (l : Link) (rx : Bool) : Nat :=
  if l.state = .active then (setBits (if rx then l.rxWidth else l.txWidth)).length else 0

/-- Lane counts of every link as found. -/
def State.foundLanes (s : State) : Store Nat :=
  (List.range 64).foldl (fun m l =>
    Store.put 16 (Store.put 16 m (2 * l) ((s.link l).width false)) (2 * l + 1) ((s.link l).width true)) []

/-- The committed image: its trial flag is cleared and the svn counter raised to its fw_svn (R336, R429). -/
def State.commitTrial (s : State) : State :=
  if s.keeper.trial then
    let r := s.bootRecord
    let s := s.putBootRecord { r with trial := false, trialStarts := 0 }
    let svn := max s.sec.svn (min 64 (pkgSvn (s.part (imagePart s.keeper.imageB)).package))
    ({ s with keeper := { s.keeper with trial := false }, sec := { s.sec with svn := svn } }).statusBit 22 false
  else s

/-- Doorbells held before ready reach their rings (R24). -/
def State.takeHeldTails (s : State) : State :=
  let take (p : Nat × Ring) : Nat × Ring :=
    match p.2.heldTail with
    | some t => (p.1, { p.2 with heldTail := none, tail := t })
    | none => p
  { s with ops := { s.ops with rings := s.ops.rings.map take } }

/-- READY_ENTRY: every unit has reported, so the status word enters READY or DEGRADED, vector 68 is raised and MODULE_READY
is sent (R299, R342). -/
def execReadyEntry (s : State) : Host.Outcome State Fault Refusal :=
  .next <| if s.keeper.idore && s.keeper.shelfCleared && s.stacksDone && decide (s.modState = .booting) then
      let s := s.reportCapacity fun c => { c with lanes := s.foundLanes }
      let s := (s.setStage 9).commitTrial
      let s := s.setModState (if s.short then .degraded else .ready)
      (s.takeHeldTails).notice (.moduleReady s.keeper.bootCount)
    else s

end Sys2Proof.Machine
end

