-- ==== Sys2Proof/Machine/Fabric.lean ====
section
/-! DEFINITION. The package fabric (chapter 6): positions and hinge maps, edge training, masks, plans and retrains, flits and
their retries, isolation tests, and the clock tree. -/

namespace Sys2Proof.Machine

/-! ### Ends of edges -/

/-- The telemetry source of an edge's lower or higher end: 4 × base die + logical port (Table 10.9). -/
def edgeSource (e : Nat) (low : Bool) : Nat :=
  let d := if low then (edgeEnds e).1 else (edgeEnds e).2
  let o := if low then (edgeEnds e).2 else (edgeEnds e).1
  4 * d + (match ports.find? fun p => neighbour d p = o with | some p => portIx p | none => 0)

/-- Count a rejected sideband message at the end that received it. -/
def State.rejectSideband (s : State) (e : Nat) (low : Bool) : State := s.count 3 (edgeSource e low) 2 1

/-! ### Absent dies and routes -/

/-- An edge within a row, as opposed to one between the rows. -/
def rowEdge (e : Nat) : Bool := decide (e < 4)

/-- Edges crossed from P0 with every edge usable (Table 1.2). -/
def dieDistance (d : Nat) : Nat := if d < 3 then d else d - 2

/-- The farther of two dies from P0, the higher index on a tie. -/
def farther (a b : Nat) : Nat :=
  if dieDistance a < dieDistance b then b else if dieDistance b < dieDistance a then a else max a b

/-- Once every edge is open or closed, the keeper loads the route tables, fixed until the next reset; an unreachable die is
padlocked (R176). Log: DESIGN CHOICE 148. -/
def State.settleRoutes (s : State) : State :=
  let st (e : Nat) : EdgeState := (s.edge e).state
  if s.d2d.routes.isSome || !((List.range 7).all fun e => st e = .opened || decide (st e = .closed)) then s
  else
    let usable := (List.range 7).filter fun e => st e = .opened
    let s := { s with d2d := { s.d2d with routes := some usable, table := routeTables usable } }
    let lone := (List.range 6).filter fun d => d ≠ 0 && !(usable.any fun e => (edgeEnds e).1 = d || decide ((edgeEnds e).2 = d))
    let s := lone.foldl State.loseDie s
    let live := (List.range 6).filter fun d => !s.faults.padlocked.contains (baseChan d)
    let pairs := (live.map fun a => (live.filter fun b => a < b && (routeOf usable a b).isNone).map fun b => farther a b).flatten
    pairs.foldl State.loseDie s

/-- Close an edge: what its ends were negotiating is over. -/
def State.closeEdge (s : State) (e : Nat) : State :=
  (s.modEdge e fun x => { x with state := .closed, retraining := false, fallback := false }).settleRoutes

/-! ### Positions and clocks -/

/-- The clock pair on a die's port that brings its neighbour's clock (R191). -/
def clockPairOn (die : Nat) (p : Port4) : Option Chan :=
  (portEdge die p).map fun e => clockChan e (if neighbour die p < die then .up else .down)

/-- The journal marks the clock pair on a die's port permanent (R193). -/
def State.clockBad (s : State) (die : Nat) (p : Port4) : Bool :=
  match clockPairOn die p with
  | some c => (newerJournal s.flash.partA.journal s.flash.partB.journal).any fun e => e.chan = c
  | none => true

/-- The clock input that a die takes: that of the tree, or where its pair is marked the first neighbour in logical order whose clock is
locked and whose pair is not marked (R193). -/
def State.clockInput (s : State) (die : Nat) : Option Port4 :=
  match treeInput die with
  | some p =>
    if s.clockBad die p then ports.find? fun q => !s.clockBad die q && (s.base (neighbour die q)).pllLocked else some p
  | none => none

/-- The ledger leaves a latch fewer than three good cores, so that its die is absent in this start (R331). -/
def State.latchShort (s : State) (die : Nat) : Bool :=
  die ≠ 0 && decide (2 ≤ ((openEntries (newerJournal s.flash.partA.journal s.flash.partB.journal)).filter fun e =>
    chanKind e.chan = 0x08 && decide (chanBits e.chan 21 3 = die)).length)

/-- Position that a die announces: 7 where its straps read 6 or 7, or have not been sampled, or where its latch cannot run (R167,
R331). Its clock locks all the same. -/
def State.announced (s : State) (die : Nat) : Nat :=
  match (s.base die).position with
  | some p => if p.val < 6 && !s.latchShort die then p.val else 7
  | none => 7

/-- A die announces its position on the sideband of each of its ports, with the neighbour that its hinge map expects there (R168, Table
6.7). Log: DEDUCED 127. -/
def State.announce (s : State) (die : BaseDie) : State :=
  s.emits ((ports.filter fun p => neighbour die.val p ≠ 7).map fun p =>
    .pos die p (critWord (BitVec.ofNat 32 (s.announced die.val))) (critWord (BitVec.ofNat 32 ((s.hingeOf die.val).nbr.getD (portIx p) 7))))

/-- TIME from a die's clock parent: the parent's copy of the counter, corrected by the measured delay of the sideband (R194).
Log: DESIGN CHOICE 170. -/
def State.timeFrom (s : State) (die : Nat) (p : Port4) : W64 :=
  let parent := neighbour die p
  s.stamp parent + Config.sidebandDelay ((edgeBetween parent die).getD 0)

/-- PLL_LOCK: once its parent's clock is locked, the die's blocks leave reset, its sidebands announce its position and its parent sends
TIME; at P0 the boot ROM and the timestamp counter start (R168, R192–R194, R322, R340). A die whose straps give another
place than its own announces what they give and does not lock, since the manual says no more of it than that its edges stay closed.
Log: DESIGN CHOICE 178. -/
def execPllLock (die : BaseDie) (s : State) : Host.Outcome State Fault Refusal :=
  let b := s.base die.val
  let clock := if die = 0 then none else s.clockInput die.val
  .next <| if s.keeper.started && !b.pllLocked && b.position.isSome
        && (die = 0 || clock.any fun p => (s.base (neighbour die.val p)).pllLocked) then
      let s := s.announce die
      if b.position = some (Fin.ofNat 8 die.val) then
        let s := s.modBase die.val fun b => { b with pllLocked := true, clockIn := clock }
        match clock with
        | none => { s with tel := { s.tel with timestamp := 0 } }.startRom
        | some p => s.emit (.time die (s.timeFrom die.val p))
      else s
    else s

/-- TIME_MESSAGE: the die aligns its copy of the timestamp counter; a message whose halves disagree is rejected and counted (R186,
R194). -/
def execTimeMessage (die : BaseDie) (time : W64) (ok : Bool) (s : State) : Host.Outcome State Fault Refusal :=
  .next <| if !ok then
      match (s.base die.val).clockIn.or (treeInput die.val) with
      | some p => s.count 3 (4 * die.val + portIx p) 2 1
      | none => s
    else if (s.base die.val).pllLocked then s.modBase die.val fun b => { b with timeSkew := time - s.tel.timestamp }
    else s

/-- A POS at one end of an edge: the position that it announces is the one that the end's hinge map names, and the position that it
expects is the end's own (R168). -/
def State.posAgrees (s : State) (die : Nat) (port : Port4) (v expects : Nat) : Bool :=
  v = (s.hingeOf die).nbr.getD (portIx port) 7 && decide (v < 6) && decide (expects = s.announced die)

/-- POS_MESSAGE: the receiving end compares the announced position with its hinge map; on a mismatch both ends, each as its POS arrives,
leave the edge closed and record a fault whose detail holds the end's own position in [63:32] and the announced one in [31:0]
(R168, R186). The sidebands of a die that does not lock run on. Log: DEDUCED 127; DESIGN CHOICE 179. -/
def execPosMessage (die : BaseDie) (port : Port4) (pos expects : W64) (s : State) : Host.Outcome State Fault Refusal :=
  .next <| match portEdge die.val port with
    | none => s
    | some e =>
      let low := decide ((edgeEnds e).1 = die.val)
      let x := s.edge e
      match critValue pos, critValue expects with
      | some v, some w =>
        if !s.clocked die && decide (s.announced die.val = die.val) then s
        else if x.state ≠ .sideband && (decide (x.state ≠ .closed) || (if low then x.seenLow else x.seenHigh)) then s
        else
          let s := s.modEdge e fun x => if low then { x with seenLow := true } else { x with seenHigh := true }
          if s.posAgrees die.val port v.toNat w.toNat then
            s.modEdge e fun x =>
              let x := if low then { x with posLow := true } else { x with posHigh := true }
              { x with state := if x.posLow && x.posHigh && decide (x.state = .sideband) then .testing else x.state }
          else
            (s.raise die { cause := .position, suspect := baseChan (neighbour die.val port), reporter := baseChan die.val
                           detail := BitVec.ofNat 64 (s.announced die.val * 0x100000000 + v.toNat) }).closeEdge e
      | _, _ => s.rejectSideband e low

/-- CLOCK_INPUT_LOSS: the die and its descendants stop; P0 records the fault, whose class FATAL resets the module, and the ledger marks
the clock pair permanent (R193). -/
def execClockInputLoss (die : BaseDie) (s : State) : Host.Outcome State Fault Refusal :=
  .next <| if die = 0 || !(s.base die.val).pllLocked then s
    else
      let kids (d : Nat) : List Nat := (List.range 6).filter fun k =>
        k ≠ 0 && decide (((s.base k).clockIn.map fun p => neighbour k p) = some d)
      let down := die.val :: (kids die.val ++ ((kids die.val).map kids).flatten)
      let s := down.foldl (fun t d => (t.modBase d fun b => { b with pllLocked := false }).modLatch d fun l => { l with running := false }) s
      let s := s.modBase die.val fun b => { b with clockLosses := b.clockLosses + 1 }
      let c := ((s.base die.val).clockIn.bind fun p => clockPairOn die.val p).getD (baseChan die.val)
      ((s.raise 0 { cause := .clockLoss, suspect := c, reporter := baseChan die.val }).padlock c).ledgerWrite laPadlock c noChan 0

/-! ### Masks and plans -/

/-- Width codes of PLAN: 0 off, 1 four lanes, 2 eight, 3 sixteen. Table 6.7 gives two bits and no codes. Log: DESIGN CHOICE 20. -/
def widthCode (w : Nat) : Nat := if w = 16 then 3 else if w = 8 then 2 else if w = 4 then 1 else 0

/-- The lane assignment as bytes: the physical lane of each logical lane, both directions (log entry 20). Log: DESIGN CHOICE 20. -/
def assignment (up down : Plan) : Nat :=
  let one (p : Plan) : List Byte := (List.range 128).map fun l => BitVec.ofNat 8 ((Store.get none p.spares l).getD l)
  leNat (one up ++ one down)

/-- The PLAN that an end sends. Log: DESIGN CHOICE 20. -/
def State.planMsg (s : State) (e : Nat) : PlanMsg :=
  let up := s.newPlan e .up
  let down := s.newPlan e .down
  { widthsUp := up.widths.map widthCode, widthsDown := down.widths.map widthCode
    digest := crc32c 2048 (assignment up down), roleMap := (s.edge e).roleLow, round := (s.edge e).round }

/-- A fresh round. -/
def State.nextRound (s : State) (e : Nat) : State := (s.modEdge e fun x => { x.clearRound with round := x.round + 1 }).sendMasks e

/-- A PLAN as a line of the log: round, widths of both directions, digest and role map. -/
def planText (p : PlanMsg) : String :=
  let ws := (p.widthsUp ++ p.widthsDown).foldl (fun a w => 4 * a + w) 0
  "plan " ++ hexDigits 2 p.round ++ " " ++ hexDigits 8 ws ++ " " ++ hexDigits 8 p.digest.toNat ++ " " ++ hexDigits 2 p.roleMap.toNat

/-- Name of one end of an edge in the log. -/
def endText (e : Nat) (low : Bool) : String := "edge " ++ hexDigits 1 e ++ (if low then " low " else " high ")

/-- Both ends log an edge and the PLANs of its rounds (R188). -/
def State.logFallback (s : State) (e : Nat) (plans : List PlanMsg) : State :=
  [true, false].foldl (fun t low => plans.foldl (fun u p => u.logEvent (endText e low ++ planText p)) (t.logEvent (endText e low ++ "fallback"))) s

/-- A round disagrees; after three both ends log the edge and the rounds' PLANs, and the narrowest-width fallback begins (R187, R188). -/
def State.roundDisagrees (s : State) (e : Nat) : State :=
  let x := s.edge e
  if !x.retraining then s
  else
    let log := x.widthLog ++ x.planLow.toList ++ x.planHigh.toList
    let s := s.modEdge e fun x => { x with disagreed := x.disagreed + 1, widthLog := log }
    if (s.edge e).disagreed < 3 then s.nextRound e
    else
      (s.modEdge e fun x => { x with fallback := true, retraining := false, outcome := .fallback, quarters := 0, tested := 0, qtestLow := false,
                                     qtestHigh := false }).logFallback e log

/-- A retrain starts; its masks wait for a group's isolation test (R187, R189, Table 6.8a). -/
def State.startRetrain (s : State) (e : Nat) : State := (s.modEdge e Edge.beginRetrain).sendMasks e

/-- EDGE_PRBS_COMPLETE: masks are formed from the lanes that passed, with ledger padlocks, and MASK and PLAN are exchanged
(Table 6.6). -/
def execEdgePrbsComplete (edge : EdgeIx) (failUp failDown : BitVec 136) (s : State) : Host.Outcome State Fault Refusal :=
  let e := edge.val
  .next <| if (s.edge e).state = .testing && s.clocked (asBase (edgeEnds e).1) && s.clocked (asBase (edgeEnds e).2) then
      let s := s.modEdge e fun x => { x with
        state := .masking, txUp := BitVec.allOnes 136, txDown := BitVec.allOnes 136, rxUp := ~~~failUp, rxDown := ~~~failDown }
      s.beginMask e
    else s

/-- EDGE_OPEN_TIMEOUT: an edge not open by 250 ms is left closed, and each of its ends reports it (R181). -/
def execEdgeOpenTimeout (edge : EdgeIx) (s : State) : Host.Outcome State Fault Refusal :=
  .next <| if (s.edge edge.val).state = .opened || decide ((s.edge edge.val).state = .closed) then s
    else ((s.closeEdge edge.val).logEvent (endText edge.val true ++ "closed")).logEvent (endText edge.val false ++ "closed")

/-- MASK_MESSAGE: the end takes the masks, computes the plan and sends PLAN; a rejected message makes the round disagree
(R186, R187). -/
def execMaskMessage (edge : EdgeIx) (fromLow : Bool) (tx rx : BitVec 136) (round : Nat) (ok : Bool) (s : State) :
    Host.Outcome State Fault Refusal :=
  let e := edge.val
  .next <| if !ok then (s.rejectSideband e (!fromLow)).roundDisagrees e
    else if !(s.edge e).retraining then s
    else if round ≠ (s.edge e).round then s
    else
      let s := s.modEdge e fun x =>
        if fromLow then { x with txUp := tx, rxDown := rx, maskLow := true } else { x with txDown := tx, rxUp := rx, maskHigh := true }
      s.emit (.plan edge (!fromLow) (s.planMsg e))

/-- The leader's APPLY names the sequence at which each group switches: the oldest unacknowledged one (R187). -/
def Edge.switchSeqs (x : Edge) (d : Dir) : List (BitVec 10) :=
  (List.range 8).map fun g =>
    let q := x.groupState d g
    q.nextSeq - BitVec.ofNat 10 q.replay.length

/-- PLAN_MESSAGE: the ends compare plans; on equal plans the leader sends APPLY, otherwise the round disagrees. The end farther
from P0 takes the role map that PLAN carries (R172, R187, R189). Log: DEDUCED 129. -/
def execPlanMessage (edge : EdgeIx) (fromLow : Bool) (plan : PlanMsg) (ok : Bool) (s : State) :
    Host.Outcome State Fault Refusal :=
  let e := edge.val
  .next <| if !ok then (s.rejectSideband e (!fromLow)).roundDisagrees e
    else if !(s.edge e).retraining then s
    else if plan.round ≠ (s.edge e).round then s
    else
      let s := s.modEdge e fun x => if fromLow then { x with planLow := some plan } else { x with planHigh := some plan }
      let s := if fromLow then s.modEdge e fun x =>
          if x.roleHighLocked then x else { x with roleHigh := plan.roleMap, roleHighLocked := true }
        else s
      let own := s.planMsg e
      if plan.widthsUp = own.widthsUp && plan.widthsDown = own.widthsDown && plan.digest = own.digest then
        if fromLow then s
        else s.emit (.apply edge true ((s.edge e).switchSeqs .up) ((s.edge e).switchSeqs .down))
      else s.roundDisagrees e

/-- An edge with every group off in a direction while the module runs holds its traffic and costs a whole-module reset
(R176). The record names as suspect group 0 of the upward direction, since Table 12.3 gives an edge no channel of its own.
Log: DESIGN CHOICE 171. -/
def State.checkEdge (s : State) (e : Nat) : State :=
  let x := s.edge e
  let off (p : Plan) (d : Dir) : Bool := (List.range 8).all fun g => p.widths.getD g 0 = 0 || (x.groupState d g).off
  if x.state = .opened && (off x.up .up || off x.down .down) then
    s.raise 0 { cause := .edgeLost, suspect := groupChan e .up 0, reporter := baseChan (edgeEnds e).1 }
  else s

/-- A group's lanes are the same in two plans. -/
def sameLanes (old new : Plan) (g : Nat) : Bool :=
  old.widths.getD g 0 = new.widths.getD g 0 && old.sets.getD g 0 = new.sets.getD g 0
    && (List.range 16).all fun i => Store.get none old.spares (16 * g + i) = Store.get none new.spares (16 * g + i)

/-- A direction switches to a plan: its groups open with sequences at 0, or keep theirs; a group whose lanes changed goes on from the
sequence named, and one without lanes is off (R187, Table 6.6). -/
def switchGroups (x : Edge) (d : Dir) (p : Plan) (opening : Bool) (seqs : List (BitVec 10)) : Edge :=
  let old := x.plan d
  ((List.range 8).foldl (fun y g =>
    let off := decide (p.widths.getD g 0 = 0)
    if opening then y.setGroup d g { GroupState.reset with off }
    else y.modGroup d g fun q =>
      let q := { q with held := false, off := q.off || off }
      if sameLanes old p g then q
      else match seqs[g]? with
        | some n => { q with replay := ackReplay q.replay (n - 1) }
        | none => q) x).setPlan d p

/-- Flits that a switch replays: those of groups whose lanes changed. -/
def replayOuts (e : Nat) (x : Edge) (d : Dir) (old : Plan) : List Out :=
  ((List.range 8).map fun g =>
    if sameLanes old (x.plan d) g || !x.usable d g then []
    else (x.groupState d g).replay.map fun f => Out.flit (asEdge e) d (Fin.ofNat 8 g) f.2).flatten

/-- Groups take the presets of the band in force, one at a time; a group that has stopped or waits for its plan does not, and while a
retrain runs none does (R189, R190). -/
def Edge.takePresets (x : Edge) : Edge :=
  (List.range 8).foldl (fun y g =>
    if y.retraining || (y.groupState .up g).stopped || (y.groupState .up g).held || (y.groupState .down g).held then y
    else { y with presets := Store.put 0 y.presets g y.eqBand }) x

/-- APPLY_MESSAGE: both ends switch to the new plan at the named sequences, groups whose lanes changed replay their unacknowledged flits,
and the others do not pause; the first APPLY of training opens the edge (R187, Table 6.6). A message whose halves disagree is rejected and
counted at the follower, to which the leader sends it (R186). Log: DEDUCED 129. -/
def execApplyMessage (edge : EdgeIx) (seqUp seqDown : List (BitVec 10)) (ok : Bool) (s : State) : Host.Outcome State Fault Refusal :=
  let e := edge.val
  .next <| if !ok then s.rejectSideband e false
    else if !(s.edge e).retraining || decide ((s.edge e).state = .closed) then s
    else
      let x := s.edge e
      let up := s.newPlan e .up
      let down := s.newPlan e .down
      let opening := decide (x.state ≠ .opened)
      let s := s.modEdge e fun y =>
        let y := switchGroups (switchGroups y .up up opening seqUp) .down down opening seqDown
        { y with retraining := false, outcome := .applied, state := .opened, widthLog := y.widthLog ++ y.planLow.toList ++ y.planHigh.toList
                 reqLow := false, reqHigh := false }.takePresets
      let s := if opening then s else s.emits (replayOuts e (s.edge e) .up x.up ++ replayOuts e (s.edge e) .down x.down)
      ((s.emit (.apply edge false seqUp seqDown)).rehomeAll e).writeRoles.settleRoutes.checkEdge e

/-- A request that crosses on the sideband joins the retrain: its end has not asked yet, and no MASK of the first round has arrived
(R189). -/
def Edge.crosses (x : Edge) (fromLow : Bool) : Bool :=
  decide (x.round = 1) && !x.maskLow && !x.maskHigh && !(if fromLow then x.reqLow else x.reqHigh)

/-- RETRAIN_REQ_MESSAGE: a retrain starts, requests that cross making one; a later request ends the round in progress and starts a fresh
one, and after eight such restarts a further one counts as disagreeing (R189). -/
def execRetrainReqMessage (edge : EdgeIx) (fromLow : Bool) (_groups : Byte) (_cause : Cause) (ok : Bool) (s : State) :
    Host.Outcome State Fault Refusal :=
  let e := edge.val
  let asks (t : State) : State := t.modEdge e fun x => if fromLow then { x with reqLow := true } else { x with reqHigh := true }
  .next <| if !ok then s.rejectSideband e (!fromLow)
    else if (s.edge e).fallback || decide ((s.edge e).state ≠ .opened) then s
    else if !(s.edge e).retraining then asks (s.startRetrain e)
    else if (s.edge e).crosses fromLow then asks s
    else if (s.edge e).restarts < 8 then (s.modEdge e fun x => { x with restarts := x.restarts + 1 }).nextRound e
    else s.roundDisagrees e

/-- SIDEBAND_ROUND_TIMEOUT: MASK or PLAN is missing 100 µs into the round, which begins once its masks are sent (R187). -/
def execSidebandRoundTimeout (edge : EdgeIx) (s : State) : Host.Outcome State Fault Refusal :=
  .next (if (s.edge edge.val).asked then s.roundDisagrees edge.val else s)

/-! ### The narrowest common width -/

/-- QUARTER_TEST_COMPLETE: the 1 ms test of a quarter ends; once every quarter of its direction has been tested, the receiver reports the
results in QTEST, bit 4 × group + quarter set for a pass, one direction in a message (R188). Table 6.7 names what QTEST carries and no
bit order. Log: DESIGN CHOICE 20. -/
def execQuarterTestComplete (edge : EdgeIx) (dir : Dir) (group : Fin 8) (quarter : Fin 4) (errors : Nat) (s : State) :
    Host.Outcome State Fault Refusal :=
  let e := edge.val
  .next <| if !(s.edge e).fallback then s
    else
      let lo := if dir = .up then 0 else 32
      let bit := lo + 4 * group.val + quarter.val
      let s := s.modEdge e fun x => { x with quarters := putBit x.quarters bit (errors = 0), tested := putBit x.tested bit true }
      if field (s.edge e).tested lo 32 = 0xFFFFFFFF then
        s.emit (.qtest edge (decide (dir = .down)) (BitVec.ofNat 32 (field (s.edge e).quarters lo 32)))
      else s

/-- Width 4 on the first quarter that passed, or off (R188). -/
def quarterPlan (p : Plan) (pass : BitVec 32) (ok : Bool) : Plan :=
  let q (g : Nat) : Option Nat := if ok then [0, 1, 2, 3].find? fun i => pass.getLsbD (4 * g + i) else none
  { p with widths := (List.range 8).map fun g => if (q g).isSome then 4 else 0
           sets := (List.range 8).map fun g => 4 * (q g).getD 0, spares := [] }

/-- QTEST_MESSAGE: each group of the direction runs at width 4 on its first passing quarter or turns off; a rejected message is counted
(R186, R188). -/
def execQtestMessage (edge : EdgeIx) (fromLow : Bool) (pass : BitVec 32) (ok : Bool) (s : State) :
    Host.Outcome State Fault Refusal :=
  let e := edge.val
  let s := if ok then s else s.rejectSideband e (!fromLow)
  .next <| if !(s.edge e).fallback || (if fromLow then (s.edge e).qtestLow else (s.edge e).qtestHigh) then s
    else
      let x := s.edge e
      let opening := decide (x.state ≠ .opened)
      let d := if fromLow then Dir.down else Dir.up
      let p := quarterPlan (x.plan d) pass ok
      let seqs := x.switchSeqs d
      let s := s.modEdge e fun y =>
        let y := switchGroups y d p opening seqs
        if fromLow then { y with qtestLow := true } else { y with qtestHigh := true }
      let s := if opening then s else (s.emits (replayOuts e (s.edge e) d (x.plan d))).rehomeAll e
      if (s.edge e).qtestLow && (s.edge e).qtestHigh then
        ((s.modEdge e fun y => { y with state := .opened, reqLow := false, reqHigh := false }.takePresets).writeRoles.settleRoutes).checkEdge e
      else s

/-! ### Flits -/

/-- The receiving end of a direction stops a group and its isolation test starts (R182); under the fallback of R188 the group turns off
instead. -/
def State.stopGroup (s : State) (e g : Nat) (d : Dir) (cause : Cause) : State :=
  if (s.edge e).fallback then
    ((s.modEdge e fun x => (x.modGroup .up g fun q => { q with off := true }).modGroup .down g fun q => { q with off := true }).rehomeAll
      e).checkEdge e
  else
    let low := decide (d = .down)
    let s := s.modEdge e fun x => (x.modGroup .up g fun q => { q with stopped := true }).modGroup .down g fun q => { q with stopped := true }
    (s.count 3 (edgeSource e low) 1 1).emit (.retrainReq (asEdge e) low (BitVec.ofNat 8 (2 ^ g)) cause)

/-- The receiver asks for the expected sequence, or stops the group after four consecutive retries (R179, R182). Log: DEDUCED 128. -/
def State.askRetry (s : State) (e : Nat) (d : Dir) (g : Fin 8) : State :=
  let q := (s.edge e).groupState d g.val
  if 4 ≤ q.retries then s.stopGroup e g.val d .retryFail
  else
    (s.modEdge e fun x => x.setGroup d g.val { q with retrying := true, retries := q.retries + 1 }).emit
      (.retry (asEdge e) d g q.expected)

/-- A retry request reaches the sender: flits before the sequence are acknowledged, the others sent again, and a transient is
counted (R179); at the group's threshold its isolation test starts. -/
def State.takeRetry (s : State) (e : Nat) (d : Dir) (g : Fin 8) (seq : BitVec 10) : State :=
  let q := (s.edge e).groupState d g.val
  let left := ackReplay q.replay (seq - 1)
  let s := s.modEdge e fun x => x.setGroup d g.val { q with replay := left }
  let s := (s.emits (left.map fun f => .flit (asEdge e) d g f.2)).count 3 (edgeSource e (decide (d = .up))) 0 1
  let r := s.transient (groupChan e d g.val) 1
  if r.2 then r.1.stopGroup e g.val d .threshold else r.1.pumpGroup e d g.val

/-- A data flit in sequence is delivered; its receiver frees the buffer, and an idle flit returns the acknowledgement and the credit
(R178, R180). -/
def State.acceptFlit (s : State) (e : Nat) (dir : Dir) (group : Fin 8) (flit : BitVec 576) : State :=
  let s := s.modEdge e fun x => x.modGroup dir group.val fun q => { q with expected := q.expected + 1, retrying := false, retries := 0 }
  s.emits [.deliver (asEdge e) dir (flitClass flit) (flitSet flit) (flitPayload flit),
    .flit (asEdge e) (flipDir dir) group (idleFlit (flitSeq flit) (creditKey (flitClass flit) (flitSet flit), 1))]

/-- FLIT_RECEIVE: a flit is checked, and accepted in sequence or discarded; acknowledgement and credits are taken, and the other
direction of the group sends what they free it to send (R177–R180). The detail of a malformed flit's record is kind × 8 + class: Table
12.3 says only what it holds. Log: DEDUCED 128; DESIGN CHOICE 148, 172. -/
def execFlitReceive (edge : EdgeIx) (dir : Dir) (group : Fin 8) (flit : BitVec 576) (s : State) :
    Host.Outcome State Fault Refusal :=
  let e := edge.val
  let g := group.val
  .next <| if !(s.edge e).carries dir g then s
    else if !flitCheck flit then s.askRetry e dir group
    else if flitKind flit = 3 || (flitKind flit = 0 && decide (4 < flitClass flit)) then
      let low := decide (dir = .down)
      let d := asBase (if low then (edgeEnds e).1 else (edgeEnds e).2)
      s.raise d { cause := .malformedFlit, suspect := groupChan e dir g, reporter := baseChan d.val
                  detail := BitVec.ofNat 64 (flitKind flit * 8 + flitClass flit) }
    else
      let s := s.modEdge e fun x => x.modGroup (flipDir dir) g fun q => takeCredits q flit
      if flitKind flit = 2 then s.takeRetry e (flipDir dir) group (flitAck flit)
      else
        let s := s.modEdge e fun x => x.modGroup (flipDir dir) g fun q => { q with replay := ackReplay q.replay (flitAck flit) }
        let s := if flitKind flit = 0 && decide (flitSeq flit = ((s.edge e).groupState dir g).expected) then s.acceptFlit e dir group flit else s
        s.pumpGroup e (flipDir dir) g

/-- RETRY_REQUEST_RECEIVE: the sender of a direction replays from the carried sequence (R179). -/
def execRetryRequestReceive (edge : EdgeIx) (dir : Dir) (group : Fin 8) (seq : BitVec 10) (s : State) :
    Host.Outcome State Fault Refusal :=
  .next (if (s.edge edge.val).carries dir group.val then s.takeRetry edge.val dir group seq else s)

/-- RETRY_RESEND_TIMEOUT: the expected flit has not arrived 200 ns after a retry request (R179). -/
def execRetryResendTimeout (edge : EdgeIx) (dir : Dir) (group : Fin 8) (s : State) : Host.Outcome State Fault Refusal :=
  .next <| if (s.edge edge.val).carries dir group.val && ((s.edge edge.val).groupState dir group.val).retrying then
      s.askRetry edge.val dir group
    else s

/-- After a group's isolation test: a retrain that waits for tests sends its masks once none is under way, and one that has nothing to
retire and nothing to disagree about ends (R182, R189). -/
def State.afterTest (s : State) (e : Nat) : State :=
  let x := s.edge e
  let held := (List.range 8).any fun g => (x.groupState .up g).held || (x.groupState .down g).held
  let busy := (List.range 8).any fun g => (x.groupState .up g).stopped
  if !x.retraining then (if held && !busy then s.startRetrain e else s)
  else if x.asked || busy then s
  else if !held && decide (x.disagreed = 0) && decide (x.restarts = 0) then
    s.modEdge e fun y => { y with retraining := false, reqLow := false, reqHigh := false }
  else s.sendMasks e

/-- ISOLATION_TEST_COMPLETE: lanes with two errors or more, or without lock, are permanent and a retrain runs; a clean test lets
the group resume, and the second clean one of an interval declares the lane of lowest margin permanent (R182). -/
def execIsolationTestComplete (edge : EdgeIx) (group : Fin 8) (errUp errDown : List Nat) (lostUp lostDown : BitVec 16)
    (lowest : Fin 16) (lowestDir : Dir) (s : State) : Host.Outcome State Fault Refusal :=
  let e := edge.val
  let g := group.val
  .next <| if !((s.edge e).groupState .up g).stopped then s
    else
      let x := s.edge e
      let bad (err : List Nat) (lost : BitVec 16) : List Nat :=
        (List.range 16).filter fun i => 2 ≤ err.getD i 0 || lost.getLsbD i
      let found := (bad errUp lostUp).map (fun i => (Dir.up, x.up.phys (16 * g + i)))
        ++ (bad errDown lostDown).map (fun i => (Dir.down, x.down.phys (16 * g + i)))
      let clean := (x.groupState .up g).clean
      let lanes := if !found.isEmpty then found
        else if 1 ≤ clean then [(lowestDir, (x.plan lowestDir).phys (16 * g + lowest.val))]
        else []
      let s := lanes.foldl (fun t p => t.declareWith (laneChan e p.1 p.2) .retryFail ((x.groupState p.1 g).expected.setWidth 64) 0) s
      let s := s.modEdge e fun y => [Dir.up, Dir.down].foldl (fun z d => z.modGroup d g fun q =>
        { q with stopped := false, retries := 0, held := lanes.any fun p => p.1 = d, clean := if lanes.isEmpty then clean + 1 else 0 }) y
      (((s.afterTest e).pumpGroup e .up g).pumpGroup e .down g)

/-- D2D_ROLE_MAP_WRITE: a write before the lock sets an edge's group roles; a map with no mesh group gets group 0 made mesh, and
this is logged (R172, R341). -/
def execD2dRoleMapWrite (die : BaseDie) (port : Port4) (value : Byte) (s : State) : Host.Outcome State Fault Refusal :=
  .next <| match portEdge die.val port with
    | none => s
    | some e =>
      if (s.base die.val).locked || (s.edge e).state = .opened then s
      else
        let low := decide ((edgeEnds e).1 = die.val)
        if !low && (s.edge e).roleHighLocked then s
        else
          let s := s.modEdge e fun x =>
            if low then { x with roleLow := roleMap value, roleLowLocked := true } else { x with roleHigh := roleMap value }
          let s := if value = 0xFF then s.logEvent "role map without mesh" else s
          s.beginMask e

end Sys2Proof.Machine
end

