-- ==== Sys2Proof/Machine/Sites.lean ====
section
/-! DEFINITION. Engine sites (R195–R199): descriptors, their resolution by Table 6.11, and the links a site serves. -/

namespace Sys2Proof.Machine

/-- The base die's descriptor (Table 6.9a): fields by their lowest bit, then the check over bits [479:0]. -/
def baseDescriptor : BitVec 512 :=
  let fields : List (Nat × Nat) := [(0, 0x4443), (16, 1), (32, Config.vendorId.toNat), (48, 0x4D12),
    (64, Config.stepping.toNat), (72, 8), (80, 1), (84, 16), (89, 2), (96, 6048), (112, 2), (116, 1), (120, 1), (128, 31),
    (144, 32), (150, 5), (160, 600)]
  let v := (fields.map fun f => f.2 * 2 ^ f.1).sum
  BitVec.ofNat 512 (v + (crc32c 480 v).toNat * 2 ^ 480)

/-- The check of a descriptor (Table 6.9). -/
def descCheck (d : BitVec 512) : Bool := crc32c 480 (field d 0 480) = BitVec.ofNat 32 (field d 480 32)

/-- The items of Table 6.11 whose failure closes a site, with whether a descriptor fails them. -/
def descClosing (d : BitVec 512) : List (String × Bool) :=
  [("check", !descCheck d), ("magic", field d 0 16 ≠ 0x4443), ("version", field d 16 8 ≠ 1), ("role", !d.getLsbD 24),
    ("baud", field d 96 16 ≠ 6048), ("modulation", field d 112 4 ≠ 2), ("fec", !d.getLsbD 116), ("link version", !d.getLsbD 120),
    ("power", decide (600 < field d 160 16))]

/-- The items of Table 6.11 that reduce a site, by row number, with whether a descriptor does. -/
def descReducing (d : BitVec 512) : List (Nat × String × Bool) :=
  [(1, "wavelengths", decide (field d 84 5 < 16)), (2, "spare wavelengths", decide (field d 89 3 < 2)), (3, "fibers", decide (field d 72 8 < 8)),
    (4, "spare fiber", field d 80 4 = 0 || !d.getLsbD 132), (5, "key tone", !d.getLsbD 128), (6, "feed forward", !d.getLsbD 129),
    (7, "margin test", !d.getLsbD 130), (8, "external laser", !d.getLsbD 131),
    (9, "ucie", decide (field d 144 6 < 32) || decide (field d 150 4 < 5))]

/-- Rows of Table 6.11 that a descriptor meets: row 0 closes the site. -/
def descRows (d : BitVec 512) : List Nat :=
  (if (descClosing d).any fun p => p.2 then [0] else []) ++ ((descReducing d).filter fun p => p.2.2).map fun p => p.1

/-- A line of the log for an item of a site: the item and the engine's vendor_id, device_id and revision (R198). -/
def State.logItem (s : State) (e : Nat) (d : BitVec 512) (closed : Bool) (item : String) : State :=
  s.logEvent ("site " ++ hexDigits 1 e ++ (if closed then " closed " else " reduced ") ++ hexDigits 4 (field d 32 16) ++ " "
    ++ hexDigits 4 (field d 48 16) ++ " " ++ hexDigits 2 (field d 64 8) ++ " " ++ item)

/-- A site closes; its links are absent (R198). -/
def State.closeSite (s : State) (e : Nat) : State :=
  let s := s.modSite e fun x => { x with closed := true, links := 0 }
  (List.range 8).foldl (fun t m => t.modLink (8 * e + m) fun l => { l with state := .absent }) s

/-- The base die of an engine's site runs, and its position enables the site (R13, R15, R192). -/
def State.siteOn (s : State) (e : Nat) : Bool := s.clocked (asBase (engineBase e)) && (s.hingeOf (engineBase e)).engineOn e

/-- UCIE_SIDEBAND_TRAINED: the base die sends its descriptor (R196, Table 6.10). -/
def execUcieSidebandTrained (engine : EngineIx) (s : State) : Host.Outcome State Fault Refusal :=
  .next <| if (s.site engine.val).closed || !s.siteOn engine.val then s
    else (s.modSite engine.val fun x => { x with sideband := true, sent := true }).emit (.descriptor engine baseDescriptor)

/-- SITE_DESCRIPTOR_RECEIVE: a failed check asks for the descriptor again, twice at most; otherwise every item is judged by
Table 6.11, every one that closes or reduces the site is logged, and the site is closed or configured (R197, R198). -/
def execSiteDescriptorReceive (engine : EngineIx) (desc : BitVec 512) (s : State) : Host.Outcome State Fault Refusal :=
  let e := engine.val
  .next <| if (s.site e).closed || (s.site e).configured || !(s.site e).sideband then s
    else if !descCheck desc && decide ((s.site e).resends < 2) then
      (s.modSite e fun x => { x with resends := x.resends + 1 }).emit (.resend engine)
    else
      let rows := descRows desc
      let s := s.modSite e fun x => { x with peer := some desc, reduced := rows }
      let s := (descClosing desc).foldl (fun t p => if p.2 then t.logItem e desc true p.1 else t) s
      let s := (descReducing desc).foldl (fun t p => if p.2.2 then t.logItem e desc false p.2.1 else t) s
      if rows.contains 0 then s.closeSite e
      else
        s.modSite e fun x => { x with
          configured := true, wlActive := min 16 (field desc 84 5), wlSpare := min 2 (field desc 89 3)
          fiberActive := min 8 (field desc 72 8), spareFiber := !rows.contains 4, keyTone := desc.getLsbD 128
          feedForward := desc.getLsbD 129, marginTest := desc.getLsbD 130, laserExternal := desc.getLsbD 131 }

/-- SITE_DESCRIPTOR_TIMEOUT: an engine that sent no valid descriptor by 10 ms fails a required item, which is logged with what the last
descriptor received gives (R197, R198). -/
def execSiteDescriptorTimeout (engine : EngineIx) (s : State) : Host.Outcome State Fault Refusal :=
  let e := engine.val
  .next <| if (s.site e).configured || (s.site e).closed then s
    else ((s.modSite e fun x => { x with reduced := [0] }).closeSite e).logItem e ((s.site e).peer.getD 0) true "no descriptor"

/-- The rate at which a site's mainband trains: the lower of the two ucie_rate values (R197). -/
def Site.mainbandRate (x : Site) : Fin 6 := Fin.ofNat 6 (min 5 ((x.peer.map fun d => field d 150 4).getD 5))

/-- UCIe rates in GT/s by code (Table 6.9). -/
def ucieRate (r : Nat) : Nat := [4, 8, 12, 16, 24, 32].getD r 4

/-- The largest number of links, at most `most`, whose 1.829 Tb/s fit in 93 % of the working modules' raw rate (R199). -/
def linksServed (full half rate most : Nat) : Nat :=
  ((List.range (most + 1)).filter fun n => 2 * 100 * n * 1829 ≤ 93 * (2 * full + half) * 16 * rate).length - 1

end Sys2Proof.Machine
end

