-- ==== Sys2Proof/Machine/Units.lean ====
section
/-! DEFINITION. Flow units (R239–R245, R272): their header, check and encryption, and the sender's transmit side. -/

namespace Sys2Proof.Machine

/-! ### The header (Table 8.1) -/

def uKind (h : BitVec 128) : Nat := field h 124 4
def uVc (h : BitVec 128) : Fin 8 := Fin.ofNat 8 (field h 121 3)
def uLast (h : BitVec 128) : Bool := h.getLsbD 119
def uEnc (h : BitVec 128) : Bool := h.getLsbD 118
def uSlot (h : BitVec 128) : Fin 2 := Fin.ofNat 2 (field h 117 1)
def uShared (h : BitVec 128) : Bool := h.getLsbD 115
def uAckValid (h : BitVec 128) : Bool := h.getLsbD 114
def uAck (h : BitVec 128) : BitVec 12 := BitVec.ofNat 12 (field h 102 12)
def uXoff (h : BitVec 128) : BitVec 8 := BitVec.ofNat 8 (field h 94 8)
def uCreditVc (h : BitVec 128) : Nat := field h 91 3
def uCredit (h : BitVec 128) : Byte := BitVec.ofNat 8 (field h 83 8)
def uLen (h : BitVec 128) : Nat := field h 75 8
def uReserved (h : BitVec 128) : Nat := field h 0 29

/-- Kinds of Table 8.2. -/
abbrev ukData : Nat := 0
abbrev ukIdle : Nat := 1
abbrev ukNak : Nat := 2
abbrev ukControl : Nat := 3

/-- The header of an arriving unit. -/
def unitHead (u : FlowUnit) : BitVec 128 := BitVec.ofNat 128 (leNat (u.bytes.take 16))

/-- A data unit's header as the message layer builds it (Table 8.1, R286, Table 9.2): the link fills the rest. -/
def unitHeader (vc : Fin 8) (first last poison : Bool) (len : Nat) (ctx : CtxId) (gen : Gen) (dest src : ModId) (hops : BitVec 4) :
    BitVec 128 :=
  BitVec.ofNat 128 (vc.val * 2 ^ 121 + first.toNat * 2 ^ 120 + last.toNat * 2 ^ 119 + poison.toNat * 2 ^ 116
    + len % 256 * 2 ^ 75 + ctx.val * 2 ^ 65 + gen.toNat * 2 ^ 61 + dest.toNat * 2 ^ 53 + src.toNat * 2 ^ 45 + hops.toNat * 2 ^ 41)

/-- The prefix of a unit that takes no sequence number (R241). -/
abbrev plainPrefix : BitVec 16 := 0xF000

/-- The check of a unit against a prefix (R241). -/
def checks (u : FlowUnit) (pre : BitVec 16) : Bool :=
  u.bytes.length = 256 && crc64 pre (u.bytes.take 248) = BitVec.ofNat 64 (leNat (u.bytes.drop 248))

/-- A reserved kind, a payload_len above its limit, or a reserved field that is not 0 (R245). -/
def malformed (h : BitVec 128) : Bool :=
  decide (3 < uKind h) || decide ((if uEnc h then 216 else 232) < uLen h) || decide (uReserved h ≠ 0)

/-! ### The lanes (R243) -/

/-- The 64-bit words of a unit's 256 bytes, word 0 first. -/
def unitWords (bytes : List Byte) : List W64 := (List.range 32).map fun i => BitVec.ofNat 64 (leNat ((bytes.drop (8 * i)).take 8))

/-- The logical lane of word `j` of a direction's stream: the (j mod w)-th of its w active lanes, in ascending order. -/
def wordLane (mask : BitVec 16) (j : Nat) : Nat := (setBits mask).getD (j % (setBits mask).length) 0

/-- Words dealt to the lanes of a direction from place `j` of its stream on. Log: DESIGN CHOICE 181. -/
def dealWords (mask : BitVec 16) (j : Nat) : List W64 → List (Nat × W64)
  | [] => []
  | w :: ws => (wordLane mask j, w) :: dealWords mask (j + 1) ws

/-- What one lane carries of dealt words. -/
def laneWords (dealt : List (Nat × W64)) (lane : Nat) : List W64 := (dealt.filter fun p => p.1 = lane).map fun p => p.2

/-- The receiver's stream again, from what it has of each lane: `n` words from place `j` on, each the next of its lane. -/
def collectWords (mask : BitVec 16) (j : Nat) (lanes : Nat → List W64) : Nat → List W64
  | 0 => []
  | n + 1 =>
    let k := wordLane mask j
    (lanes k).headD 0 :: collectWords mask (j + 1) (fun i => if i = k then (lanes i).tail else lanes i) n

/-- Outside ACTIVE the receiver takes the first copy of a control unit whose check is good. -/
def firstCopy (u : FlowUnit) : Option FlowUnit :=
  ((u.bytes :: u.copies).map fun b => ({ bytes := b } : FlowUnit)).find? fun c => checks c plainPrefix

/-! ### The receive pool and flow control -/

/-- T_v (R254, Table 8.3). -/
def Link.limit (x : Link) (v : Nat) : Nat := Store.get (([64, 256, 512, 256, 256, 512, 64, 64] : List Nat).getD v 64) x.vcLimit v

/-- Shared units held, of one VC or of all. -/
def Link.sharedOf (x : Link) (v : Nat) : Nat := (x.pool.filter fun u => u.shared && u.vc.val = v).length
def Link.sharedAll (x : Link) : Nat := (x.pool.filter fun u => u.shared).length

/-- Every VC is XOFF under the pool guard: the free shared units number RTU or fewer (R254). Log: DESIGN CHOICE 42. -/
def Link.guarded (x : Link) : Bool := decide (1280 - x.sharedAll ≤ x.rtu)

/-- xoff as this end's receiver announces it (R254). -/
def Link.xoffOut (x : Link) : BitVec 8 :=
  if x.guarded then 0xFF
  else BitVec.ofNat 8 (((List.range 8).filter fun v => x.limit v ≤ x.sharedOf v).map fun v => 2 ^ v).sum

/-- Fields set afresh at every sending: no acknowledgement, xoff, and the credit count of the VC whose turn it is. -/
def Link.refresh (x : Link) (h : BitVec 128) : BitVec 128 :=
  putField (putField (putField (putField h 102 13 0) 94 8 x.xoffOut.toNat) 91 3 x.creditTurn.val) 83 8
    (Store.get 0 x.freed x.creditTurn.val).toNat

/-- The next VC's count goes into the next header. -/
def Link.turn (x : Link) : Link := { x with creditTurn := x.creditTurn + 1 }

/-- A unit's 32 words have gone onto the stream (R243). Log: DESIGN CHOICE 181. -/
def Link.stride (x : Link) : Link := { x with sentWords := x.sentWords + 32 }

/-- A data unit on the wire: its bytes, dealt to the active lanes (R239, R243). -/
def State.emitUnit (s : State) (l : Nat) (seq : BitVec 12) (bytes : List Byte) : State :=
  let x := s.link l
  (s.emit (.unit (asLink l) seq bytes (dealWords x.txWidth x.sentWords (unitWords bytes)))).modLink l Link.stride

/-- A message's consumer takes its units from the pool: the first units of the VC up to one marked last (R251, R253). -/
def takePool (v : Fin 8) : List PoolUnit → List PoolUnit × Nat
  | [] => ([], 0)
  | u :: us =>
    if u.vc ≠ v then let r := takePool v us; (u :: r.1, r.2)
    else
      let own := if u.shared then 0 else 1
      if u.last then (us, own) else let r := takePool v us; (r.1, r.2 + own)

/-- Take a message of VC `v` off the pool of a link. -/
def State.takeUnits (s : State) (l : Nat) (v : Fin 8) : State :=
  s.modLink l fun x =>
    let r := takePool v x.pool
    { x with pool := r.1, freed := Store.put 0 x.freed v.val (Store.get 0 x.freed v.val + BitVec.ofNat 8 r.2) }

/-! ### Sending -/

/-- Key of a slot of the transmit or the receive direction. -/
def Link.txKey (x : Link) (k : Fin 2) : Option LinkKey := if k = 0 then x.tx0 else x.tx1
def Link.rxKey (x : Link) (k : Fin 2) : Option LinkKey := if k = 0 then x.rx0 else x.rx1

/-- Exactly `n` bytes, padded with 0. -/
def padTo (n : Nat) (bytes : List Byte) : List Byte := bytes.take n ++ List.replicate (n - bytes.length) 0

/-- A unit's 256 bytes under a sequence and extended count (R239, R241, R272): with enc set, the payload is encrypted under
its key slot, and the authenticated data are the header with its refreshed fields at 0. -/
def Link.unitBytes (x : Link) (seq : BitVec 12) (ext : W64) (u : TxUnit) : List Byte :=
  let h := x.refresh u.header
  let body :=
    if uEnc h then
      match x.txKey (uSlot h) with
      | some k =>
        let aad := leBytes 16 (putField (putField (putField h 102 13 0) 83 19 0) 29 12 0).toNat
        let r := Config.encrypt k.key (k.salt ++ ext) aad (padTo 216 u.payload)
        padTo 216 r.1 ++ leBytes 16 r.2.toNat
      | none => padTo 232 u.payload
    else padTo 232 u.payload
  let head := leBytes 16 h.toNat ++ body
  head ++ leBytes 8 (crc64 (seq.setWidth 16) head).toNat

/-- Unacknowledged units: N − A (R244). -/
def Link.open_ (x : Link) : Nat := (x.n - x.a).toNat

/-- How a unit of a VC may be sent now: shared while the VC is XON, on a reserved credit while it is XOFF, or not at all
(R253, R254). -/
def Link.permit (x : Link) (v : Nat) : Option Bool :=
  if !x.xoff.getLsbD v then some true else if Store.get 0 x.spent v < 32 then some false else none

/-- Send the first copy of a data unit (R244, R253, R272). -/
def State.sendFirst (s : State) (l : Nat) (u : TxUnit) (shared : Bool) : State :=
  let x := s.link l
  let h := putField u.header 115 1 shared.toNat
  let h := putField (putField h 118 1 x.encrypt.toNat) 117 1 (if x.encrypt then x.txSlot.val else 0)
  let u := { u with header := h, owner := none }
  let v := (uVc h).val
  let s := (s.emitUnit l x.n (x.unitBytes x.n x.txExt u)).countLink l lnTx 1
  s.modLink l fun x =>
    { x.turn with
      replay := x.replay ++ [u], n := x.n + 1, txExt := x.txExt + 1
      spent := if shared then x.spent else Store.put 0 x.spent v (Store.get 0 x.spent v + 1)
      underKey := if x.encrypt then x.underKey + 1 else x.underKey }

/-- Send what the queue holds and flow control permits, in order within each VC; what stays behind stays in order. -/
def State.pumpUnits (s : State) (l : Nat) : List TxUnit → List TxUnit → State
  | [], kept => s.modLink l fun x => { x with queue := kept }
  | u :: us, kept =>
    let x := s.link l
    if x.state = .active ∧ x.open_ < 1024 then
      match x.permit (uVc u.header).val with
      | some shared => State.pumpUnits (s.sendFirst l u shared) l us kept
      | none => State.pumpUnits s l us (kept ++ [u])
    else State.pumpUnits s l us (kept ++ [u])

/-- Send from a link's transmit queue. -/
def State.pump (s : State) (l : Nat) : State := s.pumpUnits l (s.link l).queue []

/-- A unit whose payload exceeds what an encrypted unit holds goes as two (Table 8.1, R272). -/
def fitUnit (enc : Bool) (u : TxUnit) : List TxUnit :=
  if enc && decide (216 < uLen u.header) then
    [{ header := putField (putField u.header 119 1 0) 75 8 216, payload := u.payload.take 216 },
     { header := putField (putField u.header 120 1 0) 75 8 (uLen u.header - 216), payload := u.payload.drop 216 }]
  else [u]

/-- The twin that carries a link's traffic: while the link is DOWN and moved, and after that until the twin has sent every unit moved to
it (R267, R270). -/
def State.rides (s : State) (l : Nat) : Option Nat :=
  let x := s.link l
  match x.twin with
  | some t =>
    if x.moved && (x.state = .down || (s.link t.val).queue.any fun u => decide (u.owner = some l)) then some t.val else none
  | none => none

/-- Put units of a link on its twin, as new units of the twin (R267). -/
def State.ride (s : State) (l t : Nat) (us : List TxUnit) : State :=
  (s.modLink t fun y => { y with
    queue := y.queue ++ (us.flatMap (fitUnit y.encrypt)).map fun u => { u with owner := some l } }).pump t

/-- Put units on a link: they queue, ride the twin while the link's traffic is moved (R267), and wait on a DOWN link
(R268). -/
def State.sendUnits (s : State) (l : Nat) (us : List TxUnit) : State :=
  match s.rides l with
  | some t => s.ride l t us
  | none =>
    (s.modLink l fun y => { y with moved := y.moved && decide (y.state = .down), queue := y.queue ++ us.flatMap (fitUnit y.encrypt) }).pump l

/-- Resend the unacknowledged units from sequence `from_` on (R247). -/
def State.replayFrom (s : State) (l : Nat) (from_ : BitVec 12) : State :=
  let x := s.link l
  let skip := (from_ - x.a).toNat
  let us := x.replay.drop skip
  let r := us.foldl (fun (acc : State × Nat) u =>
      let x := acc.1.link l
      let seq := x.a + BitVec.ofNat 12 (skip + acc.2)
      let ext := x.txExt - BitVec.ofNat 64 (x.replay.length - skip - acc.2)
      ((acc.1.emitUnit l seq (x.unitBytes seq ext u)).modLink l Link.turn, acc.2 + 1)) (s, 0)
  r.1.countLink l lnReplay us.length

/-- Everything below `e` is acknowledged (R247, R249), and replays of what is acknowledged count no longer (R250); an old key slot whose last unit is acknowledged is erased (R273). -/
def Link.ackBelow (x : Link) (e : BitVec 12) : Link :=
  let n := (e - x.a).toNat
  let x := { x with a := e, replay := x.replay.drop n, naks := if e = x.nakFrom then x.naks else 0 }
  match x.retireAt with
  | some r =>
    if (x.n - r).toNat ≤ 1024 && decide (x.open_ ≤ (x.n - r).toNat) then
      if x.txSlot = 0 then { x with tx1 := none, retireAt := none } else { x with tx0 := none, retireAt := none }
    else x
  | none => x

end Sys2Proof.Machine
end

