-- ==== Sys2Proof/Machine/Links.lean ====
section
/-! DEFINITION. The 64 links (chapter 8): receiving and replay, training and retraining, down links, and keys. -/

namespace Sys2Proof.Machine

/-! ### Training messages -/

/-- Round trip in units: nanoseconds × 893.1 × 10⁶ per second, rounded up (R254, R259). -/
def rtuOf (ns : Nat) : Nat := (ns * 8931 + 9999) / 10000

/-- Encryption key identifiers of the slots in use, transmit then receive. -/
def Link.keyIds (x : Link) : List W32 :=
  [((x.txKey x.txSlot).map fun k => k.keyId).getD 0, ((x.rxKey x.rxSlot).map fun k => k.keyId).getD 0]

/-- TRAIN as this end sends it (Table 8.4). -/
def State.trainMsg (s : State) (l : Nat) : TrainMsg :=
  let x := s.link l
  let eng := s.engine (l / 8)
  { ok := true, version := 1, moduleId := s.moduleId, linkIx := BitVec.ofNat 8 l, serial := Store.get 0 s.keeper.serials 0,
    bootCount := s.keeper.bootCount, txMask := x.txLanes, rxMask := x.rxLanes
    slots := (List.range 16).map fun i => eng.slotOf (s.linkFiber l) false i
    expect := x.e, extCount := x.rxExt, restart := x.restart, encrypt := x.encrypt, keyIds := x.keyIds, rttNs := x.rtuNs,
    round := x.round }

/-- Send TRAIN. -/
def State.sendTrain (s : State) (l : Nat) : State := s.emit (.train (asLink l) (s.link l).txLanes (s.trainMsg l))

/-- A link that trains: handed over, retraining, or DOWN and attempting (Table 8.10). -/
def Link.trains (x : Link) : Bool := x.state = .waiting || x.state = .retrain || decide (x.state = .down)

/-- Receive lanes that the far end could not move are dropped as the link trains (R231). -/
def State.dropsDue (s : State) (l : Nat) : State :=
  if ((s.engine (l / 8)).dropDue.any fun k => decide (k / 32 = s.linkFiber l)) then
    let s := s.modEngine (l / 8) fun x => x.dropsDue (s.linkFiber l)
    s.modLink l fun x => { x with rxLanes := (s.engine (l / 8)).laneMask (s.linkFiber l) true }
  else s

/-- A retrain starts (R263, Table 8.7): the link stops data units and sends RETRAIN, then TRAIN. During one, a full request
turns it full and a fresh round begins without counting as disagreeing (Table 8.8). -/
def State.startLinkRetrain (s : State) (l : Nat) (kind : RetrainKind) (cause : RetrainCause) : State :=
  let x := s.link l
  let say (s : State) : State :=
    (s.emit (.retrain (asLink l) (s.link l).txLanes (s.link l).kind cause s.moduleId (s.link l).round)).sendTrain l
  if x.state = .active then
    let s := s.dropsDue l
    let s := (s.setLinkState l .retrain).countLink l (if kind = .full then lnFull else lnShort) 1
    say (s.modLink l fun y => { y with
      kind, cause, retrains := y.retrains + 1, round := y.round + 1, disagreed := 0, train := none, openSent := none, naks := 0
      nakSent := false })
  else if x.state = .retrain then
    say (s.modLink l fun y => { y with
      kind := if kind = .full then .full else y.kind, cause, round := y.round + 1, train := none, openSent := none })
  else s

/-- A retrain fails (R266): the first time a full retrain starts at once; a second in succession takes the link DOWN. A
training of a link that waits or is DOWN starts afresh. -/
def State.failRetrain (s : State) (l : Nat) : State :=
  let x := s.link l
  if x.state = .retrain then
    let s := (s.countLink l lnFail 1).modLink l fun y => { y with failed := y.failed + 1, disagreed := 0, kind := .full }
    if 2 ≤ (s.link l).failed then s.linkDown l
    else ((s.countLink l lnFull 1).modLink l fun y => { y with retrains := y.retrains + 1 }).startLinkRetrain l .full x.cause
  else s.modLink l fun y => { y with disagreed := 0, train := none, openSent := none }

/-- A round disagrees; three fail the training (R260). -/
def State.linkRoundDisagrees (s : State) (l : Nat) : State :=
  let s := s.modLink l fun x => { x with
    disagreed := x.disagreed + 1, round := x.round + 1, train := none, openSent := none }
  if 3 ≤ (s.link l).disagreed then s.failRetrain l else s.sendTrain l

/-- Sequence `e` lies within A to N (R247). -/
def Link.inWindow (x : Link) (e : BitVec 12) : Bool := decide ((e - x.a).toNat ≤ x.open_)

/-- The next multiple of 4,096 (R261). -/
def nextEpoch (c : W64) : W64 := BitVec.ofNat 64 ((c.toNat + 4095) / 4096 * 4096)

/-- Extended count base of a direction whose count here is `c`: a restart moves on to the next multiple of 4,096 (R261). -/
def Link.base (x : Link) (c : W64) : W64 := if x.restart then nextEpoch c else c

/-- The larger of two counts, which never falls at either end. -/
def maxCount (a b : W64) : W64 := if a.toNat < b.toNat then b else a

/-- What OPEN carries, as this end computes it from its own TRAIN and the peer's; the transmit direction is the leader's
(R260). Log: DEDUCED 40. -/
def State.openMsg (s : State) (l : Nat) (t : TrainMsg) : OpenMsg :=
  let x := s.link l
  let ownTx := x.txLanes &&& t.rxMask
  let ownRx := x.rxLanes &&& t.txMask
  if x.leader then
    { ok := true, widthTx := ownTx, widthRx := ownRx, resumeTx := t.expect, resumeRx := x.e, restart := x.restart,
      extTx := x.base x.txExt, extRx := x.base x.rxExt, rtu := x.rtu, round := x.round }
  else
    { ok := true, widthTx := ownRx, widthRx := ownTx, resumeTx := x.e, resumeRx := t.expect, restart := x.restart,
      extTx := x.base x.rxExt, extRx := x.base x.txExt, rtu := x.rtu, round := x.round }

/-- Usable lanes in both directions: at least four (R257). -/
def openWide (o : OpenMsg) : Bool := 4 ≤ (setBits o.widthTx).length && decide (4 ≤ (setBits o.widthRx).length)

/-- OPEN and OPEN_ECHO agree. Of RTU and of an extended count the larger of the two ends' values serves, and they are not compared (R259–R261).
Log: DEDUCED 40. -/
def openAgrees (o p : OpenMsg) : Bool :=
  o.widthTx = p.widthTx && o.widthRx = p.widthRx && o.resumeTx = p.resumeTx && o.resumeRx = p.resumeRx
    && o.restart = p.restart && decide (o.round = p.round)

/-- OPEN as both ends take it. -/
def joinOpen (o p : OpenMsg) : OpenMsg :=
  { o with rtu := max o.rtu p.rtu, extTx := maxCount o.extTx p.extTx, extRx := maxCount o.extRx p.extRx }

/-- Restart both directions at sequence 0 with an empty buffer, each from the extended count base that OPEN gives it (R261).
Log: DEDUCED 41. -/
def State.restartLink (s : State) (l : Nat) (txBase rxBase : W64) : State :=
  let n := (s.link l).replay.length
  (s.countLink l lnRestart n).modLink l fun x => { x with
    n := 0, a := 0, e := 0, replay := [], txExt := txBase, rxExt := rxBase, spent := [], countSeen := [],
    freed := [], unacked := 0, timing := false, retireAt := none, restart := false }

/-- Both ends have agreed: the link enters ACTIVE and resumes or restarts its sequences (R260, R261, R270). -/
def State.enterActive (s : State) (l : Nat) (o : OpenMsg) : State :=
  let x := s.link l
  let resume := if x.leader then o.resumeTx else o.resumeRx
  let ownTx := if x.leader then o.widthTx else o.widthRx
  let ownRx := if x.leader then o.widthRx else o.widthTx
  let s := if o.restart then s.restartLink l (if x.leader then o.extTx else o.extRx) (if x.leader then o.extRx else o.extTx) else s.modLink l fun y => y.ackBelow resume
  let s := s.modLink l fun y => { y with
    txWidth := ownTx, rxWidth := ownRx, rtu := max y.rtu o.rtu, taken := 0, sentWords := 0, xoff := 0, naks := 0, nakSent := false,
    disagreed := 0, train := none, openSent := none, held := false, moved := (s.rides l).isSome, lostSent := false, lostReceived := none,
    waitReported := false, miscabled := false }
  let s := s.setLinkState l .active
  let s := s.reportCapacity fun c =>
    { c with lanes := Store.put 16 (Store.put 16 c.lanes (2 * l) (setBits ownTx).length) (2 * l + 1) (setBits ownRx).length }
  ((s.replayFrom l (s.link l).a).pump l).adjustReady

/-! ### Receiving (R245–R249, R253–R255, R274, R275) -/

/-- NAK(e) at the first discard after an acceptance (R246). -/
def State.discardUnit (s : State) (l : Nat) (bad : Bool) : State :=
  let s := s.countLink l lnCrc 1
  let s := if bad then s.countLink l lnMalformed 1 else s
  if (s.link l).nakSent then s
  else ((s.modLink l fun x => { x.stride with nakSent := true, unacked := 0, timing := false }).emit
    (.nak (asLink l) (s.link l).e)).countLink l lnNakTx 1

/-- Take the acknowledgement, xoff and credit fields of an accepted unit (R249, R253, R254). -/
def State.takeFields (s : State) (l : Nat) (h : BitVec 128) : State :=
  let x := s.link l
  let s :=
    if !uAckValid h then s
    else if decide ((uAck h - (x.a - 1)).toNat ≤ x.open_) then s.modLink l fun y => y.ackBelow (uAck h + 1)
    else s.countLink l lnNakIgnored 1
  let v := uCreditVc h
  (s.modLink l fun y => { y with
    xoff := uXoff h
    spent := Store.put 0 y.spent v (Store.get 0 y.spent v - (uCredit h - Store.get 0 y.countSeen v).toNat)
    countSeen := Store.put 0 y.countSeen v (uCredit h) }).pump l

/-- Send a cumulative acknowledgement (R249). -/
def State.sendAck (s : State) (l : Nat) : State :=
  (s.modLink l fun x => { x.stride with unacked := 0, timing := false }).emit (.ack (asLink l) ((s.link l).e - 1))

/-- A tag failure or an empty key slot (R274): discarded as a CRC mismatch; the third of an interval raises a security fault
and starts a full retrain. -/
def State.failTag (s : State) (l : Nat) : State :=
  let s := (s.countLink l lnTag 1).modLink l fun x => { x with tagFails := x.tagFails + 1 }
  let s := s.discardUnit l false
  if (s.link l).tagFails = 3 then
    (s.raise (asBase (engineBase (l / 8))) { cause := .tagFail, suspect := linkChan l }).startLinkRetrain l .full .keys
  else s

/-- An unassigned module takes units of VC 0 and VC 7 only (R282). -/
def State.vcOpen (s : State) (v : Nat) : Bool := s.domain.id.isSome || v = 0 || decide (v = 7)

/-- Accept a data unit in order. -/
def State.acceptData (s : State) (l : Nat) (h : BitVec 128) : State :=
  let s := (s.modLink l fun x =>
    let own : PoolUnit := { vc := uVc h, shared := uShared h, last := uLast h }
    { x with
      e := x.e + 1, rxExt := x.rxExt + 1, nakSent := false, unacked := x.unacked + 1, taken := x.taken + 1
      timing := x.timing || !(uEnc h && decide (uLen h = 0))
      rxSlot := if uEnc h then uSlot h else x.rxSlot
      pool := if uLen h = 0 && uEnc h then x.pool else if s.vcOpen (uVc h).val then x.pool ++ [own] else x.pool
      freed := if uShared h || (!(uLen h = 0 && uEnc h) && s.vcOpen (uVc h).val) then x.freed
        else Store.put 0 x.freed (uVc h).val (Store.get 0 x.freed (uVc h).val + 1) }).countLink l lnRx 1
  let s := if (s.link l).encrypt && !uEnc h then s else s.takeFields l h
  if 64 ≤ (s.link l).unacked then s.sendAck l else s

/-- FLOW_UNIT_RECEIVE: in ACTIVE a unit is accepted against the expected prefix, or discarded and answered with a NAK (R245–R249).
Outside ACTIVE the first good copy of a control unit is taken, whose message is the command of its own row; with none, the unit is
discarded (R243). -/
def execFlowUnitReceive (link : LinkIx) (unit : FlowUnit) (tagOk : Bool) (s : State) : Host.Outcome State Fault Refusal :=
  let l := link.val
  let x := s.link l
  let h := unitHead unit
  .next <| if x.state = .active then
      if uKind h = ukData then
        if !checks unit (x.e.setWidth 16) then s.discardUnit l false
        else if malformed h then s.discardUnit l true
        else if uEnc h && ((x.rxKey (uSlot h)).isNone || !tagOk) then s.failTag l
        else s.acceptData l h
      else if !checks unit plainPrefix then s.discardUnit l false
      else if malformed h then s.discardUnit l true
      else if uKind h = ukControl then s.discardUnit l false
      else
        let s := s.modLink l fun y => { y with taken := y.taken + 1 }
        if x.encrypt then s else s.takeFields l h
    else
      match firstCopy unit with
      | some c => if malformed (unitHead c) then (s.countLink l lnCrc 1).countLink l lnMalformed 1 else s
      | none => s.countLink l lnCrc 1

/-- NAK_RECEIVE: acknowledge below e and replay from e; a ninth NAK for one sequence starts a full retrain (R247, R250). -/
def execNakReceive (link : LinkIx) (seq : BitVec 12) (withinRtt : Bool) (s : State) : Host.Outcome State Fault Refusal :=
  let l := link.val
  .next <| if (s.link l).state = .active then
      let s := s.countLink l lnNakRx 1
      if !(s.link l).inWindow seq then s.countLink l lnNakIgnored 1
      else
        let s := s.modLink l fun x => x.ackBelow seq
        let x := s.link l
        if seq = x.n then s.pump l
        else if x.naks ≠ 0 ∧ x.nakFrom = seq ∧ withinRtt then s.countLink l lnNakIgnored 1
        else if x.nakFrom = seq ∧ x.naks = 8 then s.startLinkRetrain l .full .ninthNak
        else
          let s := s.modLink l fun y => { y with naks := if y.nakFrom = seq then y.naks + 1 else 1, nakFrom := seq }
          (s.replayFrom l seq).pump l
    else s

/-- NAK_RESEND_TIMEOUT: NAK(e) goes again (R246). -/
def execNakResendTimeout (link : LinkIx) (s : State) : Host.Outcome State Fault Refusal :=
  let x := s.link link.val
  .next <| if x.state = .active && x.nakSent then ((s.modLink link.val Link.stride).emit (.nak link x.e)).countLink link.val lnNakTx 1 else s

/-- ACK_TIMER: a cumulative acknowledgement 200 ns after the first unacknowledged acceptance (R249). -/
def execAckTimer (link : LinkIx) (s : State) : Host.Outcome State Fault Refusal :=
  .next <| if (s.link link.val).state = .active && (s.link link.val).timing then s.sendAck link.val else s

/-- NO_ACCEPT_TIMEOUT: every VC counts as XOFF (R255). -/
def execNoAcceptTimeout (link : LinkIx) (s : State) : Host.Outcome State Fault Refusal :=
  .next <| if (s.link link.val).state = .active then s.modLink link.val fun x => { x with xoff := 0xFF } else s

/-- ENCRYPTED_KEEPALIVE: an empty VC 0 data unit (R275). -/
def execEncryptedKeepalive (link : LinkIx) (s : State) : Host.Outcome State Fault Refusal :=
  let x := s.link link.val
  .next <| if x.state = .active && x.encrypt then
      s.sendUnits link.val [{ header := unitHeader 0 true true false 0 0 0 x.peer.moduleId s.moduleId 0, payload := [] }]
    else s

/-- LINK_IDLE_TIMEOUT: 10 µs without an acceptance start a full retrain (R263). -/
def execLinkIdleTimeout (link : LinkIx) (s : State) : Host.Outcome State Fault Refusal :=
  .next <| if (s.link link.val).state = .active then s.startLinkRetrain link.val .full (if (s.link link.val).nakSent then .noData else .silence) else s

/-- The lanes usable at this end change: a running link retrains short; a retrain under way takes the new masks with its
next TRAIN (R257, Table 8.8). -/
def State.setLanes (s : State) (l : Nat) (tx rx : BitVec 16) : State :=
  let x := s.link l
  if x.txLanes = tx ∧ x.rxLanes = rx then s
  else
    let s := s.modLink l fun y => { y with txLanes := tx, rxLanes := rx }
    if x.state = .active then s.startLinkRetrain l .short .lanes else s

/-- A link's lanes follow its engine's: dropped lanes leave the masks (R221, R257). -/
def State.syncLanes (s : State) (l : Nat) : State :=
  let e := s.engine (l / 8)
  s.setLanes l (e.laneMask (s.linkFiber l) false) (e.laneMask (s.linkFiber l) true)

/-- LINK_WIDTH_CHANGE: lanes are added or dropped (R257, R263). -/
def execLinkWidthChange (link : LinkIx) (txMask rxMask : BitVec 16) (s : State) : Host.Outcome State Fault Refusal :=
  .next <| s.setLanes link.val txMask rxMask

/-! ### Training (R258–R266) -/

/-- This end leads: the lower pair (module ID, link index), then the lower serial number (R259). -/
def State.leads (s : State) (l : Nat) (peer : ModId) (peerLink : Byte) (peerSerial : Option W64) : Bool :=
  let own := s.moduleId.toNat * 256 + l
  let far := peer.toNat * 256 + peerLink.toNat
  if own = far then (match peerSerial with
    | some p => decide ((Store.get 0 s.keeper.serials 0).toNat < p.toNat)
    | none => (s.link l).leader)
  else decide (own < far)

/-- Count a control message whose halves disagree (R258). -/
def State.rejectControl (s : State) (l : Nat) : State := s.countLink l lnReject 1

/-- RETRAIN_MESSAGE: the peer stops data units and joins; during a round the round ends and a new one starts (R263, R265). -/
def execRetrainMessage (link : LinkIx) (kind : RetrainKind) (peer : ModId) (peerLink : Byte) (round : Nat) (ok : Bool) (s : State) :
    Host.Outcome State Fault Refusal :=
  let l := link.val
  .next <| if !ok then s.rejectControl l
    else if (s.link l).state = .active || (s.link l).state = .retrain then
      let fresh := (s.link l).state = .active || decide ((s.link l).round < round)
        || (kind = .full && decide ((s.link l).kind = .short))
      let s := s.modLink l fun x => { x with leader := s.leads l peer peerLink none }
      if fresh then
        let s := s.startLinkRetrain l kind .received
        if (s.link l).leader then s else s.modLink l fun x => { x with round }
      else s
    else s

/-- The receiving engine learns from TRAIN that a lane rides another slot (R218): its drop ring of the old slot parks, that of the new one
searches, and a lane dropped because it failed the margin test on the old slot is used again (R221). -/
def State.learnSlot (s : State) (e f lane slot : Nat) : State :=
  let x := s.engine e
  let old := x.slotOf f true lane
  let k := laneKey f true lane
  if old = slot then s
  else
    let s := (s.park e f old true).modEngine e fun y => y.setSlot f true lane slot
    let s := if x.marginFailed.contains k then s.modEngine e fun y => { y with dropped := y.dropped.filter fun j => decide (j ≠ k) } else s
    if (s.engine e).dropped.contains k then s else s.search e f slot true

/-- The lane map of the far transmitter, as its TRAIN gives it (R218). -/
def State.learnSlots (s : State) (l : Nat) (slots : List Nat) : State :=
  (List.range 16).foldl (fun s i => s.learnSlot (l / 8) (s.linkFiber l) i (slots.getD i i)) s

/-- TRAIN_MESSAGE: masks, slots, sequences and the round trip are exchanged, the leader is fixed, and the leader sends OPEN
(R254, R259–R261, R274). -/
def execTrainMessage (link : LinkIx) (msg : TrainMsg) (s : State) : Host.Outcome State Fault Refusal :=
  let l := link.val
  .next <| if !msg.ok then s.rejectControl l
    else if !(s.link l).trains then s
    else if msg.serial = Store.get 0 s.keeper.serials 0 then
      if (s.link l).miscabled then s
      else (s.modLink l fun x => { x with miscabled := true }).notice (.miscabled link)
    else
      let x := s.link l
      let known := x.peer.serial ≠ 0
      let rtu := rtuOf msg.rttNs
      let again := msg.restart || (known && decide (x.peer.bootCount ≠ msg.bootCount)) || !x.inWindow msg.expect
      let s := s.modLink l fun y => { y with
        peer := { moduleId := msg.moduleId, linkIx := msg.linkIx, serial := msg.serial, bootCount := msg.bootCount }
        rtuNs := msg.rttNs, rtu, leader := s.leads l msg.moduleId msg.linkIx (some msg.serial), train := some msg
        restart := y.restart || again }
      let s := s.learnSlots l msg.slots
      let s := if (s.link l).leader then s else s.modLink l fun y => { y with round := msg.round }
      let x := s.link l
      if msg.encrypt ≠ x.encrypt ∨ (x.encrypt ∧ msg.keyIds ≠ x.keyIds.reverse) then
        (s.notice (.keyMismatch link)).failRetrain l
      else if 768 < rtu then s.logEvent "link fiber too long"
      else if !x.leader then s.sendTrain l
      else
        let o := s.openMsg l msg
        if openWide o then (s.modLink l fun y => { y with openSent := some o }).emit (.linkOpen link x.txLanes o) else s

/-- Both ends agree: the link enters ACTIVE, unless the round trip is longer than the receive pool bears (R254, R260). -/
def State.openLink (s : State) (l : Nat) (o : OpenMsg) : State :=
  if 768 < o.rtu then s.logEvent "link fiber too long" else s.enterActive l o

/-- OPEN_MESSAGE: the follower answers with its own computation and, where the two agree, enters ACTIVE (R260). -/
def execOpenMessage (link : LinkIx) (msg : OpenMsg) (s : State) : Host.Outcome State Fault Refusal :=
  let l := link.val
  .next <| if !msg.ok then s.rejectControl l
    else
      match (s.link l).train with
      | some t =>
        if !(s.link l).trains || (s.link l).leader then s
        else
          let o := s.openMsg l t
          let s := s.emit (.openEcho link (s.link l).txLanes o)
          if openAgrees o msg && openWide o then s.openLink l (joinOpen msg o) else s.linkRoundDisagrees l
      | none => s

/-- OPEN_ECHO_MESSAGE: the leader enters ACTIVE where the echo agrees with its OPEN; otherwise the round disagrees (R260). -/
def execOpenEchoMessage (link : LinkIx) (msg : OpenMsg) (s : State) : Host.Outcome State Fault Refusal :=
  let l := link.val
  .next <| if !msg.ok then s.rejectControl l
    else
      match (s.link l).openSent with
      | some o =>
        if !(s.link l).trains || !(s.link l).leader then s
        else if openAgrees o msg then s.openLink l (joinOpen o msg)
        else s.linkRoundDisagrees l
      | none => s

/-- TRAIN_ROUND_TIMEOUT: OPEN or OPEN_ECHO is missing after 100 µs (R260). -/
def execTrainRoundTimeout (link : LinkIx) (s : State) : Host.Outcome State Fault Refusal :=
  .next <| if (s.link link.val).trains && (s.link link.val).train.isSome then s.linkRoundDisagrees link.val else s

/-- TRAIN_REPEAT: a link that waits or trains sends TRAIN again (R262). -/
def execTrainRepeat (link : LinkIx) (s : State) : Host.Outcome State Fault Refusal :=
  .next <| if (s.link link.val).state = .waiting || (s.link link.val).state = .retrain then s.sendTrain link.val else s

/-- RETRAIN_LIMIT_MISS: a retrain that misses its limit has failed (R264, R266). -/
def execRetrainLimitMiss (link : LinkIx) (s : State) : Host.Outcome State Fault Refusal :=
  .next <| if (s.link link.val).state = .retrain then s.failRetrain link.val else s

/-- ACTIVE_STABLE_TIMER: 1 s in ACTIVE clears the count of failed retrains (R266). -/
def execActiveStableTimer (link : LinkIx) (s : State) : Host.Outcome State Fault Refusal :=
  .next <| if (s.link link.val).state = .active then s.modLink link.val fun x => { x with failed := 0 } else s

/-- LINK_WAIT_REPORT_TIMEOUT: a link not ACTIVE 1.0 s after its handover at start is reported as waiting (R262). -/
def execLinkWaitReportTimeout (link : LinkIx) (s : State) : Host.Outcome State Fault Refusal :=
  .next <| if (s.link link.val).state = .waiting && !(s.link link.val).waitReported then
      (s.modLink link.val fun x => { x with waitReported := true }).adjustReady
    else s

/-! ### Down links (R267–R270) -/

/-- Move a DOWN link's traffic to its twin from the peer's e on: units below it are released (R267, Table 8.9). -/
def State.moveToTwin (s : State) (l : Nat) (t : LinkIx) (expect : BitVec 12) : State :=
  let x := s.link l
  let below := if x.inWindow expect then (expect - x.a).toNat else 0
  let us := x.replay.drop below ++ x.queue
  let s := (s.countLink l lnMoved us.length).modLink l fun y => { y with
    replay := [], queue := [], a := y.n, moved := true, restart := true, lostReceived := some expect }
  s.ride l t.val us

/-- LINK_LOST_RECEIVE: the peer tells which units of the down link it has not accepted (R267). -/
def execLinkLostReceive (link : LinkIx) (expect : BitVec 12) (s : State) : Host.Outcome State Fault Refusal :=
  let l := link.val
  .next <| if (s.link l).state = .down && !(s.link l).moved && !(s.link l).held then
      match s.usableTwin l with
      | some t => s.moveToTwin l t expect
      | none => s.holdLink l
    else s.modLink l fun x => { x with lostReceived := some expect }

/-- LINK_LOST_TIMEOUT: the peer's LINK_LOST has not come within 1 ms, so the traffic is held (R267); one that came before
the link went DOWN here is used. -/
def execLinkLostTimeout (link : LinkIx) (s : State) : Host.Outcome State Fault Refusal :=
  let l := link.val
  .next <| if (s.link l).state = .down && !(s.link l).moved then
      match (s.link l).lostReceived, s.usableTwin l with
      | some e, some t => s.moveToTwin l t e
      | _, _ => s.holdLink l
    else s

/-- DOWN_TRAINING_ATTEMPT: every 1 s while light is present (R270). -/
def execDownTrainingAttempt (link : LinkIx) (light : Bool) (s : State) : Host.Outcome State Fault Refusal :=
  .next <| if (s.link link.val).state = .down && light then s.sendTrain link.val else s

/-! ### Keys (R273, R277) -/

/-- KEY_SLOT_SWITCH: after the peer has confirmed the installation, the sender names the other slot, and erases the old one
when its last unit is acknowledged; a receiver takes note of the slot its peer uses (R273). -/
def execKeySlotSwitch (link : LinkIx) (tx : Bool) (s : State) : Host.Outcome State Fault Refusal :=
  let x := s.link link.val
  .next <| if tx then
      if (x.txKey (x.txSlot + 1)).isSome then
        s.modLink link.val fun y =>
          let y := { y with txSlot := y.txSlot + 1, confirmed := true, underKey := 0, rotation := false, retireAt := some y.n }
          if y.a = y.n then y.ackBelow y.n else y
      else s
    else if (x.rxKey (x.rxSlot + 1)).isSome then s.modLink link.val fun y => { y with rxSlot := y.rxSlot + 1 }
    else s

/-- KEY_USE_THRESHOLD: new keys are asked for at 2^47 units; at 2^48 without a switch the link goes DOWN (R277). -/
def execKeyUseThreshold (link : LinkIx) (s : State) : Host.Outcome State Fault Refusal :=
  let x := s.link link.val
  .next <| if 2 ^ 48 ≤ x.underKey then s.linkDown link.val
    else if 2 ^ 47 ≤ x.underKey ∧ !x.rotation then
      (s.modLink link.val fun y => { y with rotation := true }).notice (.keyRotate link)
    else s

end Sys2Proof.Machine
end

