-- ==== Sys2Proof/Machine/Power.lean ====
section
/-! DEFINITION. Power commands (chapter 13): the 64 V input and the power stage, rails and phases, the governors, the power
cap, the fast limit, THROTTLE_N and the current-sense elements. -/

namespace Sys2Proof.Machine

/-! ### The 64 V input -/

/-- Band of the input voltage, in mV (Table 13.1). -/
def bandOf (mv : Nat) : InputBand := if mv < 54000 then .low else if mv ≤ 72000 then .operating else .high

/-- P_cap in mW (R390, R409). -/
def State.pCap (s : State) : Nat :=
  let cap := min 5400000 (100 * s.power.inputMv)
  if s.power.throttleN then min cap 2700000 else cap

/-- The power stage starts and brings up the 12 V bus. -/
def State.startPs (s : State) : State := { s with power := { s.power with ps := .running, bus12 := true, inrush := false } }

/-- INPUT_POWER_APPLIED: at 52 to 72 V for 10 ms an idle power stage starts (Table 13.1), from the calibration of its own EEPROM
(Table 14.1); it may be another stage than before, with its own serial number (R453). Log: DESIGN CHOICE 154. -/
def execInputPowerApplied (mv : Nat) (serial : W64) (calibrated : Bool) (s : State) : Host.Outcome State Fault Refusal :=
  .next <| if s.power.ps = .off && 52000 ≤ mv && decide (mv ≤ 72000) then
      { s with
        power := { s.power with inputMv := mv, band := bandOf mv, psCal := calibrated }
        keeper := { s.keeper with serials := Store.put 0 s.keeper.serials 1 serial } }.startPs
    else s

/-- INPUT_UNDERVOLTAGE: below 48 V for 1 ms the power stage stops and the module loses power; a stage kept off by R392
waits for the start row again. Log: DEDUCED 185. -/
def execInputUndervoltage (s : State) : Host.Outcome State Fault Refusal :=
  .next ({ s with power := { s.power with stoppedOnce := false, inputMv := 0 } }.losePower .off)

/-- INPUT_OVERVOLTAGE: above 76 V for 10 µs a running power stage stops (Table 13.1). Log: DEDUCED 185. -/
def execInputOvervoltage (s : State) : Host.Outcome State Fault Refusal :=
  .next (if s.power.ps = .running then s.losePower .overvoltage else s)

/-- OVERVOLTAGE_RESTART: after 1 s at or below 72 V the stage restarts under the start row. -/
def execOvervoltageRestart (mv : Nat) (s : State) : Host.Outcome State Fault Refusal :=
  .next <| if s.power.ps = .overvoltage && 52000 ≤ mv && decide (mv ≤ 72000) then
      { s with power := { s.power with inputMv := mv, band := bandOf mv } }.startPs
    else s

/-- INPUT_BAND_CHANGE: P_cap follows the input, and entry to or exit from a band of Table 13.1 writes a LOG event.
Log: DEDUCED 131. -/
def execInputBandChange (mv : Nat) (s : State) : Host.Outcome State Fault Refusal :=
  .next <| if s.power.ps = .running && 48000 ≤ mv && decide (mv ≤ 76000) then
      let old := s.power.band
      let s := { s with power := { s.power with inputMv := mv, band := bandOf mv } }
      if old = bandOf mv then s else s.logEvent "input band"
    else s

/-- PS_STOP: the stage stops and records the cause in its EEPROM; a second stop within 60 s of the first keeps it off
(R392). Log: DEDUCED 185. -/
def execPsStop (cause : PsStopCause) (sinceFirstStopS : Nat) (s : State) : Host.Outcome State Fault Refusal :=
  .next <| if s.power.ps = .running then
      let again := s.power.stoppedOnce && decide (sinceFirstStopS < 60)
      { s with power := { s.power with stoppedOnce := true, lastStop := some cause, eeprom := s.power.eeprom ++ [cause] } }.losePower
        (if again then .keptOff else .stopped)
    else s

/-- PS_RESTART_TIMER: 5 s after a stop the stage restarts once (R392). -/
def execPsRestartTimer (s : State) : Host.Outcome State Fault Refusal :=
  .next (if s.power.ps = .stopped then s.startPs else s)

/-- LIVE_INPUT_MATE: the stage limits inrush and charges its input capacitance before the start row applies (R470). -/
def execLiveInputMate (s : State) : Host.Outcome State Fault Refusal :=
  .next (if s.power.ps = .off then { s with power := { s.power with inrush := true } } else s)

/-! ### Counters of R410, by their place in Table 13.9 -/

abbrev pcMax0 : Nat := 2
abbrev pcMaxBase : Nat := 4
abbrev pcLevel0 : Nat := 5
abbrev pcRate : Nat := 7
abbrev pcBands : Nat := 8
abbrev pcDiverge : Nat := 9
abbrev pcTrips : Nat := 10
abbrev pcFast : Nat := 11
abbrev pcThrottle : Nat := 12
abbrev pcRamp : Nat := 13

/-! ### Rails and phases -/

/-- RAIL_SEQUENCE: the 12 V bus in regulation brings the rails up in the order of Table 13.3. Log: DEDUCED 130. -/
def execRailSequence (s : State) : Host.Outcome State Fault Refusal :=
  .next <| if s.power.bus12 && !s.power.railsUp && !s.power.escalated then
      { s with power := { s.power with railsUp := true, retained := true, rails := [] } }
    else s

/-- Rails without which the module does not start (R396): VAUX, VIO, VCTL_P0, VBASE_P0. -/
def vitalRail (rail : Nat) : Bool := rail = 0x78 || rail = 0x79 || rail = 0x28 || rail = 0x20

/-- RAIL_REGULATION_TIMEOUT: a rail not in regulation by 20 ms leaves its loads absent, or the module does not start
(R396). -/
def execRailRegulationTimeout (rail : Byte) (s : State) : Host.Outcome State Fault Refusal :=
  .next <| if (railSpec rail.toNat).isSome then
      let s := s.modRail rail.toNat fun r => { r with up := false }
      if vitalRail rail.toNat then { s with power := { s.power with railsUp := false } }
      else (railLoads rail.toNat).foldl State.loseLoad s
    else s

/-- PHASE_OVERCURRENT: the phase turns off for 10 µs and a trip is counted; the third in an interval makes it permanent
(R395, Table 12.2). -/
def execPhaseOvercurrent (rail : Byte) (phase : Nat) (s : State) : Host.Outcome State Fault Refusal :=
  .next <| if (s.rail rail.toNat).padlocked.contains phase then s
    else
      let c := phaseChan rail.toNat phase
      let s := (s.modRail rail.toNat fun r => { r with tripped := r.tripped ++ [phase] }).countCtx kPwr (railBase rail.toNat) rail.toNat 0 1
      let s := s.count 8 (railBase rail.toNat) pcTrips 1
      let r := s.transient c 1
      if r.2 then r.1.declareWith c .threshold 3 0 else r.1

/-- PHASE_RESTART: 10 µs after a trip the phase restarts, unless it is padlocked (R395). -/
def execPhaseRestart (rail : Byte) (phase : Nat) (s : State) : Host.Outcome State Fault Refusal :=
  .next (s.modRail rail.toNat fun r => { r with tripped := r.tripped.filter fun p => p ≠ phase })

/-! ### Governors -/

/-- The effective level of a die (R404): the highest request in force. -/
def govLevel (fast hold : Bool) (g : Governor) : Nat :=
  [g.thermal, g.rate, g.diode, g.rail, g.ramp, g.cap, if fast then 4 else 0, if hold then 4 else 0].foldl max 0

/-- Bring a die's effective level up to date. -/
def State.refresh (s : State) (die : Nat) : State :=
  s.modGovernor die fun g => { g with level := govLevel s.power.fastLimit s.power.throttleHold g }

/-- Bring every die's effective level up to date. -/
def State.refreshAll (s : State) : State := (List.range 12).foldl State.refresh s

/-- Engines on the base die beneath a compute die (Table 0.3). -/
def dieEngines (die : Nat) : List Nat := (List.range 8).filter fun e => engineBase e = die / 2

/-- The feed-forward ramp limit is in force (R406): a stale feed, or an engine beside the die without feed-forward. -/
def State.rampLimited (s : State) (die : Nat) : Bool :=
  !(s.governor die).stale.isEmpty
    || (dieEngines die).any fun e => (s.site e).configured && !(s.site e).feedForward

/-- The ramp request at a 1 µs loop (R406): up one step when the rise over 10 µs reaches 25 W, down one step per 10 µs
while it stays below 12.5 W. -/
def rampStep (limited : Bool) (nowMw : Nat) (g : Governor) : Governor :=
  if !limited then { g with ramp := 0, rampAge := 0 }
  else
    let past := g.power.getD 9 nowMw
    if past + 25000 ≤ nowMw then { g with ramp := min 7 (g.ramp + 1), rampAge := 0 }
    else if nowMw < past + 12500 then
      if 9 ≤ g.rampAge then { g with ramp := g.ramp - 1, rampAge := 0 } else { g with rampAge := g.rampAge + 1 }
    else { g with rampAge := 0 }

/-- Current on a rail in 10 mA, summed over its phases. -/
def Rail.total (r : Rail) : Nat := (r.current.map fun (p : Nat × Nat) => p.2).sum

/-- VBASE of a base die carries more than its phases left allow, by its measured current (R395). Log: DEDUCED 18. -/
def State.baseOver (s : State) (base : Nat) : Bool :=
  decide (s.phasesLeft (0x20 + base) < 3) && decide (s.phasesLeft (0x20 + base) * 4000 < (s.rail (0x20 + base)).total)

/-- A rail of the die needs throttling (R395): VCORE by the die's power, VBASE by its measured current. Log: DEDUCED 18. -/
def State.railOver (s : State) (die nowMw : Nat) : Bool :=
  (decide (s.phasesLeft die < 6) && decide (s.phasesLeft die * 49000 ≤ nowMw)) || s.baseOver (die / 2)

/-- The rail request at a 1 µs loop: up one step while its rail is over its limit, down one step per 1 ms (R395, R404; log
entry 18). Log: DEDUCED 18. -/
def railStep (high : Bool) (g : Governor) : Governor :=
  if high then { g with rail := min 7 (g.rail + 1), railAge := 0 }
  else if g.rail = 0 then g
  else if 999 ≤ g.railAge then { g with rail := g.rail - 1, railAge := 0 } else { g with railAge := g.railAge + 1 }

/-- A stack's issue rate is throttled with its base die's rail, in the loop of the compute die of the same number (R395).
Log: DEDUCED 18. -/
def State.stackRail (s : State) (k : Nat) : State :=
  let high := s.baseOver (k / 2)
  s.modStack k fun x =>
    if high then { x with issueRail := min 7 (x.issueRail + 1), issueAge := 0 }
    else if x.issueRail = 0 then x
    else if 999 ≤ x.issueAge then { x with issueRail := x.issueRail - 1, issueAge := 0 } else { x with issueAge := x.issueAge + 1 }

/-- The counters of R410 that a 1 µs loop moves: the effective level, the microseconds under the ramp limit, the fast limit and
THROTTLE_N. A base die's own microseconds are counted with its even compute die, the ramp limit with either. -/
def State.countLoop (s : State) (d : Nat) : State :=
  let b := d / 2
  let s := s.count 8 b (pcLevel0 + d % 2) (s.governor d).level
  let s := if s.rampLimited d && (d % 2 = 0 || !s.rampLimited (d - 1)) then s.count 8 b pcRamp 1 else s
  if d % 2 = 0 then
    let s := if s.power.fastLimit then s.count 8 b pcFast 1 else s
    if d = 0 ∧ s.power.throttleN then s.count 8 0 pcThrottle 1 else s
  else s

/-- GOVERNOR_LOOP: the 1 µs loop of a compute die (R404, R406). -/
def execGovernorLoop (die : Die) (powerMw : Nat) (s : State) : Host.Outcome State Fault Refusal :=
  let d := die.val
  .next <| (((s.modGovernor d fun g =>
    let g := railStep (s.railOver d powerMw) (rampStep (s.rampLimited d) powerMw g)
    { g with power := (powerMw :: g.power).take 10 }).refresh d).countLoop d).stackRail d

/-! ### The power cap -/

/-- Change the cap request of every compute die. -/
def State.capAll (s : State) (f : Nat → Nat) : State :=
  (List.range 12).foldl (fun t d => t.modGovernor d fun g => { g with cap := f g.cap }) s

/-- The keeper's first power-cap step after an assertion of THROTTLE_N (R409). -/
def State.seeThrottle (s : State) : State :=
  if s.power.throttleN && s.power.throttleUnseen then
    let s := s.capAll (max 4)
    { s with power := { s.power with throttleUnseen := false
                                     throttleHold := s.power.throttleHold && !s.power.throttleHoldDue } }
  else s

/-- The cap loop proper (R405). -/
def State.capLoop (s : State) (inputMw : Nat) : State :=
  let p := s.power
  let level := (s.governor 0).cap
  let bar := match p.capBar with
    | some (l, n) => if n ≤ 1 then none else some (l, n - 1)
    | none => none
  if s.pCap < inputMw then
    let s := s.capAll fun k => min 7 (k + 1)
    { s with power := { s.power with
        capBelow := 0, capLowered := false, capBar := if p.capLowered then some (level, 10000) else bar } }
  else if inputMw * 10 < s.pCap * 9 then
    let barred := match bar with | some (l, _) => l + 1 = level | none => false
    if 9 ≤ p.capBelow && decide (0 < level) && !barred then
      let s := s.capAll fun k => k - 1
      { s with power := { s.power with capBelow := 0, capLowered := true, capBar := bar } }
    else { s with power := { p with capBelow := min 10 (p.capBelow + 1), capLowered := false, capBar := bar } }
  else { s with power := { p with capBelow := 0, capLowered := false, capBar := bar } }

/-- The input power that is compared with P_cap: 1.05 times the measured one where the power stage has no calibration (Table 14.2). -/
def State.capInput (s : State) (inputMw : Nat) : Nat := if s.power.psCal then inputMw else (105 * inputMw + 99) / 100

/-- POWER_CAP_STEP: the keeper's 100 µs step (R405, R409). -/
def execPowerCapStep (inputMw : Nat) (s : State) : Host.Outcome State Fault Refusal :=
  .next <| if s.keeper.idore then
      (({ s with power := { s.power with inputMw := inputMw } }.seeThrottle).capLoop (s.capInput inputMw)).refreshAll
    else { s with power := { s.power with inputMw := inputMw } }

/-! ### The fast limit and THROTTLE_N -/

/-- FAST_LIMIT_ASSERT: every governor takes at least level 4 (R407). -/
def execFastLimitAssert (s : State) : Host.Outcome State Fault Refusal :=
  let s := (List.range 6).foldl (fun t b => t.count kPwr b 1 1) s
  .next ({ s with power := { s.power with fastLimit := true } }.refreshAll.emit (.signal (.fastLimit 4)))

/-- FAST_LIMIT_RELEASE: 100 µs after the condition clears the fast limit ends (R407). -/
def execFastLimitRelease (s : State) : Host.Outcome State Fault Refusal :=
  .next ({ s with power := { s.power with fastLimit := false } }.refreshAll)

/-- THROTTLE_N_ASSERT: P_cap becomes 2,700 W, the sequencer requests level 4 on every governor and the keeper writes a LOG event
(R409). -/
def execThrottleNAssert (s : State) : Host.Outcome State Fault Refusal :=
  .next <| if s.power.throttleN then s
    else { s with power := { s.power with
      throttleN := true, throttleHold := true, throttleHoldDue := false, throttleUnseen := true } }.refreshAll.logEvent "THROTTLE_N asserted"

/-- THROTTLE_N_DEASSERT: P_cap returns, the sequencer's request ends and the keeper writes a LOG event (R408, R409). -/
def execThrottleNDeassert (s : State) : Host.Outcome State Fault Refusal :=
  .next <| if s.power.throttleN then { s with power := { s.power with
      throttleN := false, throttleHold := false, throttleHoldDue := false, throttleUnseen := false } }.refreshAll.logEvent "THROTTLE_N deasserted"
    else s

/-- THROTTLE_HOLD_END: 1 ms after the assertion the request ends, if the keeper has acted on it (R409). -/
def execThrottleHoldEnd (s : State) : Host.Outcome State Fault Refusal :=
  .next <| if !s.power.throttleN then s
    else { s with power := { s.power with
      throttleHoldDue := true, throttleHold := s.power.throttleHold && s.power.throttleUnseen } }.refreshAll

/-- THROTTLE_N_LONG_HOLD: after 1 s of continuous assertion the keeper writes a LOG event (R409). -/
def execThrottleNLongHold (s : State) : Host.Outcome State Fault Refusal :=
  .next (if s.power.throttleN then s.logEvent "THROTTLE_N held" else s)

/-! ### Current-sense elements -/

/-- Two readings agree within `pct` per cent of their mean. Log: DEDUCED 38. -/
def agree (pct a b : Nat) : Bool := 200 * (max a b - min a b) ≤ pct * (a + b)

/-- Count or clear one consecutive comparison. -/
def runLength (yes : Bool) (m : Store Nat) (k : Nat) : Store Nat := Store.put 0 m k (if yes then Store.get 0 m k + 1 else 0)

/-- SENSE_ELEMENT_COMPARE: the 1 ms comparison of a phase's three elements (R419). The run of a divergent chosen element is
kept at the phase's own key, the run with no agreeing pair 64 above it. Log: DEDUCED 38. -/
def execSenseElementCompare (rail : Byte) (phase : Nat) (readings : List Nat) (s : State) :
    Host.Outcome State Fault Refusal :=
  let r := s.rail rail.toNat
  let e := Store.get 0 r.element phase
  let x := readings.getD e 0
  let y := readings.getD ((e + 1) % 3) 0
  let z := readings.getD ((e + 2) % 3) 0
  let off := agree 2 y z && decide (3 * (y + z) < 100 * (max (2 * x) (y + z) - min (2 * x) (y + z)))
  let none3 := !agree 3 x y && !agree 3 y z && !agree 3 x z
  let d := runLength none3 (runLength off r.diverging phase) (phase + 64)
  let bad := decide (10 ≤ Store.get 0 d phase)
  let lost := decide (10 ≤ Store.get 0 d (phase + 64))
  let d := Store.put 0 d phase (if bad then 0 else Store.get 0 d phase)
  let s := s.modRail rail.toNat fun q => { q with
    current := Store.put 0 q.current phase (s.cal.sensed rail.toNat phase x), readings := Store.put [] q.readings phase readings
    diverging := d }
  let s := if bad then (s.declareWith (senseChan rail.toNat phase e) .threshold 10 0).count kCal (railBase rail.toNat) 2 1 else s
  .next (if lost then s.declareWith (phaseChan rail.toNat phase) .threshold 10 0 else s)

end Sys2Proof.Machine
end

