-- ==== Sys2Proof/Machine/Optics.lean ====
section
/-! DEFINITION. Optical engines and laser cartridges (chapter 7): the optical start, rings, thermal feed-forward, laser
fade and migration, lane moves, the spare fiber, and cartridges. -/

namespace Sys2Proof.Machine

/-! ### Shared operations -/

/-- Drop a lane of a fiber, by the width rules of its link (R224, R226, R231). -/
def State.dropLane (s : State) (e f : Nat) (rx : Bool) (lane : Nat) : State :=
  let s := s.modEngine e fun x => x.dropLane f rx lane
  match s.fiberLink e f with
  | some l => s.syncLanes l
  | none => s

/-- The complex of an engine's base die. -/
def engineDie (e : Nat) : BaseDie := asBase (engineBase e)

/-! ### The optical start (R219, R236, R237) -/

/-- Every ring in use on some fibers searches for its slot (Table 7.3), with the segment that calibration selects (R206). -/
def State.searchRings (s : State) (e : Nat) (fibers : List Nat) : State :=
  fibers.foldl (fun s f => (List.range 16).foldl (fun s i => [false, true].foldl (fun s rx =>
    let x := s.engine e
    if x.dropped.contains (laneKey f rx i) then s
    else
      let slot := x.slotOf f rx i
      let s := s.modEngine e fun x => x.modRing (ringKey f slot rx) fun r => { r with segment := (s.chosenSegment e f slot rx).getD r.segment }
      s.search e f slot rx) s) s) s

/-- Ledger entries that name lasers of a cartridge's engines, still open. -/
def laserEntries (ledger : List LedgerEntry) (cart : Nat) : List LedgerEntry :=
  (openEntries ledger).filter fun e => chanKind e.chan = 0x20 && decide (chanBits e.chan 21 3 / 4 = cart)

/-- A cartridge with another serial number (R237): its lasers start unpadlocked, the entries of the old ones are closed, and
lane maps return to slot L for lane L but for recorded ring and fiber substitutions. -/
def State.newCartridge (s : State) (c : Nat) : State :=
  let old := laserEntries s.faults.ledger c
  let s := old.foldl (fun t e => t.ledgerWrite laClose e.chan noChan (BitVec.ofNat 32 e.seq.toNat)) s
  let s := { s with faults := { s.faults with
    padlocked := s.faults.padlocked.filter fun x => !(chanKind x = 0x20 && decide (chanBits x 21 3 / 4 = c)) } }
  let kept := (openEntries s.faults.ledger).filter fun e => chanKind e.chan = 0x24 && decide (e.action = laReplace)
  let s := (List.range 4).foldl (fun t j => t.modEngine (4 * c + j) fun x => { x with
    lasers := [], lanes := kept.foldl (fun m e =>
      if chanBits e.chan 21 3 = 4 * c + j then
        Store.put none m (32 * chanBits e.chan 17 4 + 16 * chanBits e.chan 12 1 + chanBits e.chan 13 4) (some (e.data.toNat % 32))
      else m) (x.lanes.filter fun p => 16 ≤ p.1 % 32) }) s
  { s with optics := { s.optics with ledgerSerial := Store.put 0 s.optics.ledgerSerial c (s.cart c).serial } }

/-- Step 0 of Table 7.3: a cartridge's EEPROM is read; one whose words disagree is absent (R237). -/
def State.readCartridge (s : State) (c : Nat) : State :=
  let k := s.cart c
  if !k.present || !k.wordsOk || k.read then s
  else
    let s := s.modCart c fun x => { x with read := true, overtemp := false }
    let held := Store.get 0 s.optics.ledgerSerial c
    if held = k.serial then s
    else if held = 0 then
      { s with optics := { s.optics with ledgerSerial := Store.put 0 s.optics.ledgerSerial c k.serial } }
    else s.newCartridge c

/-! ### Choosing a slot and moving lanes (R224–R230) -/

/-- Spare slots of an engine (Table 7.1, Table 6.11). -/
def State.spareSlots (s : State) (e : Nat) : List Nat := [16, 17].take (s.site e).wlSpare

/-- A slot is free on a fiber: no lane rides it, no migration takes it there, and its ring is not permanent. -/
def Engine.slotFree (x : Engine) (f slot : Nat) : Bool :=
  (x.laneOn f slot).isNone && decide ((x.ring (ringKey f slot false)).state ≠ .permanent)
    && !(x.migrations.any fun m => m.slot = slot && m.fibers.any fun p => decide (p.fiber = f))

/-- Fibers in service whose lane map uses a slot (R223, R224). -/
def State.fibersOn (s : State) (e slot : Nat) : List Nat :=
  (List.range 9).filter fun f =>
    ((s.engine e).laneOn f slot).isSome && !(s.engine e).deadFibers.contains f
      && (match s.fiberLink e f with | some l => decide ((s.link l).state ≠ .absent) | none => false)

/-- A tunable laser that remains to be tuned. Log: DEDUCED 145. -/
def State.darkTunable (s : State) (e : Nat) : Option Nat :=
  let x := s.engine e
  [16, 17].find? fun k => !(x.laser k).lit && !(x.laser k).retired && !s.isPadlocked (laserChan e k)
    && !(x.migrations.any fun m => decide (m.tunable = some k))

/-- The spare slot for a move of the lanes of some fibers (R224), with the tunable laser to be tuned under choice 2.
Log: DEDUCED 145. -/
def State.chooseSlot (s : State) (e : Nat) (fibers : List Nat) : Option (Nat × Option Nat) :=
  let x := s.engine e
  let lit := (s.spareSlots e).filter fun k => (x.laserOn k).isSome
  let dark := (s.spareSlots e).filter fun k => (x.laserOn k).isNone && !(x.migrations.any fun m => decide (m.slot = k))
  let free (k : Nat) : Nat := (fibers.filter fun f => x.slotFree f k).length
  match lit.find? fun k => free k = fibers.length with
  | some k => some (k, none)
  | none =>
    match dark.head?, s.darkTunable e with
    | some k, some t => some (k, some t)
    | _, _ =>
      match lit.filter fun k => 0 < free k with
      | [] => none
      | [k] => some (k, none)
      | k :: j :: _ => some (if free k < free j then j else k, none)

/-- Change a migration. -/
def State.modMigration (s : State) (e : Nat) (p : Migration → Bool) (f : Migration → Migration) : State :=
  s.modEngine e fun x => { x with migrations := x.migrations.map fun m => if p m then f m else m }

/-- Change the stage of one fiber of a migration. -/
def setStageOf (f : Nat) (st : MigStage) (m : Migration) : Migration :=
  { m with fibers := m.fibers.map fun p => if p.fiber = f then { p with stage := st } else p }

/-- MIG_OFFER on a fiber's link (Table 7.5). -/
def State.offer (s : State) (e : Nat) (m : Migration) (p : MigFiber) : State :=
  match s.fiberLink e p.fiber with
  | some l => (s.emit (.migOffer (asLink l) p.lane (((s.engine e).laserSlot m.laser).getD m.laser) m.slot)).countEngine e enOffered
  | none => s

/-- The steps of Table 7.5 from the ledger entry on: the entry, the rings of slot s locked and driven, and the offers. A fiber whose
ring has not locked searches, and offers then. -/
def State.duplicate (s : State) (e : Nat) (m : Migration) : State :=
  let old := ((s.engine e).laserSlot m.laser).getD m.laser
  let moving := m.fibers.filter fun p => decide (p.stage ≠ .staying)
  let s :=
    if m.single then
      moving.foldl (fun t p => t.ledgerWrite laReplace (optLaneChan e p.fiber p.lane false) noChan (BitVec.ofNat 32 m.slot)) s
    else s.ledgerWrite laReplace (laserChan e m.laser) (laserChan e (((s.engine e).laserOn m.slot).getD 16))
        (moveData (moving.map fun p => p.fiber) old m.slot)
  let s := s.modMigration e (fun y => y.laser = m.laser && decide (y.slot = m.slot)) fun y => { y with ledgered := true, begun := true }
  moving.foldl (fun t p =>
    let t := t.lockRing e p.fiber m.slot false
    if ((t.engine e).ring (ringKey p.fiber m.slot false)).state = .locked then t.offer e m p
    else t.modMigration e (fun y => y.laser = m.laser && decide (y.slot = m.slot)) (setStageOf p.fiber .searching)) s

/-- Retire a laser: off and padlocked (Table 7.5, R229). -/
def State.retireLaser (s : State) (e k : Nat) : State :=
  ((s.modEngine e fun x => x.modLaser k fun l => { l with lit := false, retired := true, noted := none }).raise (engineDie e)
    { cause := .threshold, suspect := laserChan e k }).padlock (laserChan e k)

/-- Lanes left on a retired laser are dropped; those that still duplicate take the new slot at their link's next training
(R224, R226, R227). A migration without its ledger entry changes no map, so its lanes are dropped too (R218). -/
def State.settleFiber (s : State) (e : Nat) (m : Migration) (p : MigFiber) : State :=
  match p.stage with
  | .accepted _ => s
  | .refused | .staying => s.dropLane e p.fiber false p.lane
  | _ =>
    if m.ledgered then
      (s.modEngine e fun x => x.setSlot p.fiber false p.lane m.slot).park e p.fiber (((s.engine e).laserSlot m.laser).getD m.laser) false
    else s.dropLane e p.fiber false p.lane

/-- End a migration: laser k is retired, unless a single lane moved (R225, R230). -/
def State.endMigration (s : State) (e : Nat) (m : Migration) : State :=
  let s := s.modEngine e fun x => { x with migrations := x.migrations.filter fun y => decide (y ≠ m), lastMigration := some m }
  if m.single then s
  else
    let s := m.fibers.foldl (fun t p => t.settleFiber e m p) s
    if ((s.engine e).laser m.laser).retired then s
    else (s.retireLaser e m.laser).onRecord (laserChan e m.laser) .threshold
      (markRecord .replaced (laserChan e (((s.engine e).laserOn m.slot).getD 16)) 1)

/-- Every fiber of a migration has its answer. -/
def Migration.answered (m : Migration) : Bool :=
  m.fibers.all fun p => match p.stage with | .accepted _ | .refused | .staying => true | _ => false

/-- No spare slot: the lanes of a laser are dropped on every fiber and it is retired (R224). -/
def State.dropLaser (s : State) (e k : Nat) : State :=
  let slot := ((s.engine e).laserSlot k).getD k
  let s := (List.range 9).foldl (fun t f => match (t.engine e).laneOn f slot with
    | some i => t.dropLane e f false i
    | none => t) s
  ((s.retireLaser e k).leftPadlocked (laserChan e k) .threshold)

/-- Note a migration of a laser's lanes to a slot. -/
def State.planMigration (s : State) (e k : Nat) (cls : FadeClass) (slot : Nat) (t : Option Nat) : State × Migration :=
  let x := s.engine e
  let old := (x.laserSlot k).getD k
  let fibers := (s.fibersOn e old).map fun f =>
    ({ fiber := f, lane := (x.laneOn f old).getD 0, stage := if x.slotFree f slot then .offered 1 else .staying } : MigFiber)
  let m : Migration := { laser := k, cls, slot, single := false, tunable := t, begun := false, ledgered := false, fibers }
  (s.modEngine e fun y => { y with migrations := y.migrations ++ [m] }, m)

/-- Begin a migration: tune a laser where the slot is dark, otherwise duplicate and offer (Table 7.5). -/
def State.beginMigration (s : State) (e : Nat) (m : Migration) : State :=
  let s := s.modMigration e (fun y => y = m) fun y => { y with begun := true }
  match m.tunable with
  | some t => s.light e t (some m.slot)
  | none => s.duplicate e m

/-- A move without duplication while no traffic flows (Table 7.3) or after a failure (R229): the laser is retired at the
first step, the lanes follow as offers are answered. Log: DEDUCED 44. -/
def State.failedMigration (s : State) (e k : Nat) : State :=
  let old := ((s.engine e).laserSlot k).getD k
  match s.chooseSlot e (s.fibersOn e old) with
  | none => s.dropLaser e k
  | some (slot, t) =>
    let r := s.planMigration e k .failed slot t
    let s := (r.1.retireLaser e k).onRecord (laserChan e k) .threshold (markRecord .replaced noChan 1)
    s.beginMigration e { r.2 with begun := false }

/-- A migration of the engine is running. -/
def Engine.busy (x : Engine) : Bool := x.migrations.any fun m => !m.single

/-- Close the open ledger entry of a laser (R337). -/
def State.closeLaserEntry (s : State) (c : Chan) : State :=
  (((openEntries s.faults.ledger).filter fun x => decide (x.chan = c)).map fun x => x.seq).foldl (fun t n =>
    t.ledgerWrite laClose c noChan (BitVec.ofNat 32 n.toNat)) s

/-- Abandon a scheduled migration for an urgent laser (Table 7.6a): its duplicates stop, its ledger entry gives way to the urgent
laser's, and its laser stays lit and is queued again. Log: DEDUCED 145. -/
def State.abandon (s : State) (e : Nat) (m : Migration) : State :=
  let s := m.fibers.foldl (fun t p => t.park e p.fiber m.slot false) s
  let s := if m.ledgered then s.closeLaserEntry (laserChan e m.laser) else s
  s.modEngine e fun x =>
    ({ x with migrations := x.migrations.filter (fun y => decide (y ≠ m)), lastMigration := some m }).modLaser m.laser fun l =>
      { l with noted := some .scheduled }

/-- A laser has met a fade threshold (R224, R228). -/
def State.fade (s : State) (e k : Nat) (cls : FadeClass) : State :=
  let x := s.engine e
  let slot := (x.laserSlot k).getD k
  let fibers := s.fibersOn e slot
  if !(x.laser k).lit || (x.laser k).retired || (x.migrations.any fun m => !m.single && decide (m.laser = k)) then s
  else
    match cls with
    | .failed => s.failedMigration e k
    | .scheduled =>
      if x.busy then s.modEngine e fun y => y.modLaser k fun l => { l with noted := some .scheduled }
      else
        match s.chooseSlot e fibers with
        | some (sl, t) => (s.planMigration e k cls sl t).1
        | none => s.modEngine e fun y => y.modLaser k fun l => { l with noted := some .scheduled }
    | .urgent =>
      match s.chooseSlot e fibers with
      | some (sl, t) => (s.planMigration e k cls sl t).1
      | none =>
        match x.migrations.find? fun m => !m.single && m.cls = .scheduled
            && !(m.fibers.any fun p => match p.stage with | .accepted _ | .refused => true | _ => false) with
        | some m =>
          let s := s.abandon e m
          match s.chooseSlot e fibers with
          | some (sl, t) => (s.planMigration e k cls sl t).1
          | none => s.dropLaser e k
        | none => s.dropLaser e k

/-- A queued laser's migration follows when the running one ends (Table 7.6a). -/
def State.nextFade (s : State) (e : Nat) : State :=
  if (s.engine e).busy then s
  else
    match (List.range 18).find? fun k => ((s.engine e).laser k).noted = some .scheduled && ((s.engine e).laser k).lit with
    | some k => (s.modEngine e fun x => x.modLaser k fun l => { l with noted := none }).fade e k .scheduled
    | none => s

/-- Tuning work of the engine is under way: a ring searches, or a tunable laser is on its way to a slot (Table 7.5).
Log: DEDUCED 145. -/
def Engine.tuning (x : Engine) : Bool :=
  (x.rings.any fun p => decide (p.2.state = .sweeping) || decide (p.2.state = .searching))
    || x.migrations.any fun m => m.tunable.isSome && m.begun && !m.ledgered

/-- A migration of the scheduled class waits for the engine's other tuning work (Table 7.5). Log: DEDUCED 145. -/
def State.mustWait (s : State) (e : Nat) (m : Migration) : Bool := m.cls = .scheduled && (s.engine e).tuning

/-- Move one lane on one fiber (R230); answers whether a spare slot was found. A lane whose old ring still modulates is duplicated, and at
the scheduled class waits for the engine's other tuning work; one whose ring does not is moved as R229 gives, at once. -/
def State.moveLane (s : State) (e f lane : Nat) (cls : FadeClass) : State × Bool :=
  let x := s.engine e
  let old := x.slotOf f false lane
  match s.chooseSlot e [f] with
  | none => (s, false)
  | some (slot, t) =>
    let m : Migration := { laser := (x.laserOn old).getD old, cls, slot, single := true, tunable := t, begun := false,
                           ledgered := false, fibers := [{ fiber := f, lane, stage := .offered 1 }] }
    let s := s.modEngine e fun y => { y with migrations := y.migrations ++ [m] }
    (if (x.ring (ringKey f old false)).state = .locked ∧ s.mustWait e m then s else s.beginMigration e m, true)

/-- A transmit lane that must leave its slot is moved, or dropped where no spare serves (R221, R230). -/
def State.loseTxLane (s : State) (e f lane : Nat) : State :=
  let r := s.moveLane e f lane .scheduled
  if r.2 then r.1 else s.dropLane e f false lane

/-- A receive lane asks the far end to move it (R231). -/
def State.askLane (s : State) (e f lane : Nat) : State :=
  match s.fiberLink e f with
  | some l => s.emit (.laneReq (asLink l) lane)
  | none => s

/-- A ring is permanent: its lane is moved, or the far end is asked to move it (R212, R230, R231). -/
def State.loseRing (s : State) (e f slot : Nat) (drop : Bool) (cause : Cause) : State :=
  let lane := (s.engine e).ringLane f slot drop
  let s := s.declareWith (ringChan e f slot drop) cause 0 0
  match lane with
  | some i => if drop then s.askLane e f i else s.loseTxLane e f i
  | none => s

/-- The next heater segment of a ring, the best of the unused ones (R418), replaces one that is permanent or rejected, and the ring
searches in service; without one the ring is permanent (R212). -/
def State.changeSegment (s : State) (e f slot : Nat) (drop : Bool) : State :=
  let k := ringKey f slot drop
  let r := (s.engine e).ring k
  let bad := if r.badSegments.contains r.segment then r.badSegments else r.badSegments ++ [r.segment]
  let s := (s.modEngine e fun x => x.modRing k fun q => { q with badSegments := bad, releases := 0, failures := 0 })
  match s.chosenSegment e f slot drop with
  | some i =>
    let s := s.modEngine e fun x => x.modRing k fun q => { q with segment := i, driving := false }
    (s.modEngine e fun x => x.modRing k fun q => { q with state := .searching, heater := (s.heaterWindow e f slot drop).1 }).countEngine
      e enSegment |>.countEngine e enSearch
  | none => s.loseRing e f slot drop .threshold

/-- The lane that a released modulator ring carried is not ready until its ring has locked again (R211). -/
def Engine.unready (x : Engine) (f slot : Nat) : Engine :=
  match x.ringLane f slot false with
  | some i => { x with notReady := if x.notReady.contains (laneKey f false i) then x.notReady else x.notReady ++ [laneKey f false i] }
  | none => x

/-- A ring releases (R211): it stops driving, its lane is not ready, and it searches in service from the low edge of its window; after
three releases in one interval it changes heater segment. A fiber that duplicates through it stops, and offers again once the ring has
locked (Table 7.6a). -/
def State.releaseRing (s : State) (e f slot : Nat) (drop : Bool) : State :=
  let k := ringKey f slot drop
  let low := (s.heaterWindow e f slot drop).1
  let s := (s.modEngine e fun x => x.modRing k fun r =>
    { r with state := .searching, driving := false, failures := 0, releases := r.releases + 1, heater := low }).countEngine e enRelease
  let s := if drop then s else s.modEngine e fun x => x.unready f slot
  let s := (s.transient (ringChan e f slot drop) 1).1
  let s := if drop then s else s.modMigration e (fun m => m.slot = slot && m.fibers.any fun p => decide (p.fiber = f))
    (setStageOf f .searching)
  if 3 ≤ ((s.engine e).ring k).releases then s.changeSegment e f slot drop else s.countEngine e enSearch

/-- RING_LOCK_LOSS (R207, R211). -/
def execRingLockLoss (ring : RingId) (s : State) : Host.Outcome State Fault Refusal :=
  let d := decide (ring.kind = .drop)
  .next <| if ((s.engine ring.engine.val).ring (ringKey ring.fiber.val ring.slot.val d)).state = .locked then
      s.releaseRing ring.engine.val ring.fiber.val ring.slot.val d
    else s

/-- RESONANCE_TONE_MEASURED: the ring locks where the three conditions of R210 hold, and counts a wrong lock and searches on upward
otherwise. A modulator ring locks only when its own laser is lit. The heater power of a resonance is a free value. -/
def execResonanceToneMeasured (ring : RingId) (tone : ToneReading) (s : State) : Host.Outcome State Fault Refusal :=
  let e := ring.engine.val
  let f := ring.fiber.val
  let slot := ring.slot.val
  let d := decide (ring.kind = .drop)
  let k := ringKey f slot d
  let st := ((s.engine e).ring k).state
  .next <| if st = .sweeping ∨ st = .searching then
      let s := s.modEngine e fun x => x.modRing k fun r => { r with tone := some tone }
      if s.toneGood e tone && tone.heaterInWindow && (d || s.slotLit e slot) then
        let s := s.holdRing e f slot d
        if d then s
        else (s.engine e).migrations.foldl (fun t m =>
          match m.fibers.find? fun p => m.slot = slot && p.fiber = f && decide (p.stage = .searching) with
          | some p => (t.modMigration e (fun y => y = m) (setStageOf f (.offered 1))).offer e m p
          | none => t) s
      else
        ((s.modEngine e fun x => x.modRing k fun r => { r with heater := s.fresh.toNat % 28001 }).spend).countEngine e enWrong
    else s

/-- RING_SEARCH_TIMEOUT: the search has failed; a drop ring without light waits (R210). -/
def execRingSearchTimeout (ring : RingId) (light : Bool) (s : State) : Host.Outcome State Fault Refusal :=
  let d := decide (ring.kind = .drop)
  let k := ringKey ring.fiber.val ring.slot.val d
  let st := ((s.engine ring.engine.val).ring k).state
  .next <| if st = .sweeping ∨ st = .searching then
      s.modEngine ring.engine.val fun x => x.modRing k fun r => { r with state := if d && !light then .waiting else .failed }
    else s

/-- DROP_RING_RESEARCH: a drop ring that waits for light searches again, by a sweep before any link has opened and in its window
afterwards (R209, R210). -/
def execDropRingResearch (ring : RingId) (s : State) : Host.Outcome State Fault Refusal :=
  let k := ringKey ring.fiber.val ring.slot.val true
  .next <| if ring.kind = .drop ∧ ((s.engine ring.engine.val).ring k).state = .waiting then
      s.search ring.engine.val ring.fiber.val ring.slot.val true
    else s

/-- RING_TONE_RECHECK: two consecutive failures of condition 1 or 2 release the ring (R211). -/
def execRingToneRecheck (ring : RingId) (tone : ToneReading) (s : State) : Host.Outcome State Fault Refusal :=
  let d := decide (ring.kind = .drop)
  let k := ringKey ring.fiber.val ring.slot.val d
  let r := (s.engine ring.engine.val).ring k
  let s := if r.state = .locked then s.modEngine ring.engine.val fun x => x.modRing k fun q => { q with tone := some tone } else s
  .next <| if r.state ≠ .locked then s
    else if s.toneGood ring.engine.val tone then s.modEngine ring.engine.val fun x => x.modRing k fun q => { q with failures := 0 }
    else if r.failures = 0 then s.modEngine ring.engine.val fun x => x.modRing k fun q => { q with failures := 1 }
    else s.releaseRing ring.engine.val ring.fiber.val ring.slot.val d

/-- HEATER_SEGMENT_FAULT: the segment is permanent and the next unused one replaces it (R212). -/
def execHeaterSegmentFault (ring : RingId) (s : State) : Host.Outcome State Fault Refusal :=
  let e := ring.engine.val
  let d := decide (ring.kind = .drop)
  let r := (s.engine e).ring (ringKey ring.fiber.val ring.slot.val d)
  .next <| if r.state = .permanent then s
    else (s.declareWith (segmentChan e ring.fiber.val ring.slot.val d r.segment) .threshold 0 0).changeSegment e ring.fiber.val
      ring.slot.val d

/-! ### Thermal feed-forward (R214–R216) -/

/-- FF_WORD_PUBLISH: a compute die beside engines publishes its power to both engine sites of its base die (R214). -/
def execFfWordPublish (die : Die) (power : BitVec 16) (s : State) : Host.Outcome State Fault Refusal :=
  let es := dieEngines die.val
  .next <| if es.isEmpty then s
    else
      let seq := Store.get 0 s.optics.ffSeq die.val
      let word := BitVec.ofNat 32 (die.val * 2 ^ 24 + seq.toNat * 2 ^ 16 + power.toNat)
      let s := { s with optics := { s.optics with ffSeq := Store.put 0 s.optics.ffSeq die.val (seq + 1) } }
      s.emits (es.map fun e => .feedWord (asEngine e) word)

/-- A die's feed is stale at an engine, which is counted: its last filtered value is held, and the latch limits that die's power steps
(R216). -/
def State.feedStale (s : State) (e die : Nat) : State :=
  let s := s.modEngine e fun x => { x with feeds := Store.modify Feed.reset x.feeds die fun f =>
    { f with stale := true, staleEvents := f.staleEvents + 1 } }
  if die < 12 then s.modGovernor die fun g => if g.stale.contains e then g else { g with stale := g.stale ++ [e] } else s

/-- A word is stale (R216): it names a die other than the engine's two, or a power above 400 W, or its sequence number has moved by more
than 2 from the last one. Log: DEDUCED 39. -/
def Engine.staleWord (x : Engine) (e : Nat) (word : W32) : Bool :=
  let die := field word 24 8
  !(dieEngines die).contains e || decide (4000 < field word 0 16)
    || match (Store.get Feed.reset x.feeds die).seq with
       | some q => decide (2 < (BitVec.ofNat 8 (field word 16 8) - q).toNat)
       | none => false

/-- FF_WORD_RECEIVE: a word enters the heater commands through its filters, or is stale; a stale feed holds its filtered value
(R215, R216). Log: DEDUCED 39. -/
def execFfWordReceive (engine : EngineIx) (word : W32) (s : State) : Host.Outcome State Fault Refusal :=
  let e := engine.val
  let die := field word 24 8
  let bad := (s.engine e).staleWord e word
  let s := if bad then s.feedStale e die else s
  .next <| if (dieEngines die).contains e then
      s.modEngine e fun x => { x with feeds := Store.modify Feed.reset x.feeds die fun q =>
        let q := { q with seq := some (BitVec.ofNat 8 (field word 16 8)), words := q.words + 1 }
        if bad || q.stale then q else q.step (field word 0 16) }
    else s

/-- FF_FEED_STALE: no word for 4 µs (R216). -/
def execFfFeedStale (engine : EngineIx) (die : Die) (s : State) : Host.Outcome State Fault Refusal :=
  .next <| if (dieEngines die.val).contains engine.val then s.feedStale engine.val die.val else s

/-- FF_FEED_RECOVERED: after 1 ms of good words the limit is lifted (R216). -/
def execFfFeedRecovered (engine : EngineIx) (die : Die) (s : State) : Host.Outcome State Fault Refusal :=
  .next <| (s.modEngine engine.val fun x => { x with
      feeds := Store.modify Feed.reset x.feeds die.val fun f => { f with stale := false } }).modGovernor die.val
    fun g => { g with stale := g.stale.filter fun e => decide (e ≠ engine.val) }

/-! ### The optical start (R219) -/

/-- Put a transmit lane on a spare slot at once, without duplication: the ledger's entry, the tunable laser lit where the slot was dark,
and then the map; the old ring parks and the new one is found (R219, R221, R229). -/
def State.moveNow (s : State) (e f lane slot : Nat) (t : Option Nat) : State :=
  let old := (s.engine e).slotOf f false lane
  let s := s.ledgerWrite laReplace (optLaneChan e f lane false) noChan (BitVec.ofNat 32 slot)
  let s := match t with | some k => s.light e k (some slot) | none => s
  ((s.park e f old false).modEngine e fun x => x.setSlot f false lane slot).lockRing e f slot false

/-- Replace a laser at once, without duplication, while no traffic flows (R219): the ledger's entry, then the maps of the fibers on which
the spare slot is free; the others lose the lane as under choice 3 of R224. Log: DEDUCED 44. -/
def State.replaceLaser (s : State) (e k slot : Nat) (t : Option Nat) : State :=
  let x := s.engine e
  let old := (x.laserSlot k).getD k
  let fibers := s.fibersOn e old
  let moving := fibers.filter fun f => x.slotFree f slot
  let spare := laserChan e (t.getD ((x.laserOn slot).getD 16))
  let s := s.ledgerWrite laReplace (laserChan e k) spare (moveData moving old slot)
  let s := match t with | some i => s.light e i (some slot) | none => s
  let s := fibers.foldl (fun s f =>
    match (s.engine e).laneOn f old with
    | some i =>
      if moving.contains f then ((s.modEngine e fun y => y.setSlot f false i slot).park e f old false).search e f slot false
      else s.dropLane e f false i
    | none => s) s
  (s.retireLaser e k).onRecord (laserChan e k) .threshold (markRecord .replaced spare 1)

/-- Slots that the lane maps use and no tunable laser of the ledger lights take the lowest free one. Log: DEDUCED 176. -/
def State.assignTunables (s : State) (e : Nat) : State :=
  [16, 17].foldl (fun s slot =>
    let x := s.engine e
    let used := (List.range 9).any fun f => (x.laneOn f slot).isSome
    let held := [16, 17].any fun k => (x.laser k).slot = some slot && !(x.laser k).retired
    match [16, 17].find? fun k => (x.laser k).slot.isNone && !(x.laser k).retired && !s.isPadlocked (laserChan e k) with
    | some k => if used && !held then s.modEngine e fun y => y.modLaser k fun l => { l with slot := some slot } else s
    | none => s) s

/-- Every fixed laser not padlocked is lit on its slot, and each tunable laser on the slot that it is assigned to (Table 7.3). -/
def State.lightLasers (s : State) (e : Nat) : State :=
  (List.range 18).foldl (fun s k =>
    let l := (s.engine e).laser k
    if s.isPadlocked (laserChan e k) || l.retired || (16 ≤ k && l.slot.isNone) then s else s.light e k l.slot) s

/-- Lit lasers already at a fade threshold are replaced where a spare is available (Table 7.3). -/
def State.replaceNoted (s : State) (e : Nat) : State :=
  (List.range 18).foldl (fun s k =>
    let l := (s.engine e).laser k
    if l.lit && l.noted.isSome then
      match s.chooseSlot e (s.fibersOn e (((s.engine e).laserSlot k).getD k)) with
      | some (slot, t) => s.replaceLaser e k slot t
      | none => s
    else s) s

/-- Transmit lanes whose ring is permanent, or whose laser is off for good, move to a spare slot, or are dropped (R224, R230).
Log: DEDUCED 176. -/
def State.leaveRings (s : State) (e : Nat) (fibers : List Nat) : State :=
  fibers.foldl (fun s f => (List.range 16).foldl (fun s i =>
    let x := s.engine e
    let slot := x.slotOf f false i
    if x.dropped.contains (laneKey f false i)
        || (decide ((x.ring (ringKey f slot false)).state ≠ .permanent) && s.slotLit e slot) then s
    else
      match s.chooseSlot e [f] with
      | some (slot, t) => s.moveNow e f i slot t
      | none => s.dropLane e f false i) s) s

/-- Lanes beyond those that the engine runs are dropped in both directions (Table 6.11). -/
def Engine.limitLanes (x : Engine) (n : Nat) : Engine :=
  (List.range 9).foldl (fun x f => ((List.range 16).filter fun i => decide (n ≤ i)).foldl (fun x i =>
    (x.dropLane f false i).dropLane f true i) x) x

/-- Lane maps and retired lasers follow the ledger's open entries, so a migration that was abandoned after its ledger entry takes effect
(R218, R227); the receive lanes' slots are the far end's to tell. Log: DEDUCED 176. -/
def Engine.mapsOf (x : Engine) (e : Nat) (ledger : List LedgerEntry) : Engine :=
  ((openEntries ledger).filter fun n => decide (chanBits n.chan 21 3 = e)).foldl Engine.replayEntry
    { x with lanes := x.lanes.filter (fun p => 16 ≤ p.1 % 32), dropped := [], dropDue := [] }

/-- A link is handed to the link layer, which sends TRAIN (Table 7.3, R257). -/
def State.handOver (s : State) (l : Nat) : State :=
  let s := (s.dropsDue l).syncLanes l
  if (s.link l).state = .optical then (s.setLinkState l .waiting).sendTrain l else s.sendTrain l

/-- The optical start of an engine (Table 7.3): its cartridge is read; the lasers are lit, unless it is not fed from the cartridge; lane
maps follow the ledger, and noted lasers and permanent rings give way to spares; every ring in use searches. Its links are OPTICAL, and
an engine without a margin test hands them over untested (Table 6.11); an absent cartridge leaves them ABSENT. -/
def State.startOptics (s : State) (e : Nat) : State :=
  let s := s.readCartridge (e / 4)
  let k := s.cart (e / 4)
  let site := s.site e
  if !k.present || !k.wordsOk then (engineLinks e).foldl (fun t l => t.setLinkState l .absent) s
  else
    let links := (List.range site.links).map fun m => 8 * e + m
    let s := links.foldl (fun t l => t.setLinkState l .optical) s
    let s := s.modEngine e fun x => { (x.mapsOf e s.faults.ledger).limitLanes site.wlActive with started := true, shut := if x.f8Spare || x.f8For.isSome then [] else [8] }
    let s := s.assignTunables e
    let s := if site.laserExternal then s.lightLasers e else s
    let s := s.replaceNoted e
    let fibers := links.map s.linkFiber
    let s := (s.leaveRings e fibers).searchRings e fibers
    if site.marginTest then s else links.foldl State.handOver s

/-- UCIE_MAINBAND_TRAINED: the site, at the lower of the two rates, serves as many links as its working modules carry, and its optics
start (R197, R199). -/
def execUcieMainbandTrained (engine : EngineIx) (full half : Nat) (s : State) : Host.Outcome State Fault Refusal :=
  let e := engine.val
  let x := s.site e
  let rate := x.mainbandRate
  .next <| if x.closed || !x.configured || x.trained then s
    else
      let n := linksServed full half (ucieRate rate.val) (min 8 x.fiberActive)
      (s.modSite e fun y => { y with trained := true, rate, full, half, links := n }).startOptics e

/-! ### Margins and fade (R223) -/

/-- What the lanes' decoders have corrected, and not, in the last 10 ms (R217, R223): measured by the hardware, so free values here. They
are counted for the engine and for each lane. -/
def State.countFec (s : State) (e f : Nat) : State × Nat :=
  (List.range 16).foldl (fun acc i =>
    let fixed := field acc.1.fresh 0 16
    let lost := field acc.1.fresh 16 16
    let s := (acc.1.count 5 e enCorrected fixed).count 5 e enUncorrectable lost
    let s := (s.count kFec (fecLane e f i) 0 fixed).count kFec (fecLane e f i) 1 lost
    (s.spend, acc.2 + lost)) (s, 0)

/-- STATUS_MESSAGE_SEND: the receiver reports each lane's margin and slot, and the codewords that it could not correct (R205, R223).
Log: DESIGN CHOICE 11, 19. -/
def execStatusMessageSend (link : LinkIx) (margins : List Int) (s : State) : Host.Outcome State Fault Refusal :=
  let e := link.val / 8
  let f := s.linkFiber link.val
  .next <| if (s.link link.val).state = .active then
      let r := s.countFec e f
      r.1.emit (.status link { margins, slots := (List.range 16).map fun i => (s.engine e).slotOf f true i, uncorrectable := r.2, ok := true })
    else s

/-- Fibers in service that a slot feeds, and those of them on which a lane's count has reached `n`. -/
def State.holding (s : State) (e slot n : Nat) (below : Engine → Store Nat) : Nat × Nat :=
  let fs := s.fibersOn e slot
  (fs.length, (fs.filter fun f => match (s.engine e).laneOn f slot with
    | some i => decide (n ≤ Store.get 0 (below (s.engine e)) (16 * f + i))
    | none => false).length)

/-- A margin condition belongs to the laser: it holds on three or more of its fibers in service, or on every one where fewer
than three are in service (R223). Log: DEDUCED 144. -/
def attributed (h : Nat × Nat) : Bool := 3 ≤ h.2 || (decide (h.1 < 3) && decide (0 < h.2) && decide (h.2 = h.1))

/-- Margin conditions of one lane (R223, R230): the laser is noted, or the lane is moved on its fiber. Log: DEDUCED 144. -/
def State.judgeLane (s : State) (e f lane : Nat) : State :=
  let x := s.engine e
  let slot := x.slotOf f false lane
  let n30 := Store.get 0 x.below30 (16 * f + lane)
  let n15 := Store.get 0 x.below15 (16 * f + lane)
  let urgent := decide (2 ≤ n15)
  let hit := urgent || decide (10 ≤ n30)
  let h := if urgent then s.holding e slot 2 Engine.below15 else s.holding e slot 10 Engine.below30
  if !hit then s
  else if attributed h then
    match x.laserOn slot with
    | some k => s.modEngine e fun y => y.modLaser k fun l =>
        { l with noted := some (if urgent then .urgent else (l.noted.getD .scheduled)) }
    | none => s
  else if x.migrations.any fun m => m.fibers.any fun p => p.fiber = f && decide (p.lane = lane) then s
  else if n15 = 2 ∨ n30 = 10 then (s.moveLane e f lane (if urgent then .urgent else .scheduled)).1 else s

/-- STATUS_MESSAGE_RECEIVE (R223, R232). -/
def execStatusMessageReceive (link : LinkIx) (msg : OptStatus) (s : State) : Host.Outcome State Fault Refusal :=
  let e := link.val / 8
  let f := s.linkFiber link.val
  let s := s.takeUnits link.val 0
  .next <| if !msg.ok then s.countEngine e enRejected
    else
      let tally (m : Store Nat) (limit : Int) : Store Nat := (List.range 16).foldl (fun m i =>
        runLength (decide (msg.margins.getD i 1000 < limit)) m (16 * f + i)) m
      let s := s.modEngine e fun x => { x with below30 := tally x.below30 30, below15 := tally x.below15 15 }
      (List.range 16).foldl (fun t i => if (t.engine e).dropped.contains (laneKey f false i) then t else t.judgeLane e f i) s

/-- No link of an engine carries traffic: the optical start is under way (Table 7.3). Log: DEDUCED 44. -/
def State.quiet (s : State) (e : Nat) : Bool := (engineLinks e).all fun l => decide ((s.link l).state ≠ .active)

/-- LASER_FADE_THRESHOLD: a spare slot is chosen and a migration scheduled; during the start a noted laser is replaced at
once, without duplication (R219, R224, R228). -/
def execLaserFadeThreshold (engine : EngineIx) (laser : LaserIx) (cls : FadeClass) (s : State) : Host.Outcome State Fault Refusal :=
  let e := engine.val
  let k := laser.val
  let x := s.engine e
  .next <| match s.chooseSlot e (s.fibersOn e ((x.laserSlot k).getD k)) with
    | some (slot, t) =>
      if s.quiet e && (x.laser k).lit && !(x.laser k).retired && !(x.migrations.any fun m => decide (m.laser = k)) then
        s.replaceLaser e k slot t
      else s.fade e k cls
    | none => s.fade e k cls

/-- MIGRATION_BEGIN: a scheduled migration waits for other tuning work of the engine (R225). -/
def execMigrationBegin (engine : EngineIx) (laser : LaserIx) (s : State) : Host.Outcome State Fault Refusal :=
  .next <| match (s.engine engine.val).migrations.find? fun m => m.laser = laser.val && !m.begun with
    | some m => if s.mustWait engine.val m then s else s.beginMigration engine.val m
    | none => s

/-- TUNABLE_LASER_TUNED: on its slot within ±10 GHz and with its tone confirmed, the migration goes on (R201, R203, R225). -/
def execTunableLaserTuned (engine : EngineIx) (laser : LaserIx) (freqErrGHz : Int) (toneOk : Bool) (s : State) :
    Host.Outcome State Fault Refusal :=
  let s := s.modEngine engine.val fun x => x.modLaser laser.val fun l => if l.lit then { l with freqErr := freqErrGHz } else l
  .next <| if toneOk ∧ -10 ≤ freqErrGHz ∧ freqErrGHz ≤ 10 then
      match (s.engine engine.val).migrations.find? fun m => m.tunable = some laser.val && m.begun && !m.ledgered with
      | some m => s.duplicate engine.val m
      | none => s
    else s

/-- MIG_OFFER_RECEIVE: the far end locks its drop ring on the new slot and compares (R226); a ring that is permanent refuses. -/
def execMigOfferReceive (link : LinkIx) (lane : LaneIx) (_oldSlot newSlot : SlotIx) (ok : Bool) (s : State) :
    Host.Outcome State Fault Refusal :=
  let e := link.val / 8
  let f := s.linkFiber link.val
  let s := s.takeUnits link.val 0
  .next <| if !ok then s.countEngine e enRejected
    else if ((s.engine e).ring (ringKey f newSlot.val true)).state = .permanent then
      s.emit (.migDone link lane.val newSlot.val false 0)
    else
      let s := s.lockRing e f newSlot.val true
      s.modEngine e fun x => { x with
        offers := (x.offers.filter fun o => !(o.1 = f && decide (o.2.1 = lane.val))) ++ [(f, lane.val, newSlot.val)] }

/-- MIGRATION_COMPARE_COMPLETE: the codewords of the new slot and of the old one, pair by pair, that are identical wherever both decode,
none of the new slot's uncorrectable, and a margin of 3.0 dB, or at the urgent class a better one than the old slot's, accept the new slot
from flow unit q (R217, R226). -/
def execMigrationCompareComplete (link : LinkIx) (lane : LaneIx) (pairs : List (List Sym × List Sym)) (newMargin oldMargin : Int)
    (urgent : Bool) (s : State) : Host.Outcome State Fault Refusal :=
  let e := link.val / 8
  let f := s.linkFiber link.val
  .next <| match (s.engine e).offers.find? fun o => o.1 = f && decide (o.2.1 = lane.val) with
    | some o =>
      let s := s.modEngine e fun x => { x with offers := x.offers.filter fun p => decide (p ≠ o) }
      if sameCodewords pairs && uncorrectables (pairs.map fun p => p.1) = 0
          && (decide (30 ≤ newMargin) || (urgent && decide (oldMargin < newMargin))) then
        let old := (s.engine e).slotOf f true lane.val
        let s := (s.modEngine e fun x => x.setSlot f true lane.val o.2.2).park e f old true
        (s.emit (.migDone link lane.val o.2.2 true (s.link link.val).taken)).countEngine e enAccepted
      else (s.park e f o.2.2 true).emit (.migDone link lane.val o.2.2 false 0)
    | none => s

/-- MIG_DONE_RECEIVE (R225, R226): the old ring parks on an accepting answer and the new one on a refusing answer; once every
fiber has answered the laser is retired. A refusing answer to a LANE_REQ drops the receive lane at the link's next training (R231). -/
def execMigDoneReceive (link : LinkIx) (lane : LaneIx) (newSlot : SlotIx) (accept : Bool) (q : W32) (ok : Bool) (s : State) :
    Host.Outcome State Fault Refusal :=
  let e := link.val / 8
  let f := s.linkFiber link.val
  let s := s.takeUnits link.val 0
  .next <| if !ok then s.countEngine e enRejected
    else
      match (s.engine e).migrations.find? fun m => m.slot = newSlot.val && m.ledgered
          && m.fibers.any fun p => p.fiber = f && p.lane = lane.val
            && (match p.stage with | .offered _ | .duplicating | .searching => true | _ => false) with
      | some m =>
        let old := (s.engine e).slotOf f false lane.val
        let m' := setStageOf f (if accept then .accepted q else .refused) m
        let s := s.modMigration e (fun y => y = m) fun _ => m'
        let s :=
          if accept then ((s.modEngine e fun x => x.setSlot f false lane.val newSlot.val).park e f old false).countEngine e enAccepted
          else
            let s := s.park e f newSlot.val false
            if m.single && decide (((s.engine e).ring (ringKey f old false)).state = .permanent) then s.dropLane e f false lane.val
            else s
        if m'.answered then (s.endMigration e m').nextFade e else s
      | none =>
        if accept then s
        else if (s.link link.val).state = .active then
          s.modEngine e fun x => { x with
            dropDue := if x.dropDue.contains (laneKey f true lane.val) then x.dropDue else x.dropDue ++ [laneKey f true lane.val] }
        else s.dropLane e f true lane.val

/-- MIG_OFFER_TIMEOUT: the offer is sent again, up to twice; then the fiber keeps duplicating (R227). -/
def execMigOfferTimeout (link : LinkIx) (lane : LaneIx) (s : State) : Host.Outcome State Fault Refusal :=
  let e := link.val / 8
  let f := s.linkFiber link.val
  .next <| match (s.engine e).migrations.find? fun m => m.ledgered && m.fibers.any fun p =>
        p.fiber = f && p.lane = lane.val && (match p.stage with | .offered _ => true | _ => false) with
    | some m =>
      match m.fibers.find? fun p => decide (p.fiber = f) with
      | some p =>
        match p.stage with
        | .offered n =>
          if n < 3 then (s.modMigration e (fun y => y = m) (setStageOf f (.offered (n + 1)))).offer e m p
          else s.modMigration e (fun y => y = m) (setStageOf f .duplicating)
        | _ => s
      | none => s
    | none => s

/-- MIGRATION_TIMEOUT: the laser is turned off and padlocked (R225). -/
def execMigrationTimeout (engine : EngineIx) (laser : LaserIx) (s : State) : Host.Outcome State Fault Refusal :=
  .next <| match (s.engine engine.val).migrations.find? fun m => m.laser = laser.val && m.begun && !m.single with
    | some m => (s.endMigration engine.val m).nextFade engine.val
    | none => s

/-- LASER_FAILURE: the lanes move without duplication and the laser is retired at once; fibers already switched by its own
migration are unaffected (R228, R229). -/
def execLaserFailure (engine : EngineIx) (laser : LaserIx) (s : State) : Host.Outcome State Fault Refusal :=
  let e := engine.val
  let k := laser.val
  .next <| match (s.engine e).migrations.find? fun m => m.laser = k && !m.single with
    | some m =>
      let s := s.modMigration e (fun y => y = m) fun y => { y with cls := .failed }
      let s := (s.retireLaser e k).onRecord (laserChan e k) .threshold (markRecord .replaced noChan 1)
      if m.begun then s else s.beginMigration e { m with cls := .failed }
    | none => if ((s.engine e).laser k).lit then s.failedMigration e k else s

/-- LANE_REQ_RECEIVE: the transmitter moves the lane, or answers with a refusing MIG_DONE (R231). -/
def execLaneReqReceive (link : LinkIx) (lane : LaneIx) (ok : Bool) (s : State) : Host.Outcome State Fault Refusal :=
  let e := link.val / 8
  let f := s.linkFiber link.val
  let s := s.takeUnits link.val 0
  .next <| if !ok then s.countEngine e enRejected
    else
      let r := s.moveLane e f lane.val .scheduled
      if r.2 then r.1 else s.emit (.migDone link lane.val ((s.engine e).slotOf f false lane.val) false 0)

/-! ### The margin test, the spare fiber and the attenuators (R220–R222, R234, R235) -/

/-- A lane passes when under each of the four conditions it shows no more than 24,192 bit errors and no uncorrectable codeword; a lane
without a run was not tested (R220, R221). -/
def laneFails (m : LaneMargin) : Bool :=
  !m.isEmpty && !(m.length = 4 && m.all fun r => decide (r.errors ≤ 24192) && !r.uncorrectable)

/-- Lanes of a direction that fail. -/
def failingLanes (ms : List LaneMargin) : List Nat := (List.range 16).filter fun i => laneFails (ms.getD i [])

/-- A transmit lane failed the margin test on its slot: a substitute takes it at once, to be tested under the same criteria, or it is
dropped where no slot that it has not failed on serves (R221, R230). -/
def State.substituteLane (s : State) (e f lane : Nat) : State :=
  let c := optLaneChan e f lane false
  let old := (s.engine e).slotOf f false lane
  let s := if s.isPadlocked c then s else (s.raise (engineDie e) { cause := .selftestFail, suspect := c }).padlock c
  let s := s.modEngine e fun x => { x with failedSlots := x.failedSlots ++ [(laneKey f false lane, old)] }
  match s.chooseSlot e [f] with
  | some (slot, t) =>
    if (s.engine e).failedSlots.contains (laneKey f false lane, slot) then (s.dropLane e f false lane).leftPadlocked c .selftestFail
    else (s.moveNow e f lane slot t).replaced c .selftestFail noChan
  | none => (s.dropLane e f false lane).leftPadlocked c .selftestFail

/-- A receive lane failed the margin test: it is permanent in that direction, and carries nothing here until the far end's map puts it on
another slot (R218, R221). -/
def State.failRxLane (s : State) (e f lane : Nat) : State :=
  let c := optLaneChan e f lane true
  let s := if s.isPadlocked c then s else (s.raise (engineDie e) { cause := .selftestFail, suspect := c }).padlock c
  (s.modEngine e fun x => x.dropLane f true lane).leftPadlocked c .selftestFail

/-- Results of a margin test beside those of lanes not tested again. -/
def mergeMargins (old new : List LaneMargin) : List LaneMargin :=
  (List.range 16).map fun i => if (new.getD i []).isEmpty then old.getD i [] else new.getD i []

/-- A single-link test of a fiber whose attenuator step is absent is reported unmargined (R220, Table 14.2). -/
def State.unmargined (s : State) (e f : Nat) : Bool := !s.quiet e && s.cal.absent.contains (calKey .attenStep (9 * e + f))

/-- A fiber's result is published (R222). -/
def Engine.publish (x : Engine) (f : Nat) (failed : List Nat) : Engine :=
  { x with
    tested := if x.tested.contains f then x.tested else x.tested ++ [f]
    marginFailed := (x.marginFailed.filter fun k => k / 32 ≠ f) ++ failed
    failedSlots := x.failedSlots.filter fun p => p.1 / 32 ≠ f }

/-- MARGIN_TEST_COMPLETE: a lane that fails is substituted or dropped. Once no substitute is left to be tested, the result is published,
and the link is handed to the link layer, which sends TRAIN (R221, R222, Table 7.3). -/
def execMarginTestComplete (link : LinkIx) (tx rx : List LaneMargin) (s : State) : Host.Outcome State Fault Refusal :=
  let l := link.val
  let e := l / 8
  let f := s.linkFiber l
  let st := (s.link l).state
  .next <| if !(st = .optical || st = .waiting || decide (st = .down)) then s
    else if s.unmargined e f then
      (s.modEngine e fun x => { x.publish f [] with margins := Store.put ([], []) x.margins f ([], []) }).handOver l
    else
      let bad := (failingLanes tx).filter fun i => !(s.engine e).dropped.contains (laneKey f false i)
      let s := bad.foldl (fun t i => t.substituteLane e f i) s
      let s := (failingLanes rx).foldl (fun t i => t.failRxLane e f i) s
      let s := s.modEngine e fun x =>
        let old := Store.get ([], []) x.margins f
        { x with margins := Store.put ([], []) x.margins f (mergeMargins old.1 tx, mergeMargins old.2 rx) }
      if bad.any fun i => !(s.engine e).dropped.contains (laneKey f false i) then s.syncLanes l
      else
        let m := Store.get ([], []) (s.engine e).margins f
        (s.modEngine e fun x =>
          x.publish f ((failingLanes m.1).map (laneKey f false) ++ (failingLanes m.2).map (laneKey f true))).handOver l

/-- A fiber is permanent and its link goes DOWN; F8 in spare mode that names the link's peer is opened for it where the peer's light is
present (R234). -/
def State.loseFiber (s : State) (e f : Nat) (spareLight : Bool) : State :=
  let c := fiberChan e f
  let link := s.fiberLink e f
  let s := (s.raise (engineDie e) { cause := .threshold, suspect := c }).padlock c
  let s := s.modEngine e fun x => { x with deadFibers := x.deadFibers ++ [f] }
  let s := match link with | some l => s.linkDown l | none => s
  let x := s.engine e
  let usable := match link with
    | some l => f < 8 && x.f8Spare && (s.site e).spareFiber && x.f8For.isNone && !x.deadFibers.contains 8
        && decide (x.f8Peer = (s.link l).peer.moduleId)
    | none => false
  if usable && spareLight then
    let s := (s.ledgerWrite laReplace c (fiberChan e 8) 0).replaced c .threshold (fiberChan e 8)
    (s.modEngine e fun x => { x with f8For := some f, shut := x.shut.filter fun g => g ≠ 8 }).searchRings e [8]
  else s.leftPadlocked c .threshold

/-- FIBER_DARK: twelve or more dark lanes for 1 s make the fiber permanent (R234). -/
def execFiberDark (engine : EngineIx) (fiber : FiberIx) (darkLanes : Nat) (spareLight : Bool) (s : State) :
    Host.Outcome State Fault Refusal :=
  .next <| if darkLanes < 12 ∨ (s.engine engine.val).deadFibers.contains fiber.val then s
    else s.loseFiber engine.val fiber.val spareLight

/-- F8 in idle mode: its attenuator stays shut, and it neither probes nor opens (R233). -/
def Engine.idleF8 (x : Engine) (f : Nat) : Bool := f = 8 && !x.f8Spare && x.f8For.isNone

/-- A lane is permanent in one direction: a transmit lane moves to a spare slot, or is dropped; a receive lane is the far end's to move,
and is dropped here (R230, R231). -/
def State.loseOptLane (s : State) (e f lane : Nat) (rx : Bool) (cause : Cause) (detail : W64) : State :=
  let c := optLaneChan e f lane rx
  if rx then
    let s := (s.askLane e f lane).declareWith c cause detail 0
    match s.fiberLink e f with | some l => s.syncLanes l | none => s
  else
    let r := s.moveLane e f lane .scheduled
    if r.2 then ((r.1.raise (engineDie e) { cause, suspect := c, detail }).padlock c).replaced c cause noChan
    else
      let s := (s.dropLane e f false lane).raise (engineDie e) { cause, suspect := c, detail }
      (s.padlock c).leftPadlocked c cause

/-- An optical channel is declared permanent by a report (R377): its lanes are moved as chapter 7 gives for a laser, a ring, a segment, a
lane or a fiber (R212, R229, R230, R234). -/
def State.loseOptic (s : State) (c : Chan) (cause : Cause) (detail : W64) : State :=
  let e := chanBits c 21 3
  let f := chanBits c 17 4
  let slot := chanBits c 12 5
  match chanKind c with
  | 0x20 =>
    let k := chanBits c 16 5
    if ((s.engine e).laser k).lit then s.failedMigration e k else s.declareWith c cause detail 0
  | 0x21 => s.loseRing e f slot false cause
  | 0x22 => s.loseRing e f slot true cause
  | 0x23 =>
    let drop := decide (chanBits c 11 1 = 1)
    let used := ((s.engine e).ring (ringKey f slot drop)).segment
    let s := s.declareWith c cause detail 0
    if used = chanBits c 9 2 then s.changeSegment e f slot drop else s
  | 0x24 => s.loseOptLane e f (chanBits c 13 4) (decide (chanBits c 12 1 = 1)) cause detail
  | 0x25 => s.loseFiber e f false
  | _ => s.declareWith c cause detail 0

/-- ATTENUATOR_SHUT (R235). -/
def execAttenuatorShut (engine : EngineIx) (fiber : FiberIx) (s : State) : Host.Outcome State Fault Refusal :=
  .next <| s.modEngine engine.val fun x => { x with
    shut := if x.shut.contains fiber.val then x.shut else x.shut ++ [fiber.val] }

/-- ATTENUATOR_PROBE: 2 ms of light at 20 dB on a shut fiber (R235). -/
def execAttenuatorProbe (engine : EngineIx) (fiber : FiberIx) (s : State) : Host.Outcome State Fault Refusal :=
  let x := s.engine engine.val
  .next <| if x.shut.contains fiber.val && !x.idleF8 fiber.val then s.emit (.probeLight engine fiber) else s

/-- FIBER_LIGHT_RETURN: the attenuator reopens (R235). -/
def execFiberLightReturn (engine : EngineIx) (fiber : FiberIx) (s : State) : Host.Outcome State Fault Refusal :=
  .next <| if (s.engine engine.val).idleF8 fiber.val then s
    else s.modEngine engine.val fun x => { x with shut := x.shut.filter fun f => f ≠ fiber.val }

/-! ### Cartridges (R236, R237, R400) -/

/-- Engines of a cartridge. -/
def cartEngines (c : Nat) : List Nat := (List.range 4).map fun j => 4 * c + j

/-- A cartridge's lasers go off. -/
def State.darkenCart (s : State) (c : Nat) : State := (cartEngines c).foldl (fun t e => t.modEngine e darkenEngine) s

/-- CARTRIDGE_PRESENCE_GAIN: a cartridge is in place and stays dark until the module leaves service hold or starts (R236); the critical words
of its EEPROM agree or not (R237). -/
def execCartridgePresenceGain (cart : Fin 2) (serial : W64) (wordsOk : Bool) (s : State) : Host.Outcome State Fault Refusal :=
  .next <| if (s.cart cart.val).present then s
    else s.setCart cart.val { present := true, serial, wordsOk, read := false, overtemp := false }

/-- CARTRIDGE_BLOCK_OVERTEMP: the lasers go off, the links go DOWN and THERMAL is raised (R400). -/
def execCartridgeBlockOvertemp (cart : Fin 2) (s : State) : Host.Outcome State Fault Refusal :=
  let c := cart.val
  .next <| if !(s.cart c).present || (s.cart c).overtemp then s
    else
      let s := (s.modCart c fun x => { x with overtemp := true }).darkenCart c
      ((cartEngines c).foldl State.engineDown s).raise (if c = 0 then 0 else 3) { cause := .thermal, suspect := cartChan c }

end Sys2Proof.Machine
end

