-- ==== Sys2Proof/Machine/DomOps.lean ====
section
/-! DEFINITION. What a module's agents do toward other modules (chapter 9): the lookup of R287, the choice of a link
(R288–R292), and domain messages as flow units (R293). -/

namespace Sys2Proof.Machine

/-! ### Failing an operator -/

/-- A fault recorded at base die `by_` fails the operator of a ward (R374 steps 1, 3 and 5). -/
def State.refuseAt (s : State) (by_ : BaseDie) (die ward : Nat) (ctx : CtxId) (gen : Gen) (op : W32) (st : Byte) (r : Raise) : State :=
  (s.raise by_ { r with ctx := some (ctx, gen), ops := [op], opStatus := st }).failOnWard die ward ctx gen op st

/-- The same for a fault of the ward's own units, which its base die records. -/
def State.refuseOn (s : State) (die : Nat) (ward : Nat) (ctx : CtxId) (gen : Gen) (op : W32) (st : Byte) (r : Raise) : State :=
  s.refuseAt (dieBase die) die ward ctx gen op st r

/-! ### Window entries (Table 9.1) -/

def winValid (e : BitVec 256) : Bool := e.getLsbD 0
def winSizeCode (e : BitVec 256) : Nat := field e 10 4
def winModule (e : BitVec 256) : ModId := BitVec.ofNat 8 (field e 14 8)
def winContext (e : BitVec 256) : CtxId := Fin.ofNat 1024 (field e 22 10)
def winBase (e : BitVec 256) : Nat := field e 74 22 * 0x4000000
def winSize (e : BitVec 256) : Nat := 2 ^ (26 + winSizeCode e)
def winTargetCtx (e : BitVec 256) : CtxId := Fin.ofNat 1024 (field e 163 10)
def winTargetGen (e : BitVec 256) : Gen := BitVec.ofNat 4 (field e 173 4)
def winRead (e : BitVec 256) : Bool := e.getLsbD 177
def winWrite (e : BitVec 256) : Bool := e.getLsbD 178
def winAtomic (e : BitVec 256) : Bool := e.getLsbD 179
def winSet (e : BitVec 256) : Nat := field e 180 8

/-- Both key words read with agreeing halves. -/
def winGood (e : BitVec 256) : Bool :=
  (critValue (e.setWidth 64)).isSome && (critValue ((e >>> 64).setWidth 64)).isSome

/-- The window holds [off, off + len). -/
def winHolds (e : BitVec 256) (off len : Nat) : Bool := winBase e ≤ off && decide (off + len ≤ winBase e + winSize e)

/-- The valid entry for a context, a module and a span. -/
def State.window (s : State) (ctx : CtxId) (m : ModId) (off len : Nat) : Option (BitVec 256) :=
  (s.domain.windows.find? fun p =>
    winValid p.2 && winContext p.2 = ctx && winModule p.2 = m && winHolds p.2 off len).map fun p => p.2

/-! ### Lookup -/

/-- Kinds of access that a window permits or not. -/
inductive GlobalAccess where
  | read | write | atomic
deriving DecidableEq, Repr

/-- Outcome of R287: the step that failed, a target marked reset (R299), or the member link with the entry's target context
and generation. -/
inductive Lookup where
  | refused (step : Nat)
  | marked
  | via (link : LinkIx) (ctx : CtxId) (gen : Gen)
deriving DecidableEq, Repr

/-- Members of a link set, in order. -/
def State.linkSet (s : State) (set : Nat) : List LinkIx := Store.get [] s.domain.linkSets set

/-- Member of a window's set for an offset (R289). -/
def windowMember (off count : Nat) : Nat := ((off / 4096 % 65536) ^^^ (off / 0x10000000 % 65536)) % count

/-- The entry permits the access. -/
def winPermits (e : BitVec 256) : GlobalAccess → Bool
  | .read => winRead e
  | .write => winWrite e
  | .atomic => winAtomic e

/-- Steps 1 to 5 of R287. An entry whose set has lost its members since it was installed gives link 0 of the set's
reading: the keeper refuses to empty a set, so the case does not arise. -/
def State.lookup (s : State) (ctx : CtxId) (m : ModId) (off len : Nat) (a : GlobalAccess) : Lookup :=
  if s.domain.id.isNone || !(s.context ctx.val).domain then .refused 1
  else
    match s.window ctx m off len with
    | none => .refused 2
    | some e =>
      if !winGood e then .refused 3
      else if !winPermits e a then .refused 4
      else if s.domain.peerReset.getLsbD m.toNat then .marked
      else
        let set := s.linkSet (winSet e)
        .via (set.getD (windowMember off set.length) 0) (winTargetCtx e) (winTargetGen e)

/-- Counters of a DOM block by their place in its record (Table 10.9). -/
abbrev dmForwarded : Nat := 4
abbrev dmHop : Nat := 5
abbrev dmRoute : Nat := 6
abbrev dmStraggler : Nat := 7
abbrev dmFence : Nat := 8
abbrev dmFenceDone : Nat := 9

/-- Count an event of a DOM block. Log: DEDUCED 75. -/
def State.countDom (s : State) (die k n : Nat) : State := s.count 7 die k n

/-- A refused lookup is counted by its step; an absent key also raises its own record (R287, R362). -/
def State.countLookup (s : State) (die : BaseDie) (step : Nat) : State :=
  let s := s.countDom die.val (step - 1) 1
  if step = 3 then s.criticalAbsent die (baseChan die.val) (registerDetail 14 0x10) false else s

/-! ### Messages -/

/-- Opcodes of Table 9.3. -/
abbrev dmRead : Byte := 0x01
abbrev dmReadData : Byte := 0x02
abbrev dmWrite : Byte := 0x03
abbrev dmWriteAck : Byte := 0x04
abbrev dmAtomic : Byte := 0x05
abbrev dmAtomicResp : Byte := 0x06
abbrev dmRedOperand : Byte := 0x10
abbrev dmRedResult : Byte := 0x11
abbrev dmFenceMsg : Byte := 0x20
abbrev dmFenceDoneMsg : Byte := 0x21

/-- Virtual channel of an opcode; none where the code is reserved (Table 9.3). -/
def opcodeVc (o : Byte) : Option (Fin 8) :=
  match o.toNat with
  | 0x01 | 0x05 => some 1
  | 0x02 | 0x04 | 0x06 => some 2
  | 0x03 => some 3
  | 0x10 => some 4
  | 0x11 => some 5
  | 0x20 | 0x21 => some 6
  | _ => none

/-- The domain message header (Table 9.2). -/
def domHeader (m : DomMsg) : BitVec 128 :=
  BitVec.ofNat 128 (m.opcode.toNat * 2 ^ 120 + m.targetCtx.val * 2 ^ 110 + m.targetGen.toNat * 2 ^ 106
    + m.offset.toNat * 2 ^ 48 + m.length % 65536 * 2 ^ 32 + m.tag.toNat * 2 ^ 16 + m.status.toNat * 2 ^ 8
    + m.returnDie.toNat * 2 ^ 5)

/-- Units of a message's bytes, `n` the number left: 232 payload bytes each, the last one marked (R293). -/
def domChunks (m : DomMsg) (first : Bool) : Nat → List Byte → List TxUnit
  | 0, _ => []
  | n + 1, bytes =>
    let part := bytes.take 232
    { header := unitHeader m.vc first (n = 0) m.poison part.length m.ctx m.gen m.destModule m.srcModule m.hops
      payload := part } :: domChunks m false n (bytes.drop 232)

/-- A message as data units. -/
def domUnits (m : DomMsg) : List TxUnit :=
  let bytes := leBytes 16 (domHeader m).toNat ++ m.data
  domChunks m true ((bytes.length + 231) / 232) bytes

/-- Units that a DOM block's hold queue takes per link; units beyond them wait at their issuing agents, in order (R37, R292).
Log: DEDUCED 43. -/
abbrev holdDepth : Nat := 256

/-- Hand a message to a link (R292): a DOWN link queues its units or sends them on its twin; an ABSENT one's go to a usable
twin, else into the hold queue of the issuing base die where its site is closed. Log: DEDUCED 43. -/
def State.sendOn (s : State) (die : BaseDie) (l : LinkIx) (m : DomMsg) : State :=
  let us := domUnits m
  let s := s.emit (.message l m)
  if (s.link l.val).state = .absent then
    match s.usableTwin l.val with
    | some t => s.sendUnits t.val us
    | none =>
      let k := 64 * die.val + l.val
      let s := if (s.site (l.val / 8)).closed then
          { s with domain := { s.domain with holdQueue := Store.put [] s.domain.holdQueue k (Store.get [] s.domain.holdQueue k ++ us) } }
        else s.sendUnits l.val us
      s.holdLink l.val
  else s.sendUnits l.val us

/-- The link toward a module by the forwarding table (R289), for units of a source module and context. Log: DESIGN CHOICE 150. -/
def State.forwardLink (s : State) (src : ModId) (ctx : CtxId) (dest : ModId) : Option LinkIx :=
  match Store.get none s.domain.forward dest.toNat with
  | some set =>
    let ls := s.linkSet set.toNat
    ls[(src.toNat * 1024 + ctx.val) % ls.length]?
  | none => none

/-- A unit that no route takes is discarded, counted and raised (R290). -/
def State.routeDiscard (s : State) (die : BaseDie) (dest : ModId) (hops : BitVec 4) (k : Nat) : State :=
  let s := s.countDom die.val k 1
  let s := s.raise die { cause := .routeDiscard, suspect := moduleChan dest.toNat,
                         detail := BitVec.ofNat 64 (dest.toNat * 16 + hops.toNat) }
  s.notice (.routeFault dest hops.toNat)

/-- Send a response, a fence or another message of this module by the forwarding table. -/
def State.sendByRoute (s : State) (die : BaseDie) (m : DomMsg) : State :=
  match s.forwardLink m.srcModule m.ctx m.destModule with
  | some l => s.sendOn die l m
  | none => s.routeDiscard die m.destModule m.hops dmRoute

/-- A request of this module through a window entry. -/
def State.requestMsg (s : State) (die : BaseDie) (opcode : Byte) (m : ModId) (ctx : CtxId) (gen : Gen) (tctx : CtxId)
    (tgen : Gen) (off : PAddr) (len : Nat) (data : List Byte) : DomMsg :=
  { vc := (opcodeVc opcode).getD 1, opcode, srcModule := s.moduleId, destModule := m, ctx, gen, hops := 0, poison := false,
    targetCtx := tctx, targetGen := tgen, offset := off, length := len, tag := s.domain.nextTag, status := 0,
    returnDie := BitVec.ofNat 3 die.val, data }

/-- Take the next tag. -/
def State.takeTag (s : State) : State := { s with domain := { s.domain with nextTag := s.domain.nextTag + 1 } }

/-- Fault status of a response's status (Table 12.6). -/
def remoteStatus (st : Byte) : Byte := if st = 5 then 0x8E else BitVec.ofNat 8 (0x89 + st.toNat)

/-- A response whose status is not OK fails the operator that asked (R294, Table 12.6). -/
def State.remoteFail (s : State) (q : Request) (st : Byte) : State :=
  let die := q.tumbler / 1536
  let ward := q.tumbler / 64 % 24
  s.refuseOn die ward q.ctx q.gen q.opSerial (remoteStatus st)
    { cause := .remoteStatus, suspect := moduleChan q.module.toNat, detail := st.setWidth 64 }

end Sys2Proof.Machine
end

