-- ==== Sys2Proof/Machine/Rings.lean ====
section
/-! DEFINITION. Command rings (chapter 4): the formats of entries and descriptors, the checks of Table 4.8 in their three
stages (R476), placements (R119–R122), completion records, and how a dispatcher moves the entries of a ring on. -/

namespace Sys2Proof.Machine

/-! ### Placement -/

/-- Edge count between base dies on the 3 × 2 grid (Table 1.2). -/
def baseDistance (a b : Nat) : Nat := (a % 3 - b % 3) + (b % 3 - a % 3) + (a / 3 - b / 3) + (b / 3 - a / 3)

/-- Home base die of an address in a direct window or shelf SRAM; none for the interleaved window. -/
def homeBase (a : Nat) : Option Nat :=
  if a < 12 * (64 * gib) then some (a / (64 * gib) / 2)
  else if 0x020000000000 ≤ a ∧ a < 0x020060000000 then some ((a - 0x020000000000) / 0x10000000)
  else none

/-- Base dies by edge count from `d`, ties to the lower index (R120). -/
def basesFrom (d : Nat) : List Nat :=
  ([0, 1, 2, 3].map fun n => (List.range 6).filter fun b => baseDistance d b = n).flatten

/-- Dies of a placement, ascending (R119, R120). `near` is the base die that mode 0b01 orders from. -/
def placeDies (d : BitVec 1024) (near : Nat) : List Die :=
  if odNear d then
    let chosen := ((basesFrom near).map fun b => [2 * b, 2 * b + 1]).flatten.take (odDieCount d)
    (List.finRange 12).filter fun c => chosen.contains c.val
  else (List.finRange 12).filter fun c => (odDieMask d).getLsbD c.val

/-- A placement as an operator descriptor asks for it. -/
def placement (d : BitVec 1024) (near : Nat) : Placement :=
  { dies := placeDies d near, wardFirst := odWardFirst d, wardCount := odWardCount d, perWard := odPerWard d }

/-- Tumblers of a placement in the order of the flat index (R119, R44). -/
def Placement.tumblers (p : Placement) : List TumId :=
  (p.dies.map fun die => ((List.range p.wardCount).map fun w => (List.range p.perWard).map fun t =>
    ({ die, ward := Fin.ofNat 24 (p.wardFirst + w), tum := Fin.ofNat 64 t } : TumId)).flatten).flatten

/-- Number of tumblers of a placement. -/
def Placement.size (p : Placement) : Nat := p.dies.length * p.wardCount * p.perWard

/-- Keys of the wards of a placement. -/
def Placement.wards (p : Placement) : List Nat :=
  (p.dies.map fun die => (List.range p.wardCount).map fun w => wardKey die.val (p.wardFirst + w)).flatten

/-- Refusals of R121 that need no tensor: an operand out of range, and a grid of more tiles than tumblers. -/
def placeRefused (d : BitVec 1024) : Bool :=
  (if odNear d then odDieCount d = 0 || decide (12 < odDieCount d) else decide (odDieMask d = 0))
    || odPerWard d = 0 || decide (64 < odPerWard d) || odWardCount d = 0 || decide (23 < odWardFirst d)
    || decide (24 < odWardFirst d + odWardCount d) || decide (odPlaced d < odTiles d)

/-- Refusals of R121 that the placed dies decide: a ward or tumbler beyond a reported count. -/
def State.placeBeyond (s : State) (p : Placement) : Bool :=
  let c := s.faults.capacity
  p.dies.any fun die => c.wardCount die.val < p.wardFirst + p.wardCount
    || (List.range p.wardCount).any fun w => c.tumCount die.val (p.wardFirst + w) < p.perWard

/-- The start token of one tumbler of a placement. -/
def startTok (e : RingEntry) (ctx : CtxId) (gen : Gen) (t : TumId) (index : Nat) : StartTok :=
  let tile := tileOf e.desc index
  let out := e.tensors.getD (odInputs e.desc) 0
  { ctx, gen, dest := t, opSerial := e.opSerial, image := odImage e.desc, index
    origin := [0, 1, 2, 3].map fun k => match tile with | some c => tileOrigin e.desc c k | none => 0
    extent := [0, 1, 2, 3].map fun k => match tile with | some c => tileExtent e.desc out c k | none => 0
    empty := tile.isNone, desc := enDesc e.word, word := e.desc, tensors := e.tensors }

/-- A start token's header: kind 0b10, from the dispatcher to the tumbler (R28, R29). -/
def startHeader (disp : BaseDie) (k : StartTok) : W64 :=
  tokenHeader k.ctx k.gen tkStart k.dest.toEnd 0 Config.startBeats.val Config.startTag.toNat (agentEnd disp agDispatcher)

/-! ### Checks -/

/-- A failed check: status, detail, and the address and suspect of an absent critical word. -/
structure Failed where
  status : Nat
  detail : Nat
  absent : Option Nat
deriving DecidableEq, Repr

/-- The failed check that Table 4.8 puts first; among checks of one status, the first made. Log: DEDUCED 50. -/
def firstFailed (fs : List Failed) : Option Failed :=
  fs.foldl (fun best f => match best with
    | none => some f
    | some b => if f.status < b.status then some f else best) none

/-- A check that fails when `bad`. -/
def check (bad : Bool) (status detail : Nat) : List Failed := if bad then [{ status, detail, absent := none }] else []

/-- A critical field at bit `at_` of a format at address `a`. -/
def checkCrit {w : Nat} (v : BitVec w) (at_ detail a : Nat) : List Failed :=
  if critOk v at_ then [] else [{ status := 2, detail, absent := some (a + at_ / 8) }]

/-- Key of a ring. -/
def ringKeyOf (die : BaseDie) (ring : RingIx) : Nat := 64 * die.val + ring.val

/-- Base die of a ring key. -/
def ringDie (k : Nat) : BaseDie := asBase (k / 64)

/-- Regions of a ring's context. -/
def State.ringRegions (s : State) (r : Ring) : List Region := (s.context r.ctx.val).regions

/-- Shelf SRAM of any base die. -/
def inShelf (a n : Nat) : Bool := 0x020000000000 ≤ a && decide (a + n ≤ 0x020060000000)

/-- Module physical address of an entry's slot. -/
def Ring.slotAddr (r : Ring) (k n : Nat) : Nat := 0x020000000000 + k / 64 * 0x10000000 + r.base + 64 * (n % r.entries)

/-- Stage 1 of R476 on an entry at address `a`. -/
def State.checkStage1 (s : State) (r : Ring) (e : BitVec 512) (a : Nat) : List Failed :=
  let op := enOpcode e
  let c := s.context r.ctx.val
  let rs := c.regions
  let fence := (enFence e).toNat
  let desc := (enDesc e).toNat
  check (decide (4 < op)) 1 0
    ++ checkCrit e 0 0 a
    ++ (if op = 1 then checkCrit e 64 1 a ++ checkCrit e 128 2 a else [])
    ++ check (enCtx e ≠ r.ctx || c.state ≠ .opened || decide (enGen e ≠ c.gen)) 3 0
    ++ check (!enReservedOk e) 5 1022
    ++ (if op = 2 || op = 3 then check (!(inShelf fence 8 && inRegions rs fence 8)) 6 1022 ++ check (decide (fence % 8 ≠ 0)) 0x0C 1022 else [])
    ++ if op = 1 then check (!inRegions rs desc 128) 6 1023 ++ check (decide (desc % 128 ≠ 0)) 0x0C 1022 else []

/-- Stage 2 of R476 on an operator descriptor at address `a`. -/
def State.checkStage2 (s : State) (r : Ring) (e : BitVec 512) (d : BitVec 1024) (a : Nat) : List Failed :=
  let n := odInputs d + odOutputs d
  let table := (odTable d).toNat
  checkCrit d 0 3 a ++ checkCrit d 64 4 a ++ checkCrit d 128 5 a
    ++ check (odCtx d ≠ enCtx e || decide (odGen d ≠ enGen e)) 4 1023
    ++ check (!odReservedOk d) 5 1023
    ++ check (!inRegions (s.ringRegions r) table (64 * n)) 6 1023
    ++ check (!s.compute.images.any fun i => i.id = odImage d) 7 1023
    ++ check (decide (12 < odInputs d) || odOutputs d = 0 || decide (4 < odOutputs d)) 9 1023
    ++ check (placeRefused d || (!odNear d && s.placeBeyond (placement d 0))) 0x0A 1023
    ++ check (odClass d = 0 || decide (0x0D < odClass d) || decide (3 < odMapKind d)) 0x0B 1023
    ++ check (decide (table % 64 ≠ 0)) 0x0C 1023

/-- The checks of one tensor descriptor. Log: DEDUCED 50. -/
def State.tensorChecks (s : State) (r : Ring) (e : BitVec 512) (a i : Nat) (t : BitVec 512) : List Failed :=
  let base := (tdBase t).toNat
  let c := s.context r.ctx.val
  let spans := if 11 < tdFormat t then [] else tdSpans t
  let zero := (List.range (tdRank t)).any fun k => tdSize t k = 0
  checkCrit t 0 (8 + 4 * i) a ++ checkCrit t 64 (9 + 4 * i) a ++ checkCrit t 128 (10 + 4 * i) a
    ++ check (tdCtx t ≠ enCtx e || decide (tdGen t ≠ enGen e)) 4 i
    ++ check (!tdReservedOk t) 5 i
    ++ check (!tdGlobal t && spans.any fun x => !inRegions c.regions (base + x.1) x.2) 6 i
    ++ check (decide (11 < tdFormat t)) 8 i
    ++ check zero 9 i
    ++ check (decide (base % 64 ≠ 0)) 0x0C i
    ++ check (tdGlobal t && (!c.domain || s.domain.id.isNone
        || spans.any fun x => (s.window r.ctx (tdModule t) (base + x.1) x.2).isNone)) 0x0D i

/-- Stage 3 of R476: the tensors in order, and then the placement that output tensor 0 decides (R120). Log: DEDUCED 50. -/
def State.checkStage3 (s : State) (k : Nat) (r : Ring) (e : BitVec 512) (d : BitVec 1024) (ts : List (BitVec 512)) (a : Nat) :
    List Failed × Placement :=
  let out := ts.getD (odInputs d) 0
  let near := if tdGlobal out then k / 64 else (homeBase (tdBase out).toNat).getD (k / 64)
  let p := placement d near
  (((List.range ts.length).map fun i => s.tensorChecks r e (a + 64 * i) i (ts.getD i 0)).flatten
    ++ check (odNear d && s.placeBeyond p) 0x0A 1023, p)

/-! ### Completion -/

/-- A completion record's 32 bytes (Table 4.9). -/
def completionRecord (e : RingEntry) (now : W64) (status detail : Nat) : List Byte :=
  let word := BitVec.ofNat 32 (status % 256 * 2 ^ 24 + (enGen e.word).toNat * 2 ^ 20 + (enCtx e.word).val * 2 ^ 10 + detail % 1024)
  leBytes 8 (critWord word).toNat ++ leBytes 8 (critWord e.count).toNat ++ leBytes 8 (enTag e.word).toNat ++ leBytes 8 now.toNat

/-- Counters of OPX_RING_STAT. -/
abbrev rsIgnored : Nat := 0
abbrev rsRefused : Nat := 1
abbrev rsDiscarded : Nat := 2

/-- The notification of a ring (R59, R312, R313): vector n of the port that made it, or bit n of its core's interrupt
file. -/
def State.notifyRing (s : State) (k : Nat) : State :=
  match (s.ring k).owner with
  | .host => s.vectorTo (if Store.get false s.host.ringPort (k % 64) then .b else .a) (k % 64)
  | .core c =>
    let s := s.modCore c.val fun x => { x with ringPending := putBit x.ringPending (k % 64) true }
    if (s.core c.val).ringEnable.getLsbD (k % 64) then s.emit (.coreInterrupt c) else s

/-- Complete an entry (R117, R118): its record is written, then OPX_CPL_TAIL advances, then the notification. -/
def State.endEntry (s : State) (k : Nat) (e : RingEntry) (status detail : Nat) : State :=
  let r := s.ring k
  let s := s.homeStore (baseChan (k / 64)) (k / 64) (r.cplBase + 32 * (r.cplTail.toNat % r.entries)) (completionRecord e s.tel.timestamp status detail)
  let s := s.modRing k fun r => { r with cplTail := r.cplTail + 1, live := r.live.filter fun x => x.count ≠ e.count }
  let s := if 0 < status ∧ status < 0x40 then s.count 6 k rsRefused 1 else if status = 0xC0 then s.count 6 k rsDiscarded 1 else s
  if enNotify e.word then s.notifyRing k else s

/-- End an entry at a failed check (R116). -/
def State.failEntry (s : State) (k : Nat) (e : RingEntry) (f : Failed) : State :=
  let s := match f.absent with
    | some a => match s.place (a / 64 * 64) with
      | .cell h _ => s.criticalAbsent (ringDie k) (lineChan h) (BitVec.ofNat 64 a) true
      | _ => s
    | none => s
  s.endEntry k e f.status f.detail

/-- End an entry whose reading met a poisoned line (Table 5.6): POISON_READ, and status 0x85. Log: DEDUCED 49. -/
def State.poisonEntry (s : State) (k : Nat) (e : RingEntry) (a : Nat) : State :=
  let s := match s.place (a / 64 * 64) with
    | .cell h _ => s.raise (homeDie h) { cause := .poisonRead, suspect := lineChan h, detail := BitVec.ofNat 64 a,
                                         reporter := baseChan (k / 64) }
    | _ => s
  s.endEntry k e 0x85 0

/-! ### Moving a ring on -/

/-- The dispatcher's write of a fence value at its home (R109): an 8-byte store, discarded where its line is poisoned.
Log: DEDUCED 53. -/
def State.writeFence (s : State) (k : Nat) (e : RingEntry) : State :=
  let a := (enFence e.word).toNat
  let r := s.storeAt a (leBytes 8 (enFenceValue e.word).toNat) false
  r.2.foldl (fun t x => t.discardedPart x (baseChan (k / 64))) r.1

/-- Complete the SIGNAL and BARRIER entries before which every earlier entry has completed (R109, R111). -/
def State.advanceRing (s : State) (k : Nat) : Nat → State
  | 0 => s
  | n + 1 =>
    match (s.ring k).live with
    | e :: _ =>
      match e.phase with
      | .signal => State.advanceRing ((s.writeFence k e).endEntry k e 0 0) k n
      | .barrier => State.advanceRing (s.endEntry k e 0 0) k n
      | _ => s
    | [] => s

/-- Evaluate a WAIT entry: it completes once its word, compared unsigned, has reached its value (R109). -/
def State.evalWait (s : State) (k : Nat) (e : RingEntry) : State :=
  let a := (enFence e.word).toNat
  let r := s.load a 8
  if r.2 then s.poisonEntry k e a
  else if (enFenceValue e.word).toNat ≤ leNat r.1 then (s.endEntry k e 0 0).advanceRing k 4096
  else s

/-- A record that lists an operator has not reached the keeper yet, so its sequence is not known (R374 step 4). -/
def State.sequenceDue (s : State) (op : W32) : Bool := s.faults.sent.any fun r => r.ops.contains op

/-- A started operator holds every completion token of its placement. -/
def RingEntry.held (e : RingEntry) : Bool := e.placement.wards.all fun w => e.tokens.contains w

/-- Detail of a fault status: the low 10 bits of the record's sequence (R374 step 4). -/
def faultDetail (e : RingEntry) : Nat := match e.faultSeq with | some n => n.toNat % 1024 | none => 0

/-- Complete the operators of a ring that hold what they need: every token, and the sequence where a fault failed them. -/
def State.settleRing (s : State) (k : Nat) : State :=
  let s := (s.ring k).live.foldl (fun t e =>
    if e.phase = .started && e.held && e.drainedFirst.isEmpty then
      match e.fault with
      | none => t.endEntry k e 0 0
      | some f =>
        if f.toNat < 0x80 then t.endEntry k e f.toNat 0
        else if e.faultSeq.isNone && t.sequenceDue e.opSerial then t
        else t.endEntry k e f.toNat (faultDetail e)
    else t) s
  s.advanceRing k 4096

/-- Settle every ring: a sequence has reached the dispatchers (R374 step 5). -/
def State.settleRings (s : State) : State := s.ops.rings.foldl (fun t p => t.settleRing p.1) s

/-! ### Sending start tokens -/

/-- Entries of a dispatcher's rings that are started and not complete. -/
def State.startedOn (s : State) (die : Nat) : Nat :=
  ((s.ops.rings.filter fun p => p.1 / 64 = die).map fun (p : Nat × Ring) =>
    (p.2.live.filter fun e => match e.phase with | .starting _ _ | .started => true | _ => false).length).sum

/-- An entry's place in its ring lets it start (R106, R107): the previous DISPATCH entry has completed, or with the overlap
flag set has had every start token sent. -/
def mayStart (live : List RingEntry) (e : RingEntry) : Bool :=
  match e.prev with
  | none => true
  | some p =>
    match live.find? fun x => x.count = p with
    | none => true
    | some x => enOverlap e.word && decide (x.phase = .started)

/-- A ward can take a start token of a context: it holds the context's region table, or a table is free (R138). -/
def Ward.tableFree (w : Ward) (ctx : CtxId) (gen : Gen) : Bool :=
  (w.tables.any fun r => r.ctx = ctx && r.gen = gen) || decide ((w.tables.filter fun r => r.ctx ≠ ctx).length < 8)

/-- Change an entry of a ring by `f`. -/
def State.modEntry (s : State) (k : Nat) (count : W32) (f : RingEntry → RingEntry) : State :=
  s.modRing k fun r => { r with live := r.live.map fun x => if x.count = count then f x else x }

/-- Send the start tokens of an entry that have places, each with its context's region table: those left wait for a credit (R43) or a
region table (R138). -/
def State.sendStarts (s : State) (k : Nat) (e : RingEntry) (left : List TumId) : State × List TumId :=
  let all := e.placement.tumblers
  let ctx := enCtx e.word
  let gen := enGen e.word
  left.foldl (fun acc t =>
    let taken := Store.get 0 acc.1.ops.startTaken (tkey t)
    if acc.2.isEmpty && decide (taken < 4) && (acc.1.ward (wkey t)).tableFree ctx gen then
      let s := acc.1
      let s := { s with ops := { s.ops with startTaken := Store.put 0 s.ops.startTaken (tkey t) (taken + 1) } }
      let s := s.modWard (wkey t) fun w =>
        (w.load ctx gen (s.context ctx.val).regions).modTable ctx fun r => { r with coming := r.coming + 1 }
      let tok := startTok e ctx gen t (all.idxOf t)
      (s.emit (.startToken (startHeader (ringDie k) tok) tok), [])
    else (acc.1, acc.2 ++ [t])) (s, [])

/-- Release the start-order locks of a placement (R108). -/
def State.unlock (s : State) (k : Nat) : State :=
  { s with ops := { s.ops with locks := s.ops.locks.filter fun p => p.2 ≠ some k } }

/-- An entry that is sending start tokens has `left` to send and `flying` on their way; with none of either, all of them have entered
their start queues: it has started, and its locks are released (R107, R108). -/
def State.setStarting (s : State) (k : Nat) (count : W32) (left : List TumId) (flying : Nat) : State :=
  if left.isEmpty && flying = 0 then ((s.modEntry k count fun x => { x with phase := .started }).unlock k).settleRing k
  else s.modEntry k count fun x => { x with phase := .starting left flying }

/-- Send what an entry that holds its locks still has to send. Log: DEDUCED 132. -/
def State.pushStarts (s : State) (k : Nat) (e : RingEntry) (left : List TumId) (flying : Nat) : State :=
  let r := s.sendStarts k e left
  r.1.setStarting k e.count r.2 (flying + (left.length - r.2.length))

/-- Every dispatcher that is sending start tokens goes on. -/
def State.pushAll (s : State) : State :=
  s.ops.rings.foldl (fun t p =>
    p.2.live.foldl (fun u e => match e.phase with | .starting left n => u.pushStarts p.1 e left n | _ => u) t) s

/-- The started entry of an operator on a dispatcher's rings: its ring and itself. -/
def State.findOp (s : State) (disp : Nat) (ctx : CtxId) (op : W32) : Option (Nat × RingEntry) :=
  s.ops.rings.findSome? fun p =>
    if p.1 / 64 = disp then
      (p.2.live.find? fun e => e.opSerial = op && enCtx e.word = ctx
        && match e.phase with | .starting _ _ | .started => true | _ => false).map fun e => (p.1, e)
    else none

/-- A start token of an operator has reached its ward: one fewer is on its way. -/
def State.noteArrival (s : State) (tok : StartTok) : State :=
  match s.findOp (serialDie tok.opSerial).val tok.ctx tok.opSerial with
  | some (k, e) => match e.phase with | .starting left n => s.setStarting k e.count left (n - 1) | _ => s
  | none => s

/-- Take the locks of a placement's dies, in ascending order, where each is free (R108). Log: DEDUCED 132. -/
def State.takeLocks (s : State) (k : Nat) (dies : List Die) : Option State :=
  if dies.all fun d => (Store.get none s.ops.locks d.val).isNone then
    some { s with ops := { s.ops with locks := dies.foldl (fun m d => Store.put none m d.val (some k)) s.ops.locks } }
  else none

end Sys2Proof.Machine
end

