-- ==== Sys2Proof/Machine/Numerics.lean ====
section
/-! DEFINITION. Number formats (R62–R97): exact values, decoding and encoding of the twelve formats, Bronze, rounding,
scales, Pewter, 2:4 sparsity and dot products. -/

namespace Sys2Proof.Machine

/-! ### Exact values -/

/-- A value: a finite number (−1)^neg × m × 2^e, an infinity, or a NaN. -/
inductive Num where
  | fin (neg : Bool) (m : Nat) (e : Int)
  | inf (neg : Bool)
  | nan
deriving DecidableEq, Repr

/-- Positive zero. -/
def Num.zero : Num := .fin false 0 0

/-- Zero of either sign. -/
def Num.isZero : Num → Bool
  | .fin _ 0 _ => true
  | _ => false

/-- A NaN or an infinity. -/
def Num.special : Num → Bool
  | .fin _ _ _ => false
  | _ => true

/-- The sign; a NaN counts as positive. -/
def Num.neg : Num → Bool
  | .fin n _ _ => n
  | .inf n => n
  | .nan => false

/-- Magnitude. -/
def Num.abs : Num → Num
  | .fin _ m e => .fin false m e
  | .inf _ => .inf false
  | .nan => .nan

/-- An integer as a value. -/
def Num.ofInt (i : Int) : Num := .fin (decide (i < 0)) i.natAbs 0

/-- Exact product; 0 × infinity is NaN (R89). -/
def Num.mul : Num → Num → Num
  | .nan, _ => .nan
  | _, .nan => .nan
  | .inf a, .inf b => .inf (a != b)
  | .inf a, .fin b m _ => if m = 0 then .nan else .inf (a != b)
  | .fin a m _, .inf b => if m = 0 then .nan else .inf (a != b)
  | .fin a m e, .fin b n f => .fin (a != b) (m * n) (e + f)

/-- A finite value as an integer count of 2^q. -/
def scaledInt (neg : Bool) (m : Nat) (e q : Int) : Int :=
  let v : Int := Int.ofNat (m * 2 ^ (e - q).toNat)
  if neg then -v else v

/-- Exact sum. A zero sum is positive unless both terms are negative. -/
def Num.add : Num → Num → Num
  | .nan, _ => .nan
  | _, .nan => .nan
  | .inf a, .inf b => if a = b then .inf a else .nan
  | .inf a, .fin _ _ _ => .inf a
  | .fin _ _ _, .inf b => .inf b
  | .fin a m e, .fin b n f =>
    let q := min e f
    let s := scaledInt a m e q + scaledInt b n f q
    if s = 0 then .fin (a && b) 0 q else .fin (decide (s < 0)) s.natAbs q

/-- Number of bits of a magnitude. -/
def bitLen (m : Nat) : Nat := if m = 0 then 0 else Nat.log2 m + 1

/-- Exponent of the leading bit of a nonzero finite value: floor(log2 |x|). -/
def leadOf (m : Nat) (e : Int) : Int := e + Int.ofNat (bitLen m) - 1

/-- a < b for finite magnitudes. -/
def magLt (m : Nat) (e : Int) (n : Nat) (f : Int) : Bool :=
  let q := min e f
  decide (m * 2 ^ (e - q).toNat < n * 2 ^ (f - q).toNat)

/-! ### Rounding (R78, R79) -/

/-- How a conversion rounds, with the draw of a stochastic one. -/
inductive Rnd where
  | even | zero | stoch (draw : Nat)
  /-- Toward +∞, for a positive value (R75). -/
  | up
deriving DecidableEq, Repr

/-- Round m × 2^e to a whole number of units of 2^q. -/
def roundUnits (rnd : Rnd) (m : Nat) (e q : Int) : Nat :=
  if q ≤ e then m * 2 ^ (e - q).toNat
  else
    let d := (q - e).toNat
    let k := m / 2 ^ d
    let rem := m % 2 ^ d
    match rnd with
    | .even => if 2 * rem > 2 ^ d ∨ (2 * rem = 2 ^ d ∧ k % 2 = 1) then k + 1 else k
    | .zero => k
    | .up => if rem = 0 then k else k + 1
    | .stoch r =>
      let f := if 16 ≤ d then rem / 2 ^ (d - 16) else rem * 2 ^ (16 - d)
      if 65536 ≤ f + r then k + 1 else k

/-- Round a magnitude to `p` significant bits with units no finer than 2^qmin; answers the units and the unit's exponent. -/
def roundSig (rnd : Rnd) (p : Nat) (qmin : Int) (m : Nat) (e : Int) : Nat × Int :=
  let q := max (leadOf m e + 1 - Int.ofNat p) qmin
  let k := roundUnits rnd m e q
  if bitLen k ≤ p then (k, q) else (k / 2, q + 1)

/-! ### Bronze (R86, R91) -/

/-- Round a value into Bronze: 32 significant bits, units no finer than 2^−157, overflow to infinity. -/
def bronze : Num → Num
  | .fin n 0 _ => .fin n 0 (-157)
  | .fin n m e =>
    let r := roundSig .even 32 (-157) m e
    if 127 < leadOf r.1 r.2 then .inf n else .fin n r.1 r.2
  | v => v

/-- A Bronze value as a spill word (Table 3.6). R65 names no canonical NaN of Bronze: the model's has sign 0 and the highest fraction
bit. Log: DESIGN CHOICE 159. -/
def spillWord (v : Num) : W64 :=
  match v with
  | .nan => 0xFF40000000#64
  | .inf n => BitVec.ofNat 64 (0xFF00000000 + n.toNat * 2 ^ 31)
  | .fin n m e =>
    if m = 0 then BitVec.ofNat 64 (n.toNat * 2 ^ 31)
    else
      let r := roundSig .even 32 (-157) m e
      if bitLen r.1 < 32 ∧ r.2 = -157 then BitVec.ofNat 64 (n.toNat * 2 ^ 31 + r.1)
      else
        let k := r.1 * 2 ^ (32 - bitLen r.1)
        let q := r.2 - Int.ofNat (32 - bitLen r.1)
        BitVec.ofNat 64 ((q + 31 + 127).toNat * 2 ^ 32 + n.toNat * 2 ^ 31 + (k - 2 ^ 31))

/-- A spill word read back; its reserved bits are ignored (R91). -/
def ofSpill (w : W64) : Num :=
  let e := field w 32 8
  let f := field w 0 31
  let n := w.getLsbD 31
  if e = 255 then (if f = 0 then .inf n else .nan)
  else if e = 0 then .fin n f (-157)
  else .fin n (f + 2 ^ 31) (Int.ofNat e - 127 - 31)

/-- Quotient with a sticky bit below 80 exact bits, before any rounding. -/
def exactDiv (a b : Num) : Num :=
  match a, b with
  | .nan, _ => .nan
  | _, .nan => .nan
  | .inf _, .inf _ => .nan
  | .inf x, .fin y _ _ => .inf (x != y)
  | .fin x _ _, .inf y => .fin (x != y) 0 0
  | .fin x m e, .fin y n f =>
    if n = 0 then (if m = 0 then .nan else .inf (x != y))
    else
      let k := 80 + bitLen n
      .fin (x != y) (2 * (m * 2 ^ k / n) + (if m * 2 ^ k % n = 0 then 0 else 1)) (e - f - Int.ofNat k - 1)

/-- a / b rounded into Bronze. -/
def Num.div (a b : Num) : Num := bronze (exactDiv a b)

/-! ### Floating-point formats (Table 3.2) -/

/-- Widths, bias, largest finite code and NaN rule of a floating-point format. -/
structure FloatSpec where
  ebits : Nat
  fbits : Nat
  bias : Int
  maxCode : Nat
  /-- Exponent all ones is infinity or NaN. -/
  ieee : Bool
  /-- The code that is the only NaN magnitude of E4M3. -/
  nanCode : Option Nat
deriving DecidableEq, Repr

/-- Table 3.2; none for integers and Pewter. -/
def floatSpec : Fmt → Option FloatSpec
  | .fp32 => some ⟨8, 23, 127, 0x7F7FFFFF, true, none⟩
  | .fp16 => some ⟨5, 10, 15, 0x7BFF, true, none⟩
  | .bf16 => some ⟨8, 7, 127, 0x7F7F, true, none⟩
  | .e4m3 => some ⟨4, 3, 7, 0x7E, false, some 0x7F⟩
  | .e5m2 => some ⟨5, 2, 15, 0x7B, true, none⟩
  | .e3m2 => some ⟨3, 2, 3, 0x1F, false, none⟩
  | .e2m3 => some ⟨2, 3, 1, 0x1F, false, none⟩
  | .e2m1 => some ⟨2, 1, 1, 0x7, false, none⟩
  | _ => none

/-- Bits per element (Table 3.1); a Pewter element has none of its own. -/
def fmtBits : Fmt → Nat
  | .fp32 | .int32 => 32
  | .fp16 | .bf16 => 16
  | .e4m3 | .e5m2 | .int8 => 8
  | .e3m2 | .e2m3 => 6
  | .e2m1 | .int4 => 4
  | .pewter => 0

/-- Canonical NaN of a format that has one (R65). -/
def canonicalNan : Fmt → Nat
  | .fp32 => 0x7FC00000
  | .fp16 => 0x7E00
  | .bf16 => 0x7FC0
  | .e4m3 => 0x7F
  | .e5m2 => 0x7F
  | _ => 0

/-- Value of a floating-point code (R63). -/
def decodeFloat (s : FloatSpec) (code : Nat) : Num :=
  let sign := code / 2 ^ (s.ebits + s.fbits) % 2 = 1
  let mag := code % 2 ^ (s.ebits + s.fbits)
  let e := mag / 2 ^ s.fbits
  let f := mag % 2 ^ s.fbits
  if s.ieee ∧ e = 2 ^ s.ebits - 1 then (if f = 0 then .inf sign else .nan)
  else if s.nanCode = some mag then .nan
  else if e = 0 then .fin sign f (1 - s.bias - Int.ofNat s.fbits)
  else .fin sign (f + 2 ^ s.fbits) (Int.ofNat e - s.bias - Int.ofNat s.fbits)

/-- Width of an integer format. -/
def intBits : Fmt → Nat
  | .int8 => 8
  | .int4 => 4
  | _ => 32

/-- Two's complement value of a code. -/
def intOf (b code : Nat) : Int := if 2 ^ (b - 1) ≤ code % 2 ^ b then Int.ofNat (code % 2 ^ b) - Int.ofNat (2 ^ b) else Int.ofNat (code % 2 ^ b)

/-- Under the two block scaling modes an integer element is i × 2^−(b − 2) (R66). -/
def blockScaled : Scaling → Bool
  | .mx | .block16 => true
  | _ => false

/-- Value of an element code; a Pewter code is a trit already decoded, 0, 1 or 2 for −1, 0 and +1. -/
def decodeElem (f : Fmt) (sc : Scaling) (code : Nat) : Num :=
  match f with
  | .pewter => Num.ofInt (Int.ofNat code - 1)
  | .int8 | .int4 | .int32 =>
    let b := intBits f
    match Num.ofInt (intOf b code) with
    | .fin n m _ => .fin n m (if blockScaled sc then 2 - Int.ofNat b else 0)
    | v => v
  | f => match floatSpec f with | some s => decodeFloat s code | none => .nan

/-! ### Conversion into a format (R81) -/

/-- Event counters of Table 3.9, in its order. -/
abbrev avSaturate : Nat := 0
abbrev avInf : Nat := 1
abbrev avNan : Nat := 2
abbrev avNanZero : Nat := 3
abbrev avPewter : Nat := 4
abbrev avSign : Nat := 5
abbrev avNanBlock : Nat := 6
abbrev avDup : Nat := 7

/-- Bits of a float's sign. -/
def signBit (s : FloatSpec) (n : Bool) : Nat := n.toNat * 2 ^ (s.ebits + s.fbits)

/-- Code of an infinity of an IEEE format. -/
def infCode (s : FloatSpec) : Nat := (2 ^ s.ebits - 1) * 2 ^ s.fbits

/-- Magnitude code of rounded units. -/
def magCode (s : FloatSpec) (k : Nat) (q : Int) : Nat :=
  if k < 2 ^ s.fbits then k else (q + Int.ofNat s.fbits + s.bias).toNat * 2 ^ s.fbits + (k - 2 ^ s.fbits)

/-- Conversion to a floating-point format (Table 3.5): the code, and the events it counts. -/
def encodeFloat (f : Fmt) (s : FloatSpec) (rnd : Rnd) (ieee : Bool) (v : Num) : Nat × List Nat :=
  match v with
  | .nan => if s.ieee || s.nanCode.isSome then (canonicalNan f, [avNan]) else (0, [avNanZero])
  | .inf n =>
    if ieee && s.ieee then (signBit s n + infCode s, [avInf])
    else if ieee && s.nanCode.isSome then (canonicalNan f, [avNan])
    else (signBit s n + s.maxCode, [avSaturate])
  | .fin n 0 _ => (signBit s n, [])
  | .fin n m e =>
    let r := roundSig rnd (s.fbits + 1) (1 - s.bias - Int.ofNat s.fbits) m e
    let code := magCode s r.1 r.2
    if code ≤ s.maxCode then (signBit s n + code, [])
    else if ieee && s.ieee then (signBit s n + infCode s, [avInf])
    else (signBit s n + s.maxCode, [avSaturate])

/-- Conversion to an integer format; negative zero becomes 0 and a NaN 0 (R64, Table 3.5). -/
def encodeInt (b : Nat) (scaled : Bool) (rnd : Rnd) (v : Num) : Nat × List Nat :=
  let hi : Int := Int.ofNat (2 ^ (b - 1)) - 1
  let lo : Int := -(Int.ofNat (2 ^ (b - 1)))
  let code (i : Int) : Nat := (i % Int.ofNat (2 ^ b)).toNat
  match v with
  | .nan => (0, [avNanZero])
  | .inf n => (code (if n then lo else hi), [avSaturate])
  | .fin n m e =>
    let k := roundUnits rnd m (if scaled then e + Int.ofNat (b - 2) else e) 0
    let i : Int := if n then -(Int.ofNat k) else Int.ofNat k
    if hi < i then (code hi, [avSaturate]) else if i < lo then (code lo, [avSaturate]) else (code i, [])

/-- Conversion of a value, already divided by its scale, to an element code; a trit is 0, 1 or 2. -/
def encodeElem (f : Fmt) (sc : Scaling) (rnd : Rnd) (ieee : Bool) (v : Num) : Nat × List Nat :=
  match f with
  | .pewter =>
    match v with
    | .fin n m e =>
      let k := roundUnits rnd m e 0
      if k = 0 then (1, []) else (if n then 0 else 2, if 1 < k then [avSaturate] else [])
    | _ => (1, [])
  | .int8 | .int4 | .int32 => encodeInt (intBits f) (blockScaled sc) rnd v
  | f => match floatSpec f with | some s => encodeFloat f s rnd ieee v | none => (0, [])

/-- FP32 of a value, rounded to nearest even with IEEE overflow (R97). -/
def toFp32 (v : Num) : W32 := BitVec.ofNat 32 (encodeFloat .fp32 ⟨8, 23, 127, 0x7F7FFFFF, true, none⟩ .even true v).1

/-- Value of an FP32 word. -/
def ofFp32 (w : W32) : Num := decodeFloat ⟨8, 23, 127, 0x7F7FFFFF, true, none⟩ w.toNat

/-- Correctly rounded FP32 operations (R97). -/
def fAdd (a b : W32) : W32 := toFp32 ((ofFp32 a).add (ofFp32 b))
def fMul (a b : W32) : W32 := toFp32 ((ofFp32 a).mul (ofFp32 b))
def fFma (a b c : W32) : W32 := toFp32 (((ofFp32 a).mul (ofFp32 b)).add (ofFp32 c))

/-- 1 / s in one rounding to FP32, to nearest even (R77, R478). -/
def recipFp32 (s : Num) : W32 := toFp32 (exactDiv (.fin false 1 0) s)

/-- E4M3 of a scale byte's magnitude. -/
def e4m3Mag (b : Byte) : Num := (decodeFloat ⟨4, 3, 7, 0x7E, false, some 0x7F⟩ b.toNat).abs

/-! ### Reading rows (R67–R73, R83, R84) -/

/-- What a row is read from: a byte at each SRAM address. -/
abbrev Mem := Nat → Byte

/-- Little-endian number of `n` bytes from an address. -/
def memNat (m : Mem) (a : Nat) : Nat → Nat
  | 0 => 0
  | n + 1 => (m a).toNat + 256 * memNat m (a + 1) n

/-- Stored elements of a block of a row: 32, 16 or 40, or 0 for none (R68, R72). -/
def blockOf (r : SramRow) : Nat :=
  match r.fmt, r.scaling with
  | .pewter, _ => 40
  | _, .mx => 32
  | _, .block16 => 16
  | _, _ => 0

/-- Trit `k` of a code byte, as 0, 1 or 2; codes from 243 decode as zero trits (R69). -/
def tritOf (code k : Nat) : Nat := if 243 ≤ code then 1 else code / 3 ^ k % 3

/-- Code of stored element `i` (R67, R68). -/
def storedCode (m : Mem) (r : SramRow) (i : Nat) : Nat :=
  match r.fmt with
  | .pewter => tritOf (m (r.elems + 9 * (i / 40) + i % 40 / 5)).toNat (i % 5)
  | f =>
    let b := fmtBits f
    if b = 4 then (m (r.elems + i / 2)).toNat / 16 ^ (i % 2) % 16
    else if b = 6 then memNat m (r.elems + 3 * (i / 4)) 3 / 64 ^ (i % 4) % 64
    else memNat m (r.elems + b / 8 * i) (b / 8)

/-- Scale byte of the block of stored element `i`. -/
def scaleByte (m : Mem) (r : SramRow) (i : Nat) : Byte :=
  match r.fmt with
  | .pewter => m (r.elems + 9 * (i / 40) + 8)
  | _ => m (r.scales + i / blockOf r)

/-- Block scale of stored element `i`: 1 where the row has none (R68, R71, R73). -/
def blockScale (m : Mem) (r : SramRow) (i : Nat) : Num :=
  match r.fmt, r.scaling with
  | .pewter, _ => e4m3Mag (scaleByte m r i)
  | _, .mx =>
    let x := (scaleByte m r i).toNat
    if x = 255 then .nan else .fin false 1 (Int.ofNat x - 127)
  | _, .block16 => e4m3Mag (scaleByte m r i)
  | _, _ => .fin false 1 0

/-- Stored element `i` before its scales. Under a NaN scale it is NaN, under a block-16 scale of 0 it is 0 (R73). -/
def storedElem (m : Mem) (r : SramRow) (i : Nat) : Num :=
  if blockScaled r.scaling ∧ r.fmt ≠ .pewter ∧ blockScale m r i = .nan then .nan
  else if r.scaling = .block16 ∧ r.fmt ≠ .pewter ∧ (blockScale m r i).isZero then .zero
  else decodeElem r.fmt r.scaling (storedCode m r i)

/-- Index nibble of a group (R83). -/
def nibble (m : Mem) (r : SramRow) (g : Nat) : Nat := (m (r.metaAt + g / 2)).toNat / 16 ^ (g % 2) % 16

/-- Logical position within its group of stored value `k` of a 2:4 row. Log: DESIGN CHOICE 140. -/
def sparsePos (m : Mem) (r : SramRow) (k : Nat) : Nat := nibble m r (k / 2) / 4 ^ (k % 2) % 4

/-- A stored element with its block scale applied in Bronze (R82). -/
def scaledElem (m : Mem) (r : SramRow) (i : Nat) : Num :=
  let v := storedElem m r i
  if blockOf r = 0 then v else bronze (v.mul (blockScale m r i))

/-- Logical element `i` with a scale function applied to each stored element: a 2:4 row is expanded (R84, R85).
Log: DESIGN CHOICE 140. -/
def logicalWith (at_ : Nat → Num) (m : Mem) (r : SramRow) (i : Nat) : Num :=
  if r.sparse then
    let g := i / 4
    let a := if sparsePos m r (2 * g) = i % 4 then at_ (2 * g) else .zero
    let b := if sparsePos m r (2 * g + 1) = i % 4 then at_ (2 * g + 1) else .zero
    if sparsePos m r (2 * g) = i % 4 ∧ sparsePos m r (2 * g + 1) = i % 4 then a.add b
    else if sparsePos m r (2 * g) = i % 4 then a else b
  else at_ i

/-- Per-tensor scale of a row, where its mode has one (R70, R71). Log: DESIGN CHOICE 51. -/
def tensorScale (r : SramRow) : Option Num := if r.scaling = .perTensor then some (ofFp32 r.tensorScale) else none

/-- Logical element `i` in Bronze, every scale applied (R82). -/
def element (m : Mem) (r : SramRow) (i : Nat) : Num :=
  let v := logicalWith (scaledElem m r) m r i
  match tensorScale r with
  | some s => bronze (v.mul s)
  | none => bronze v

/-- Groups of four that `n` logical elements from `from_` touch: the first, and how many. -/
def groupRange (from_ n : Nat) : Nat × Nat := if n = 0 then (0, 0) else (from_ / 4, (from_ + n - 1) / 4 - from_ / 4 + 1)

/-- Stored elements read for `n` logical ones from `from_`: the first, and how many. -/
def storedRange (r : SramRow) (from_ n : Nat) : Nat × Nat :=
  if r.sparse then (2 * (groupRange from_ n).1, 2 * (groupRange from_ n).2) else (from_, n)

/-- Read events of a row's `n` logical elements from `from_`: invalid Pewter codes, scale signs, NaN blocks and
duplicate indices (Table 3.9). -/
def readEvents (m : Mem) (r : SramRow) (from_ n : Nat) : List Nat :=
  let lo := (storedRange r from_ n).1
  let cnt := (storedRange r from_ n).2
  let blk := blockOf r
  let blocks := if blk = 0 ∨ cnt = 0 then [] else (List.range ((lo + cnt - 1) / blk - lo / blk + 1)).map fun j => lo / blk + j
  let codes := if r.fmt = .pewter ∧ 0 < cnt then
      (((List.range ((lo + cnt - 1) / 5 - lo / 5 + 1)).map fun j => lo / 5 + j).filter fun c =>
        243 ≤ (m (r.elems + 9 * (c / 8) + c % 8)).toNat).map fun _ => avPewter
    else []
  let signs := (blocks.filter fun j => (r.fmt = .pewter || r.scaling = .block16) && (scaleByte m r (j * blk)).getLsbD 7).map fun _ => avSign
  let nans := (blocks.filter fun j => decide (blockScale m r (j * blk) = .nan)).map fun _ => avNanBlock
  let gs := groupRange from_ n
  let dups := if r.sparse then ((List.range gs.2).filter fun j =>
      decide (sparsePos m r (2 * (gs.1 + j)) = sparsePos m r (2 * (gs.1 + j) + 1))).map fun _ => avDup
    else []
  codes ++ signs ++ nans ++ dups

/-- Logical element `i` with every scale, exact (R479 steps 3 and 4). -/
def exactElem (m : Mem) (r : SramRow) (i : Nat) : Num :=
  let v := logicalWith (fun j => (storedElem m r j).mul (blockScale m r j)) m r i
  match tensorScale r with
  | some s => v.mul s
  | none => v

/-- A Bronze value times the per-tensor scales of its operands, in one rounding (R89). -/
def applyTensorScales (rs : List SramRow) (v : Num) : Num :=
  match rs.filterMap tensorScale with
  | [] => v
  | ss => bronze (v.mul (ss.foldl Num.mul (.fin false 1 0)))

/-! ### Dot products (R87–R90) -/

/-- One product of a chunk: its exact value, the block of each operand and the scales of those blocks. -/
structure Product where
  value : Num
  blockA : Nat
  blockB : Nat
  scaleA : Num
  scaleB : Num
deriving DecidableEq, Repr

/-- Block index of stored element `i`; a row without blocks has one. -/
def blockIx (r : SramRow) (i : Nat) : Nat := if blockOf r = 0 then 0 else i / blockOf r

/-- Stored index that a logical element's block is taken from. -/
def blockAt (r : SramRow) (i : Nat) : Nat := if r.sparse then 2 * (i / 4) else i

/-- Products of `n` logical elements of rows a and b from `from_`. A 2:4 row b used as weights is taken by its stored values
(R84, R87); any other 2:4 row is expanded. -/
def products (m : Mem) (a b : SramRow) (from_ n : Nat) (weights : Bool) : List Product :=
  let one (i : Nat) (vb : Num) (jb : Nat) : Product :=
    { value := (logicalWith (storedElem m a) m a i).mul vb, blockA := blockIx a (blockAt a i), blockB := blockIx b jb,
      scaleA := blockScale m a (blockAt a i), scaleB := blockScale m b jb }
  if b.sparse && weights then
    let rg := storedRange b from_ n
    let at_ (j : Nat) : Nat := 4 * (j / 2) + sparsePos m b j
    (((List.range rg.2).map fun k => rg.1 + k).filter fun j => from_ ≤ at_ j && decide (at_ j < from_ + n)).map fun j =>
      one (at_ j) (storedElem m b j) j
  else (List.range n).map fun k => one (from_ + k) (logicalWith (storedElem m b) m b (from_ + k)) (blockAt b (from_ + k))

/-- A chunk's products: 32 at most, and of one block of each operand (R87). -/
def chunkTake : Nat → Option (Nat × Nat) → List Product → List Product × List Product
  | 0, _, ps => ([], ps)
  | _, _, [] => ([], [])
  | n + 1, key, p :: ps =>
    if key = none ∨ key = some (p.blockA, p.blockB) then
      let r := chunkTake n (some (p.blockA, p.blockB)) ps
      (p :: r.1, r.2)
    else ([], p :: ps)

/-- Wide operands: BF16 or FP32 (R88). -/
def wide (r : SramRow) : Bool := r.fmt = .bf16 || decide (r.fmt = .fp32)

/-- Truncate a finite value toward zero at 2^q (R88). -/
def truncAt (q : Int) : Num → Num
  | .fin n m e => .fin n (roundUnits .zero m e q) q
  | v => v

/-- Exponent of the largest finite product of a chunk. -/
def topLead (ps : List Product) : Option Int :=
  ps.foldl (fun acc p => match p.value with
    | .fin _ 0 _ => acc
    | .fin _ m e => some (match acc with | some t => max t (leadOf m e) | none => leadOf m e)
    | _ => acc) none

/-- A chunk's sum: exact, or aligned to its largest product with 100 bits kept below that product's leading bit (R88). -/
def chunkSum (isWide : Bool) (ps : List Product) : Num :=
  let vs := ps.map fun p => p.value
  let vs := if isWide then (match topLead ps with | some t => vs.map (truncAt (t - 100)) | none => vs) else vs
  vs.foldl Num.add .zero

/-- A chunk's sum with its block scales: exact under MX, rounded once into Bronze under block-16 and Pewter (R89). -/
def chunkScaled (a b : SramRow) (ps : List Product) : Num :=
  let sum := chunkSum (wide a || wide b) ps
  match ps with
  | [] => .zero
  | p :: _ =>
    let v := sum.mul (p.scaleA.mul p.scaleB)
    let rounds (r : SramRow) : Bool := r.fmt = .pewter || decide (r.scaling = .block16)
    if rounds a || rounds b then bronze v else v

/-- Add every chunk into an accumulator, one rounding each (R89). -/
def accumulate (a b : SramRow) : Nat → Num → List Product → Num
  | 0, acc, _ => acc
  | _, acc, [] => acc
  | fuel + 1, acc, p :: ps =>
    let r := chunkTake 32 none (p :: ps)
    accumulate a b fuel (bronze (acc.add (chunkScaled a b r.1))) r.2

/-- A dot product added into a Bronze accumulator. -/
def dot (m : Mem) (acc : Num) (a b : SramRow) (from_ n : Nat) (weights : Bool) : Num :=
  let ps := products m a b from_ n weights
  accumulate a b ps.length acc ps

/-! ### Stochastic generators (R79, R80) -/

/-- One step of a lane's Galois register. -/
def rngStep (st : W64) : W64 × Bool :=
  let bit := st.getLsbD 0
  let s := st >>> 1
  (if bit then s ^^^ 0xD800000000000000#64 else s, bit)

/-- `n` steps. -/
def rngSteps : Nat → W64 → W64
  | 0, s => s
  | n + 1, s => rngSteps n (rngStep s).1

/-- `n` bits shifted out, the first into bit 0. -/
def rngBits : Nat → W64 → W64 × Nat
  | 0, s => (s, 0)
  | n + 1, s =>
    let r := rngStep s
    let q := rngBits n r.1
    (q.1, r.2.toNat + 2 * q.2)

/-- A lane's state as an operator seeds it (R80). -/
def rngSeed (seed : W64) (t lane : Nat) (op : W32) : W64 :=
  let s := seed ^^^ BitVec.ofNat 64 (t * 2 ^ 32) ^^^ BitVec.ofNat 64 (lane * 2 ^ 16) ^^^ 0x5A5A00000000A5A5#64
  let s := s ^^^ (op.setWidth 64 * 0x9E3779B97F4A7C15#64)
  rngSteps 64 (if s = 0 then 1 else s)

/-- The 64 lanes of a tumbler. -/
def rngSeeds (seed : W64) (t : Nat) (op : W32) : List W64 := (List.range 64).map fun lane => rngSeed seed t lane op

/-! ### Writing rows (R74–R77, R82, R83, R85) -/

/-- emax of Table 3.4. -/
def emax : Fmt → Int
  | .fp32 | .bf16 => 127
  | .fp16 | .e5m2 => 15
  | .e4m3 => 8
  | .e3m2 => 4
  | .e2m3 | .e2m1 => 2
  | _ => 0

/-- Largest finite value of a format, integers as values under R66 (R75). -/
def maxFinite (f : Fmt) : Num :=
  match floatSpec f with
  | some s => decodeFloat s s.maxCode
  | none => .fin false (2 ^ (intBits f - 1) - 1) (2 - Int.ofNat (intBits f))

/-- The larger magnitude of two finite values. -/
def maxMag (a b : Num) : Num :=
  match a, b with
  | .fin _ m e, .fin _ n f => if magLt m e n f then .fin false n f else .fin false m e
  | _, b => b.abs

/-- Largest magnitude of a block. -/
def amax (vs : List Num) : Num := vs.foldl maxMag .zero

/-- E4M3 byte of a positive value, clamped to [2^−9, 448]. -/
def e4m3Scale (rnd : Rnd) (v : Num) : Byte :=
  match v with
  | .fin _ m e =>
    let r := roundSig rnd 4 (-9) m e
    BitVec.ofNat 8 (max 1 (min 0x7E (magCode ⟨4, 3, 7, 0x7E, false, some 0x7F⟩ r.1 r.2)))
  | _ => 0x7E

/-- Scale byte chosen for a block of results, and its value (R74, R75, R76). -/
def chooseScale (f : Fmt) (sc : Scaling) (vs : List Num) : Byte × Num :=
  let bad := vs.any Num.special
  let top := amax vs
  match f, sc with
  | .pewter, _ =>
    if bad || top.isZero then (0, .zero)
    else let b := e4m3Scale .even top; (b, e4m3Mag b)
  | _, .mx =>
    if bad then (0xFF, .nan)
    else match top with
      | .fin _ 0 _ => (0, .fin false 1 (-127))
      | .fin _ m e =>
        let x := max (-127) (min 127 (leadOf m e - emax f))
        (BitVec.ofNat 8 (x + 127).toNat, .fin false 1 x)
      | _ => (0, .fin false 1 (-127))
  | _, .block16 =>
    if bad then (0x7F, .nan)
    else if top.isZero then (0, .zero)
    else let b := e4m3Scale .up (exactDiv top (maxFinite f)); (b, e4m3Mag b)
  | _, _ => (0, .fin false 1 0)

/-- Rank of a value for 2:4 on output: NaN, then infinities, then magnitude (R85). -/
def ranksBelow (a b : Num) : Bool :=
  match a, b with
  | .nan, _ => false
  | _, .nan => true
  | .inf _, _ => false
  | _, .inf _ => true
  | .fin _ m e, .fin _ n f => magLt m e n f

/-- Position of the value of largest rank, the earlier one first on a tie, leaving `skip` out. -/
def topRank (g : List Num) (skip : Option Nat) : Nat :=
  (List.range 4).foldl (fun best i =>
    if some i = skip then best
    else if some best = skip ∨ ranksBelow (g.getD best .zero) (g.getD i .zero) then i else best) 0

/-- The two values kept of a group in ascending position, with the group's nibble (R83, R85). -/
def keepTwo (g : List Num) : List Num × Nat :=
  let a := topRank g none
  let b := topRank g (some a)
  let lo := min a b
  let hi := max a b
  ([g.getD lo .zero, g.getD hi .zero], lo + 4 * hi)

/-- `n` logical values as stored values and nibbles. -/
def sparsify (vs : List Num) : List Num × List Nat :=
  let gs := (List.range ((vs.length + 3) / 4)).map fun j => keepTwo ((vs.drop (4 * j)).take 4)
  ((gs.map fun p => p.1).flatten, gs.map fun p => p.2)

/-- What a conversion of elements leaves: codes, events and the generators. -/
structure Coded where
  codes : List Nat
  events : List Nat
  rng : List W64
deriving Repr

/-- The rounding of one element: a stochastic conversion draws from the generator of its lane (R79, R80). -/
def rndOf (rnd : Rounding) (rng : List W64) (lane : Nat) : Rnd × List W64 :=
  match rnd with
  | .nearest => (.even, rng)
  | .towardZero => (.zero, rng)
  | .stochastic =>
    let r := rngBits 16 (rng.getD lane 0)
    (.stoch r.2, rng.set lane r.1)

/-- Encode a list of values, already divided by their scales, from element index `i`. Which lane converts an element is its index in
the row modulo 64. Log: DESIGN CHOICE 160. -/
def encodeList (f : Fmt) (sc : Scaling) (rnd : Rounding) (ieee : Bool) : Nat → List W64 → List Num → Coded
  | _, rng, [] => { codes := [], events := [], rng }
  | i, rng, v :: vs =>
    let r := rndOf rnd rng (i % 64)
    let c := encodeElem f sc r.1 ieee v
    let rest := encodeList f sc rnd ieee (i + 1) r.2 vs
    { codes := c.1 :: rest.codes, events := c.2 ++ rest.events, rng := rest.rng }

/-- Pack codes of a format into bytes (R67). -/
def packCodes (f : Fmt) (codes : List Nat) : List Byte :=
  let b := fmtBits f
  if b = 4 then (List.range ((codes.length + 1) / 2)).map fun j =>
    BitVec.ofNat 8 (codes.getD (2 * j) 0 + 16 * codes.getD (2 * j + 1) 0)
  else if b = 6 then ((List.range ((codes.length + 3) / 4)).map fun j =>
    leBytes 3 (codes.getD (4 * j) 0 + 64 * codes.getD (4 * j + 1) 0 + 4096 * codes.getD (4 * j + 2) 0
      + 262144 * codes.getD (4 * j + 3) 0)).flatten
  else (codes.map fun c => leBytes (b / 8) c).flatten

/-- A Pewter block: eight code bytes and the scale byte (R68, R69). -/
def packPewter (trits : List Nat) (scale : Byte) : List Byte :=
  ((List.range 8).map fun j => BitVec.ofNat 8 (trits.getD (5 * j) 1 + 3 * trits.getD (5 * j + 1) 1 + 9 * trits.getD (5 * j + 2) 1
    + 27 * trits.getD (5 * j + 3) 1 + 81 * trits.getD (5 * j + 4) 1)) ++ [scale]

/-- A row as it is written: element bytes, scale bytes, metadata bytes, events and generators. -/
structure Written where
  elems : List Byte
  scales : List Byte
  nibbles : List Byte
  events : List Nat
  rng : List W64
deriving Repr

/-- Blocks of a block-scaled or Pewter row, in order, from element index `i`. A block whose elements are written as zeros, and padding,
draw nothing from the generators; a block-16 block with amax 0 has every code 0; a NaN scale byte counts no NaN written.
Log: DESIGN CHOICE 161. -/
def writeBlocks (f : Fmt) (sc : Scaling) (rnd : Rounding) (ieee : Bool) (blk : Nat) : Nat → Nat → List W64 → List Num → Written
  | 0, _, rng, _ => { elems := [], scales := [], nibbles := [], events := [], rng }
  | _, _, rng, [] => { elems := [], scales := [], nibbles := [], events := [], rng }
  | fuel + 1, i, rng, v :: vs =>
    let block := (v :: vs).take blk
    let s := chooseScale f sc block
    let bad := block.any Num.special
    let zeroed := bad || (s.2.isZero)
    let c := if zeroed then { codes := block.map fun _ => if f = .pewter then 1 else 0, events := [], rng }
      else encodeList f sc rnd ieee i rng (block.map fun x => x.div s.2)
    let pad := List.replicate (blk - block.length) (if f = .pewter then 1 else 0)
    let nanEvents :=
      if f = .pewter then (if bad then [avNanZero] else [])
      else if (floatSpec f).all fun q => !q.ieee && q.nanCode.isNone then
        (block.filter fun x => decide (x = .nan)).map fun _ => avNanZero
      else []
    let rest := writeBlocks f sc rnd ieee blk fuel (i + block.length) c.rng ((v :: vs).drop blk)
    { elems := (if f = .pewter then packPewter (c.codes ++ pad) s.1 else packCodes f (c.codes ++ pad)) ++ rest.elems
      scales := if f = .pewter then rest.scales else s.1 :: rest.scales
      nibbles := [], events := nanEvents ++ c.events ++ rest.events, rng := rest.rng }

/-- Write Bronze values as a row (R77, R82). -/
def writeRow (r : SramRow) (rnd : Rounding) (ieee : Bool) (rng : List W64) (vs : List Num) : Written :=
  let sp := sparsify vs
  let stored := if r.sparse then sp.1 else vs
  let stored := match tensorScale r with
    | some s => let inv := ofFp32 (recipFp32 s); stored.map fun v => bronze (v.mul inv)
    | none => stored
  let blk := blockOf r
  let w :=
    if blk = 0 then
      let c := encodeList r.fmt r.scaling rnd ieee 0 rng stored
      { elems := packCodes r.fmt c.codes, scales := [], nibbles := [], events := c.events, rng := c.rng }
    else writeBlocks r.fmt r.scaling rnd ieee blk stored.length 0 rng stored
  { w with nibbles := if r.sparse then packCodes .int4 sp.2 else [] }

/-! ### Reductions (R478) -/

/-- IEEE 754-2019 maximum and minimum; −0 ranks below +0 (R478). -/
def numMax (a b : Num) : Num :=
  match a, b with
  | .nan, _ => .nan
  | _, .nan => .nan
  | .inf false, _ => a
  | _, .inf false => b
  | .inf true, b => b
  | a, .inf true => a
  | .fin x m e, .fin y n f =>
    if x ≠ y then (if x then b else a)
    else if x then (if magLt m e n f then a else b) else (if magLt m e n f then b else a)

/-- Change a value's sign. -/
def Num.negate : Num → Num
  | .fin n m e => .fin (!n) m e
  | .inf n => .inf (!n)
  | .nan => .nan

def numMin (a b : Num) : Num := (numMax a.negate b.negate).negate

/-- Sum of values in chunks of at most 32, each added into Bronze with one rounding (R478, R87). -/
def sumChunks : Nat → Num → List Num → Num
  | 0, acc, _ => acc
  | _, acc, [] => acc
  | fuel + 1, acc, v :: vs =>
    sumChunks fuel (bronze (acc.add (((v :: vs).take 32).foldl Num.add .zero))) ((v :: vs).drop 32)

/-- A reduction of values as a Bronze value. -/
def reduceNums (op : RedOp) (vs : List Num) : Num :=
  match op with
  | .sum => sumChunks vs.length .zero vs
  | .mean => bronze ((sumChunks vs.length .zero vs).mul (ofFp32 (recipFp32 (.fin false vs.length 0))))
  | .max => match vs with | [] => .zero | v :: vs => bronze (vs.foldl numMax v)
  | .min => match vs with | [] => .zero | v :: vs => bronze (vs.foldl numMin v)

end Sys2Proof.Machine
end

