-- ==== Sys2Proof/Machine/VectorUnit.lean ====
section
/-! DEFINITION. The vector unit (R97): the correctly rounded operations, and the functions that the manual bounds by units in the last
place. The exact value of a bounded function is computed in fixed point far below the last place of FP32. -/

namespace Sys2Proof.Machine

/-! ### Fixed point -/

/-- Fraction bits of the fixed-point values. -/
abbrev fxBits : Nat := 640

/-- A finite value in fixed point. -/
def toFx (n : Bool) (m : Nat) (e : Int) : Int :=
  let q := e + Int.ofNat fxBits
  let v : Int := Int.ofNat (if 0 ≤ q then m * 2 ^ q.toNat else m / 2 ^ (-q).toNat)
  if n then -v else v

/-- A fixed-point value times 2^k. -/
def ofFx (v k : Int) : Num := .fin (decide (v < 0)) v.natAbs (k - Int.ofNat fxBits)

def fxOne : Int := Int.ofNat (2 ^ fxBits)
def fxMul (a b : Int) : Int := a * b / fxOne
def fxDiv (a b : Int) : Int := a * fxOne / b

/-- Integer square root, bit by bit. -/
def isqrt (n : Nat) : Nat :=
  ((List.range (bitLen n / 2 + 1)).reverse).foldl (fun r b => if (r + 2 ^ b) * (r + 2 ^ b) ≤ n then r + 2 ^ b else r) 0

/-- Sum of z, z³/3, z⁵/5, … with signs `s`: atanh for 1 and atan for −1. -/
def atanSeries (s : Int) (z : Int) : Nat → Nat → Int → Int
  | 0, _, _ => 0
  | n + 1, k, p => p / Int.ofNat (2 * k + 1) + atanSeries s z n (k + 1) (s * fxMul p (fxMul z z))

def atanh_ (z : Int) : Int := atanSeries 1 z 240 0 z
def atan_ (z : Int) : Int := atanSeries (-1) z 240 0 z

/-- Natural logarithm of 2, and π by Machin's sum. -/
def fxLn2 : Int := 2 * atanh_ (fxOne / 3)
def fxPi : Int := 16 * atan_ (fxOne / 5) - 4 * atan_ (fxOne / 239)

/-- Sum of r^k / k! from a term on. -/
def expSeries (r : Int) : Nat → Nat → Int → Int
  | 0, _, _ => 0
  | n + 1, k, p => p + expSeries r n (k + 1) (fxMul p r / Int.ofNat (k + 1))

/-- e^x of a fixed-point x as a fixed-point value and a power of two. -/
def fxExp (x : Int) : Int × Int :=
  let k := x / fxLn2
  (expSeries (x - k * fxLn2) 140 0 fxOne, k)

/-- Sum of (−1)^k z^(2k+1) / (k! (2k + 1)) from a term on. -/
def erfSeries (zz : Int) : Nat → Nat → Int → Int
  | 0, _, _ => 0
  | n + 1, k, p => p / Int.ofNat (2 * k + 1) + erfSeries zz n (k + 1) (-(fxMul p zz / Int.ofNat (k + 1)))

/-- erf of a fixed-point z. -/
def fxErf (z : Int) : Int :=
  fxDiv (2 * erfSeries (fxMul z z) 600 0 z) (Int.ofNat (isqrt ((fxPi * fxOne).toNat)))

/-! ### Exact values -/

/-- Square root of a positive value, with a sticky bit. -/
def exactSqrt (m : Nat) (e : Int) : Num :=
  let k : Nat := 200 + (if e % 2 = 0 then 0 else 1)
  let n := m * 2 ^ k
  let r := isqrt n
  .fin false (2 * r + (if r * r = n then 0 else 1)) ((e - Int.ofNat k) / 2 - 1)

/-- A value below the smallest subnormal of FP32, and one above its largest finite value. -/
def tinyNum (n : Bool) : Num := .fin n 1 (-300)
def hugeNum : Num := .fin false 1 300

/-- e^x of a finite value. -/
def exactExp (n : Bool) (m : Nat) (e : Int) : Num :=
  if 128 < leadOf m e ∨ (m ≠ 0 ∧ 6 < leadOf m e) then (if n then tinyNum false else hugeNum)
  else let r := fxExp (toFx n m e); ofFx r.1 r.2

/-- The natural logarithm of a positive value. -/
def exactLn (m : Nat) (e : Int) : Num :=
  let y := toFx false m (-(Int.ofNat (bitLen m) - 1))
  ofFx (leadOf m e * fxLn2 + 2 * atanh_ (fxDiv (y - fxOne) (y + fxOne))) 0

/-- 1 / (1 + e^−|x|) and its complement, in fixed point; tanh from e^−2|x|. -/
def exactLogistic (n : Bool) (m : Nat) (e : Int) : Num :=
  match exactExp true m e with
  | .fin _ k f =>
    let q := Num.fin false k f
    let one := Num.fin false 1 0
    if n then exactDiv q (one.add q) else exactDiv one (one.add q)
  | v => v

def exactTanh (n : Bool) (m : Nat) (e : Int) : Num :=
  match exactExp true m (e + 1) with
  | .fin _ k f =>
    let one := Num.fin false 1 0
    match exactDiv (one.add (.fin true k f)) (one.add (.fin false k f)) with
    | .fin _ a b => .fin n a b
    | v => v
  | v => v

/-- GELU in the error-function form, x / 2 × (1 + erf(x / √2)) (R97). -/
def exactGelu (n : Bool) (m : Nat) (e : Int) : Num :=
  if m ≠ 0 ∧ 3 < leadOf m e then (if n then tinyNum true else .fin false m e)
  else
    let x := toFx n m e
    let z := fxMul x (Int.ofNat (isqrt (2 ^ (2 * fxBits - 1))))
    ((Num.fin n m (e - 1)).mul (ofFx (fxOne + fxErf z) 0))

/-- The exact value of a bounded function where the manual's bound applies: a finite operand at which the function is defined. None at
an infinity, at 0 for a reciprocal or logarithm, and below 0 for a root or logarithm: the manual states no result there.
Log: DESIGN CHOICE 10. -/
def exactFn (fn : VecFn) (x : Num) : Option Num :=
  match x with
  | .fin n m e =>
    match fn with
    | .recip => if m = 0 then none else some (exactDiv (.fin false 1 0) x)
    | .sqrt => if m = 0 then some x else if n then none else some (exactSqrt m e)
    | .rsqrt => if m = 0 ∨ n then none else some (exactDiv (.fin false 1 0) (exactSqrt m e))
    | .exp => some (exactExp n m e)
    | .ln => if m = 0 ∨ n then none else some (exactLn m e)
    | .tanh => some (if m = 0 then x else exactTanh n m e)
    | .logistic => some (exactLogistic n m e)
    | .gelu => some (if m = 0 then x else exactGelu n m e)
    | _ => none
  | _ => none

/-- The bound of R97 in units in the last place. -/
def ulpBound : VecFn → Nat
  | .tanh | .logistic | .gelu => 4
  | _ => 2

/-- Exponent of FP32's unit in the last place at a finite value. -/
def ulpExp (m : Nat) (e : Int) : Int := max (leadOf m e - 23) (-149)

/-- An FP32 word lies within `k` units in the last place of a finite value. Log: DESIGN CHOICE 10. -/
def within (k : Nat) (w : W32) (v : Num) : Bool :=
  match v with
  | .fin n m e =>
    match (ofFp32 w).add (.fin (!n) m e) with
    | .fin _ d f => !magLt k (ulpExp m e) d f
    | _ => false
  | _ => false

/-- The canonical NaN in place of any NaN (R65). -/
def quiet (w : W32) : W32 := if ofFp32 w = .nan then 0x7FC00000 else w

/-- A vector-unit function of FP32 words: addition, multiplication and fused multiply-add are correctly rounded. The others are within
the bound of R97, which `Config.vectorFn` picks from; where it names a word outside the bound the nearest value is taken, so that
every result within the bound and no other is possible. Where the manual states no result it is `Config.vectorFn`'s. A NaN is the
canonical one (R65). Log: DESIGN CHOICE 10. -/
def vecFn (fn : VecFn) (x y z : W32) : W32 :=
  match fn with
  | .add => fAdd x y
  | .mul => fMul x y
  | .fma => fFma x y z
  | fn =>
    if ofFp32 x = .nan then 0x7FC00000
    else
      match exactFn fn (ofFp32 x) with
      | some v => if within (ulpBound fn) (Config.vectorFn fn x) v then Config.vectorFn fn x else toFp32 v
      | none => quiet (Config.vectorFn fn x)

/-- The epilogue of a code of Table 4.10. -/
def epilogueOf : Nat → Option Epilogue
  | 0 => some .none | 1 => some .relu | 2 => some .gelu | 3 => some .silu | _ => none

/-- An epilogue (R479 step 5); the manual gives no effect for a code above 3. Log: DESIGN CHOICE 162. -/
def epilogue (code : Nat) (t : W32) : W32 :=
  match epilogueOf code with
  | some .none => t
  | some .relu => match ofFp32 t with
    | .nan => 0x7FC00000
    | .fin false m _ => if m = 0 then 0 else t
    | .inf false => t
    | _ => 0
  | some .gelu => vecFn .gelu t 0 0
  | some .silu => fMul t (vecFn .logistic t 0 0)
  | none => Config.otherEpilogue code t

/-- Steps 2 to 5 of R479. -/
def matmulTail (p alpha beta : W32) (c bias : Option W32) (ep : Nat) : W32 :=
  let t := fMul alpha p
  let t := match c with | some c => fFma beta c t | none => t
  let t := match bias with | some b => fAdd t b | none => t
  epilogue ep t

end Sys2Proof.Machine
end

