-- ==== Sys2Proof/Machine/StepWork.lean ====
section
/-! DEFINITION. The arithmetic that a running step carries out on its tumbler's SRAM (chapter 3), under the rounding and saturation modes,
the tensors and the parameter words of its operator (R78, R81, R112, R113). -/

namespace Sys2Proof.Machine

/-- Bytes of the data region; the sequencer refuses the rest (R26). -/
abbrev dataRegion : Nat := 245760

/-- A tumbler's SRAM and generators while a step computes, with the events it has counted and the descriptors of its operator. -/
structure Work where
  mem : Store Byte
  events : List Nat
  rng : List W64
  word : BitVec 1024
  tensors : List (BitVec 512)
deriving Repr

/-- SRAM as a step reads it. -/
def Work.read (w : Work) : Mem := fun a => Store.get 0 w.mem a

/-- Store bytes at an SRAM address. -/
def Work.put (w : Work) (a : Nat) (bytes : List Byte) : Work :=
  { w with mem := (bytes.foldl (fun (acc : Store Byte × Nat) b => (Store.put 0 acc.1 acc.2 b, acc.2 + 1)) (w.mem, a)).1 }

/-- A 32-bit or Bronze word of SRAM. -/
def Work.word32 (w : Work) (a : Nat) : W32 := BitVec.ofNat 32 (memNat w.read a 4)
def Work.acc (w : Work) (a : Nat) : Num := ofSpill (BitVec.ofNat 64 (memNat w.read a 8))
def Work.putWord (w : Work) (a : Nat) (v : W32) : Work := w.put a (leBytes 4 v.toNat)
def Work.putAcc (w : Work) (a : Nat) (v : Num) : Work := w.put a (leBytes 8 (spillWord v).toNat)

/-- Count events. -/
def Work.note (w : Work) (es : List Nat) : Work := { w with events := w.events ++ es }

/-- A row that a step names. -/
def Work.row (w : Work) (r : RowRef) : SramRow := RowRef.row w.tensors r

/-- Write Bronze values as a row under the operator's rounding and saturation modes (R78, R81). -/
def Work.putRow (w : Work) (r : SramRow) (vs : List Num) : Work :=
  let x := writeRow r (odRounding w.word) (odIeee w.word) w.rng vs
  let w := ((w.put r.elems x.elems).put r.scales x.scales).put r.metaAt x.nibbles
  { w with events := w.events ++ x.events, rng := x.rng }

/-- An FP32 parameter word (R123). -/
def Work.param (w : Work) (i : Nat) : W32 := BitVec.ofNat 32 (odParam w.word i)

/-- The epilogue code among the class parameters: word 5 of MATMUL, word 14 of CONV; the other classes have none (Table 4.10). -/
def odEpilogue (d : BitVec 1024) : Nat := match odClass d with | 1 => odParam d 5 | 2 => odParam d 14 | _ => 0

/-- Add a dot product into the Bronze word at an address. -/
def Work.addDot (w : Work) (acc : Nat) (a b : SramRow) (from_ n : Nat) (weights : Bool) : Work :=
  (w.putAcc acc (dot w.read (w.acc acc) a b from_ n weights)).note (readEvents w.read a from_ n ++ readEvents w.read b from_ n)

/-- Combine two Bronze values as a reduction does. -/
def combineNums (op : RedOp) (a b : Num) : Num :=
  match op with
  | .sum | .mean => bronze (a.add b)
  | .max => numMax a b
  | .min => numMin a b

/-- One element of a row, decoded to FP32 with one rounding (R479). -/
def Work.elem32 (w : Work) (x : RowRef × Nat) : W32 := toFp32 (exactElem w.read (w.row x.1) x.2)

/-- One piece of arithmetic. Log: DEDUCED 141. -/
def Work.run (w : Work) (op : ArithOp) : Work :=
  match op with
  | .clearBronze a => w.putAcc a .zero
  | .dot acc a b from_ n weights => w.addDot acc (w.row a) (w.row b) from_ n weights
  | .tile acc rows cols from_ n weights =>
    let wide := matrixCols cols.length
    (List.range (matrixRows rows.length * wide)).foldl (fun w k =>
      match rows[k / wide]?, cols[k % wide]? with
      | some a, some b => w.addDot (acc + 8 * k) (w.row a) (w.row b) from_ n weights
      | _, _ => w.putAcc (acc + 8 * k) .zero) w
  | .combine op acc src => w.putAcc acc (combineNums op (w.acc acc) (w.acc src))
  | .scaleBronze acc operands => w.putAcc acc (applyTensorScales (operands.map w.row) (w.acc acc))
  | .meanBronze acc n => w.putAcc acc (bronze ((w.acc acc).mul (ofFp32 (recipFp32 (.fin false n 0)))))
  | .convert src dst n =>
    let vs := (List.range n).map fun i => element w.read (w.row src) i
    (w.putRow (w.row dst) vs).note (readEvents w.read (w.row src) 0 n)
  | .bronzeToFp32 acc dst => w.putWord dst (toFp32 (w.acc acc))
  | .storeBronze acc dst n => w.putRow (w.row dst) ((List.range n).map fun i => w.acc (acc + 8 * i))
  | .storeTile acc dst n =>
    (List.range dst.length).foldl (fun w i => match dst[i]? with
      | some r => w.putRow (w.row r) ((List.range n).map fun j => w.acc (acc + 8 * (i * matrixCols n + j)))
      | none => w) w
  | .vec fn x y z dst n =>
    let out := (List.range n).map fun i =>
      leBytes 4 (vecFn fn (w.word32 (x + 4 * i)) (w.word32 (y + 4 * i)) (w.word32 (z + 4 * i))).toNat
    w.put dst out.flatten
  | .matmulTail p c bias dst =>
    let row (x : Option (RowRef × Nat)) : List Nat := match x with | some x => readEvents w.read (w.row x.1) x.2 1 | none => []
    (w.putWord dst (matmulTail (w.word32 p) (w.param 6) (w.param 7) (c.map w.elem32) (bias.map w.elem32) (odEpilogue w.word))).note
      (row c ++ row bias)
  | .epilogue src dst => w.putWord dst (epilogue (odEpilogue w.word) (w.word32 src))
  | .storeFp32 src dst n => w.putRow (w.row dst) ((List.range n).map fun i => ofFp32 (w.word32 (src + 4 * i)))
  | .reduce op src n dst =>
    (w.putAcc dst (reduceNums op ((List.range n).map fun i => element w.read (w.row src) i))).note
      (readEvents w.read (w.row src) 0 n)
  | .copy src dst n => w.put dst ((List.range n).map fun i => w.read (src + i))

/-! ### What SRAM a step touches (R26) -/

/-- Address past the bytes of stored element `i` of a row. -/
def elemEnd (r : SramRow) (i : Nat) : Nat :=
  match r.fmt with
  | .pewter => r.elems + 9 * (i / 40 + 1)
  | f =>
    let b := fmtBits f
    if b = 4 then r.elems + i / 2 + 1 else if b = 6 then r.elems + 3 * (i / 4 + 1) else r.elems + b / 8 * (i + 1)

/-- SRAM that reading or writing logical elements up to `n` of a row touches, as (address, length). -/
def rowTouches (r : SramRow) (n : Nat) : List (Nat × Nat) :=
  if n = 0 then []
  else
    let stored := if r.sparse then 2 * ((n + 3) / 4) else n
    let stored := if blockOf r = 0 then stored else roundUp stored (blockOf r)
    (r.elems, elemEnd r (stored - 1) - r.elems)
      :: (if blockOf r = 0 ∨ r.fmt = .pewter then [] else [(r.scales, stored / blockOf r)])
      ++ (if r.sparse then [(r.metaAt, ((n + 3) / 4 + 1) / 2)] else [])

/-- SRAM that a piece of arithmetic touches, as (address, length). -/
def ArithOp.touches (ts : List (BitVec 512)) (op : ArithOp) : List (Nat × Nat) :=
  let row (r : RowRef) (n : Nat) : List (Nat × Nat) := rowTouches (RowRef.row ts r) n
  match op with
  | .clearBronze a => [(a, 8)]
  | .dot acc a b from_ n _ => (acc, 8) :: row a (from_ + n) ++ row b (from_ + n)
  | .tile acc rows cols from_ n _ =>
    (acc, 8 * (matrixRows rows.length * matrixCols cols.length)) :: ((rows ++ cols).map fun r => row r (from_ + n)).flatten
  | .combine _ acc src => [(acc, 8), (src, 8)]
  | .scaleBronze acc _ => [(acc, 8)]
  | .meanBronze acc _ => [(acc, 8)]
  | .convert src dst n => row src n ++ row dst n
  | .bronzeToFp32 acc dst => [(acc, 8), (dst, 4)]
  | .storeBronze acc dst n => (acc, 8 * n) :: row dst n
  | .storeTile acc dst n => (acc, 8 * (dst.length * matrixCols n)) :: (dst.map fun r => row r n).flatten
  | .vec _ x y z dst n => [(x, 4 * n), (y, 4 * n), (z, 4 * n), (dst, 4 * n)]
  | .matmulTail p c bias dst =>
    let one (x : Option (RowRef × Nat)) : List (Nat × Nat) := match x with | some x => row x.1 (x.2 + 1) | none => []
    [(p, 4), (dst, 4)] ++ one c ++ one bias
  | .epilogue src dst => [(src, 4), (dst, 4)]
  | .storeFp32 src dst n => (src, 4 * n) :: row dst n
  | .reduce _ src n dst => (dst, 8) :: row src n
  | .copy src dst n => [(src, n), (dst, n)]

/-- The first access of a list that reaches the reserved 16 KiB: its address (R26). -/
def reservedTouch (xs : List (Nat × Nat)) : Option Nat :=
  (xs.find? fun x => decide (0 < x.2 ∧ dataRegion < x.1 + x.2)).map fun x => x.1

end Sys2Proof.Machine
end

