-- ==== Sys2Proof/Machine/Tumblers.lean ====
section
/-! DEFINITION. Tumblers and wards (chapter 2): start tokens, the firing rule, loads and writes, tokens, generation
changes, aborts, probes and the self-test of spares. -/

namespace Sys2Proof.Machine

/-! ### Queues -/

def Tumbler.inQueue (t : Tumbler) (q : Nat) : List Beat := Store.get [] t.inq q
def Tumbler.outQueue (t : Tumbler) (q : Nat) : List Token := Store.get [] t.outq q
def Tumbler.credit (t : Tumbler) (q : Nat) : Nat := Store.get 0 t.credits q

/-- Bytes of a tumbler's SRAM. -/
def Tumbler.bytes (t : Tumbler) (a n : Nat) : List Byte := (List.range n).map fun i => Store.get 0 t.sram (a + i)

/-- SRAM with bytes written. -/
def Tumbler.putSram (t : Tumbler) (a : Nat) (bytes : List Byte) : Tumbler := { t with sram := putCells t.sram a bytes }

/-- A generation change of a context has reached the ward and this token bears an older generation (R42 step 4). -/
def Ward.stale (w : Ward) (ctx : CtxId) (gen : Gen) : Bool := w.draining.any fun d => d.1 = ctx && decide (d.2.1 ≠ gen)

/-- Count discarded or misaddressed tokens of a ward (R29, R42). -/
def State.countDiscard (s : State) (k n : Nat) : State := s.modWard k fun w => { w with discarded := w.discarded + n }
def State.countMisaddressed (s : State) (k : Nat) : State :=
  s.modWard k fun w => { w with misaddressed := w.misaddressed + 1 }

/-- A token or start token reaches a tumbler whose remap entry is absent: CRIT_ABSENT, and its operator fails with 0x8F
(R46). The remap tables are in no numbered register block, so the detail below bit 63 is a free value. Log: DESIGN CHOICE 13. -/
def State.remapAbsent (s : State) (t : TumId) (ctx : CtxId) (gen : Gen) (op : Option W32) : State :=
  let r : Raise := { cause := .critAbsent, suspect := dieChan t.die.val, detail := putField s.fresh 63 1 1 }
  let s := s.spend.count kFlt (dieBase t.die.val).val 3 1
  match op with
  | some op => s.refuseOn t.die.val t.ward.val ctx gen op 0x8F r
  | none => s.raise (dieBase t.die.val) { r with ctx := some (ctx, gen) }

/-- Serial of the operator of a context on a tumbler. -/
def State.opOn (s : State) (t : TumId) (ctx : CtxId) : Option W32 :=
  match (s.tumbler (tkey t)).resident with
  | some r => if r.ctx = ctx then some r.opSerial else none
  | none => none

/-! ### Start tokens -/

/-- A ward's part of START_TOKEN_ARRIVAL: the start token waits in its tumbler's start queue, in arrival order (R43). One of an old
generation is discarded (R42), and is a straggler once local drain has completed (R128). One that reaches a logical tumbler that
degraded operation has withdrawn fails its operator with 0x42 (Table 4.8, R23); one of an operator whose completion token the ward has
sent is dropped. The place of a dropped token goes back to its dispatcher. -/
def State.takeStart (s : State) (tok : StartTok) : State :=
  let d := tok.dest
  let dropped := s.emit (startCredit tok)
  match s.physTum d.die.val d.ward.val d.tum.val with
  | .absent => dropped.remapAbsent d tok.ctx tok.gen (some tok.opSerial)
  | .unserved => (dropped.countMisaddressed (wkey d)).failOnWard d.die.val d.ward.val tok.ctx tok.gen tok.opSerial 0x42
  | .phys _ =>
    if !s.acceptsGen tok.ctx tok.gen then dropped.straggler tok.ctx
    else if (s.ward (wkey d)).stale tok.ctx tok.gen then dropped.countDiscard (wkey d) 1
    else if (s.ward (wkey d)).completed.contains (tok.ctx, tok.opSerial) then dropped
    else if 4 ≤ (s.tumbler (tkey d)).startq.length then s
    else
      let s := s.modTumbler (tkey d) fun t => { t with startq := t.startq ++ [tok] }
      s.modWard (wkey d) fun w => w.load tok.ctx tok.gen (s.context tok.ctx.val).regions

/-- START_TOKEN_ARRIVAL: the ward takes the start token, which is no longer on its way (R43, R107, R138). Log: DEDUCED 48, 134. -/
def execStartTokenArrival (tok : StartTok) (s : State) : Host.Outcome State Fault Refusal :=
  let s := s.modWard (wkey tok.dest) fun w => w.modTable tok.ctx fun r => { r with coming := r.coming - 1 }
  .next ((s.takeStart tok).noteArrival tok)

/-- Largest number of beats that a step names for an output queue. -/
def Program.largest (p : Program) (q : Nat) : Nat := (p.steps.map fun st => st.makes.getD q 0).foldl max 0

/-- Allocations bound to an input queue. -/
def Program.bound (p : Program) (q : Nat) : Nat := ((p.senders.filter fun x => x.inQueue = q).map fun x => x.alloc).sum

/-- The checks of R36: 0x40 where an input queue's allocations exceed 64 beats, 0x41 where an allocation is smaller than
what one step makes. -/
def Program.allocFault (p : Program) : Option Byte :=
  if [0, 1, 2, 3].any fun q => 64 < p.bound q then some 0x40
  else if p.outputs.any fun b => b.alloc < p.largest b.outQueue then some 0x41
  else none

/-- The clearing of R27 and the seeding of R80, where the context differs from the previous operator's. -/
def Tumbler.enter (t : Tumbler) (ctx : CtxId) (seed : W64) (index : Nat) (op : W32) : Tumbler :=
  if t.lastCtx = some ctx then t
  else
    let seeds := (rngSeeds seed index op).foldl (fun (acc : Store W64 × Nat) v => (Store.put 0 acc.1 acc.2 v, acc.2 + 1)) ([], 0)
    { t with sram := t.sram.filter fun p => dataRegion ≤ p.1, regs := [], rng := seeds.1, lastCtx := some ctx }

/-- The checks of R36 over every tumbler of an operator's placement, in the order of the flat index. -/
def operatorFault (code tables : List Byte) (word : BitVec 1024) : Option Byte :=
  let ps := (List.range (odPlaced word)).map fun i => (Config.program code tables i).allocFault
  if ps.contains (some 0x40) then some 0x40 else if ps.contains (some 0x41) then some 0x41 else none

/-- Bytes of an installed image. -/
def State.imageBytes (s : State) (id : W32) : List Byte :=
  match s.compute.images.find? fun i => i.id = id with
  | some i => i.bytes
  | none => []

/-- Code and tables of an image, which follow its header in this order (R52). Log: DEDUCED 165. -/
def imageCode (b : List Byte) : List Byte := (b.drop 64).take (4 * leNat ((b.drop 10).take 2))
def imageTables (b : List Byte) : List Byte := (b.drop (64 + 4 * leNat ((b.drop 10).take 2))).take (64 * leNat ((b.drop 12).take 2))

/-- The code of an image as a tumbler holds it, or as the image region does. -/
def State.codeFor (s : State) (x : Tumbler) (id : W32) : List Byte :=
  match x.slots.find? fun p => p.1 = id with
  | some p => p.2
  | none => imageCode (s.imageBytes id)

/-- The draws that a SAMPLE skips in each lane as it starts (R123). -/
def skipDraws (word : BitVec 1024) (rng : Store W64) : Store W64 :=
  if odClass word ≠ 9 then rng
  else (List.range 64).foldl (fun m k => Store.put 0 m k (rngSteps (16 * odParam word 5) (Store.get 0 m k))) rng

/-- Ask the ward switch for an image's code or tables, unless it is fetching them (R56). -/
def State.fetchImage (s : State) (t : TumId) (image : W32) (tables : Bool) : State :=
  if (s.ward (wkey t)).fetching.contains (image, tables) then s
  else (s.modWard (wkey t) fun w => { w with fetching := w.fetching ++ [(image, tables)] }).emit (.imageFetch t image tables)

/-- The operator of a start token as it becomes resident. -/
def startResident (k : StartTok) (p : Program) : Resident :=
  { ctx := k.ctx, gen := k.gen, opSerial := k.opSerial, image := k.image, index := k.index, origin := k.origin,
    extent := k.extent, empty := k.empty, desc := k.desc, word := k.word, tensors := k.tensors, program := p, last := p.steps.length - 1,
    running := none, computing := false, toIssue := [], reserved := 0, toSend := [], stepped := false, waitReported := false,
    failed := none }

/-- Initial credit: each output queue's allocation (R36). -/
def Program.credits (p : Program) : Store Nat := p.outputs.foldl (fun m b => Store.put 0 m b.outQueue b.alloc) []

/-- OPERATOR_START_ON_TUMBLER: the head start token of an idle tumbler of a ward that awaits no insertion proceeds (R43, R47): the
context clearing, the allocation check of the operator's tumblers, the initial credits, and the ward's one fetch of code and tables that
are not held (R27, R36, R56). -/
def execOperatorStartOnTumbler (t : TumId) (s : State) : Host.Outcome State Fault Refusal :=
  let x := s.tumbler (tkey t)
  match x.startq, x.resident with
  | k :: rest, none =>
    if (s.ward (wkey t)).inserting || !s.clocked (dieBase t.die.val) then .next s
    else
      let code := s.codeFor x k.image
      let tables := imageTables (s.imageBytes k.image)
      let p := Config.program code tables k.index
      let x := x.enter k.ctx (s.context k.ctx.val).seed k.index k.opSerial
      let held := x.slots.any fun i => i.1 = k.image
      let slots := (x.slots.filter fun i => i.1 = k.image) ++ x.slots.filter fun i => i.1 ≠ k.image
      let inq := filterQueues (fun (b : Beat) => b.ctx = k.ctx && b.gen = k.gen) x.inq
      let tabled := decide (x.tables = some k.image)
      let x := { x with startq := rest, resident := some (startResident k p), credits := p.credits, slots, inq, outq := [],
                        rng := skipDraws k.word x.rng }
      let s := (s.setTumbler (tkey t) x).emit (startCredit k)
      match operatorFault code tables k.word with
      | some st => .next (s.failOnWard t.die.val t.ward.val k.ctx k.gen k.opSerial st)
      | none =>
        let s := if held then s else s.fetchImage t k.image false
        .next (if tabled then s else s.fetchImage t k.image true)
  | _, _ => .next s

/-- Where the table region begins in SRAM: at the reserved 16 KiB, its upper 4 KiB the sequencer scratch (R25, R52).
Log: DESIGN CHOICE 166. -/
abbrev tableAt : Nat := dataRegion

/-- Delivery to a tumbler that needs what the ward fetched: code takes the instruction slot used least recently, which is never the
resident operator's; tables take the table region (R56). Log: DESIGN CHOICE 166. -/
def Tumbler.deliver (x : Tumbler) (image : W32) (tables : Bool) (bytes : List Byte) : Tumbler :=
  match x.resident with
  | some r =>
    if r.image ≠ image then x
    else if tables then
      if x.tables = some image then x
      else { x.putSram tableAt (bytes ++ List.replicate (12288 - bytes.length) 0) with tables := some image }
    else if x.slots.any fun i => i.1 = image then x
    else { x with slots := ((image, bytes) :: x.slots).take 4 }
  | none => x

/-- IMAGE_LOAD_COMPLETE: what the ward switch fetched is delivered to every tumbler of the ward that needs it (R56). -/
def execImageLoadComplete (t : TumId) (image : W32) (tables : Bool) (s : State) : Host.Outcome State Fault Refusal :=
  if (s.ward (wkey t)).fetching.contains (image, tables) && (s.compute.images.any fun i => i.id = image) then
    let b := s.imageBytes image
    let s := s.modWard (wkey t) fun w => { w with fetching := w.fetching.erase (image, tables) }
    .next (s.modWardTums t.die.val t.ward.val fun x => x.deliver image tables (if tables then imageTables b else imageCode b))
  else .next s

/-! ### The firing rule -/

/-- Write slots that the running step has reserved and not used (R33). -/
def Tumbler.reserved (t : Tumbler) : Nat := match t.resident with | some r => r.reserved | none => 0

/-- Read slots free, and write slots (Table 2.1). -/
def Tumbler.freeReads (t : Tumbler) : Nat := 128 - t.loads.length
def Tumbler.freeWrites (t : Tumbler) : Nat := 32 - t.writes.length - t.reserved

/-- What a step that is not ready lacks first, in the order of R31. -/
inductive Lack where
  | beats (queue : Nat) | credits (queue : Nat) | loads (group : Nat) | writeSlots | readSlots
deriving DecidableEq, Repr

/-- The first condition of R31 that a step does not meet. -/
def Tumbler.lack (t : Tumbler) (st : StepDesc) : Option Lack :=
  match [0, 1, 2, 3].find? fun q => (t.inQueue q).length < st.needs.getD q 0 with
  | some q => some (.beats q)
  | none =>
    match [0, 1, 2, 3].find? fun q => t.credit q < st.makes.getD q 0 with
    | some q => some (.credits q)
    | none =>
      match st.groups.find? fun g => t.loads.any fun l => l.group = g with
      | some g => some (.loads g)
      | none =>
        if t.freeWrites < min st.writeSlots 32 then some .writeSlots
        else if t.freeReads < st.readSlots then some .readSlots
        else none

/-- Steps in the order of R32, from the entry after the one that last fired. -/
def Resident.order (r : Resident) : List Nat :=
  let n := r.program.steps.length
  (List.range n).map fun i => (r.last + 1 + i) % n

/-- A step of the table. -/
def Resident.step (r : Resident) (i : Nat) : StepDesc := r.program.steps.getD i { needs := [], makes := [], groups := [], writeSlots := 0, readSlots := 0, staging := 0 }

/-- The step that fires next (R32). -/
def Tumbler.nextStep (t : Tumbler) : Option Nat :=
  match t.resident with
  | some r => r.order.find? fun i => (t.lack (r.step i)).isNone
  | none => none

/-- The sequencer evaluates the step table: an operator with work is resident, nothing runs, code and tables are held. -/
def Tumbler.evaluates (t : Tumbler) : Bool :=
  match t.resident with
  | some r => !r.empty && r.failed.isNone && r.running.isNone && (t.slots.any fun i => i.1 = r.image) && decide (t.tables = some r.image)
  | none => false

/-- Parts of 256 B of a load, one read slot each (R37). -/
def loadParts (l : LoadReq) (ctx : CtxId) (gen : Gen) (tag : BitVec 16) : List LoadPart :=
  (List.range ((l.len + 255) / 256)).map fun i =>
    { global := l.global, module := l.module, addr := l.addr + BitVec.ofNat 48 (256 * i), len := min 256 (l.len - 256 * i),
      sram := l.sram + 256 * i, group := l.group.val, ctx, gen, tag }

/-- A write as it waits to be issued. -/
def writePart (w : WriteReq) (ctx : CtxId) (gen : Gen) (op : W32) : WritePart :=
  { global := w.global, module := w.module, addr := w.addr, len := w.len, sram := w.sram, ctx, gen, opSerial := op, tag := 0,
    op := w.op }

/-- The access that a refused load or write makes, with the status it fails its operator with and its record. -/
structure Refused where
  status : Byte
  record : Raise
  /-- Step of R287 that refused it, 0 for another check. -/
  step : Nat
deriving DecidableEq, Repr

/-- Checks of one access, in order: reserved SRAM (R26), the context's regions (R138), the map (R135, R155), or the lookup
of R287. Log: DEDUCED 57. -/
def State.checkAccess (s : State) (t : TumId) (ctx : CtxId) (regions : List Region) (global : Bool) (m : ModId) (addr : PAddr)
    (len sram : Nat) (kind : GlobalAccess) : Option Refused :=
  let chan := contextChan ctx.val
  if dataRegion < sram + len then
    some { status := 0x82, record := { cause := .reservedSram, suspect := s.chanOfTum t, detail := BitVec.ofNat 64 sram }, step := 0 }
  else if global then
    match s.lookup ctx m addr.toNat len kind with
    | .refused k => some { status := 0x89, record := { cause := .windowRefused, suspect := chan, detail := BitVec.ofNat 64 k }, step := k }
    | .marked => some { status := 0x8E, record := { cause := .remoteStatus, suspect := moduleChan m.toNat, detail := 5 }, step := 0 }
    | .via _ _ _ => none
  else if !inRegions regions addr.toNat len then
    some { status := 0x84, record := { cause := .isolation, suspect := chan, detail := addr.setWidth 64 }, step := 0 }
  else
    match s.badPlace addr.toNat len with
    | some (.withdrawn c) => some { status := 0x88, record := { cause := .withdrawn, suspect := c, detail := addr.setWidth 64 }, step := 0 }
    | some _ => some { status := 0x83, record := { cause := .unmapped, suspect := chan, detail := addr.setWidth 64 }, step := 0 }
    | none => none

/-- A refused access fails the operator of its tumbler (R374). -/
def State.refuseAccess (s : State) (t : TumId) (ctx : CtxId) (gen : Gen) (op : W32) (r : Refused) : State :=
  let s := if r.step = 0 then s else s.countLookup (dieBase t.die.val) r.step
  s.refuseOn t.die.val t.ward.val ctx gen op r.status { r.record with reporter := s.chanOfTum t }

/-- Issue a load (R37): read requests of 256 B to a home, or one READ to another module (R287 step 6). -/
def State.issueLoad (s : State) (t : TumId) (r : Resident) (l : LoadReq) : State :=
  let parts := loadParts l r.ctx r.gen s.domain.nextTag
  let s := s.modTumbler (tkey t) fun x => { x with loads := x.loads ++ parts }
  if l.global then
    match s.lookup r.ctx l.module l.addr.toNat l.len .read with
    | .via link tctx tgen =>
      let die := dieBase t.die.val
      let msg := s.requestMsg die dmRead l.module r.ctx r.gen tctx tgen l.addr l.len []
      let q : Request := { tag := s.domain.nextTag, module := l.module, ctx := r.ctx, gen := r.gen, tumbler := tkey t,
                           sram := l.sram, group := l.group.val, len := l.len, write := false, opSerial := r.opSerial }
      let s := { s with domain := { s.domain with requests := s.domain.requests ++ [q] } }
      s.takeTag.sendOn die link msg
    | _ => s
  else s.emits (parts.map fun p => .homeRead (.tumbler t r.ctx r.opSerial) p.addr p.len)

/-- Codes of the home atomic operations in a message, in the order of Table 5.4. The manual gives no codes
(log entry 21). Log: DESIGN CHOICE 21. -/
def atomicCode : AtomicOp → Nat
  | .addU64 => 0 | .addFp32 => 1 | .addBf16 => 2 | .swap => 3 | .cas => 4

/-- Issue a write or an atomic operation (R38): it takes its write slot and its data leave SRAM. Log: DESIGN CHOICE 15. -/
def State.issueWrite (s : State) (t : TumId) (p : WritePart) : State :=
  let data := (s.tumbler (tkey t)).bytes p.sram p.len
  let p := { p with tag := s.domain.nextTag }
  let s := s.modTumbler (tkey t) fun x => { x with writes := x.writes ++ [p] }
  let operand := BitVec.ofNat 64 (leNat data)
  if p.global then
    let kind := if p.op.isSome then GlobalAccess.atomic else .write
    match s.lookup p.ctx p.module p.addr.toNat p.len kind with
    | .via link tctx tgen =>
      let die := dieBase t.die.val
      let body := match p.op with
        | some o => leBytes 8 (atomicCode o.1) ++ leBytes 8 operand.toNat ++ leBytes 8 o.2.toNat
        | none => data
      let msg := s.requestMsg die (if p.op.isSome then dmAtomic else dmWrite) p.module p.ctx p.gen tctx tgen p.addr p.len body
      let q : Request := { tag := p.tag, module := p.module, ctx := p.ctx, gen := p.gen, tumbler := tkey t, sram := p.sram,
                           group := 0, len := p.len, write := true, opSerial := p.opSerial }
      let s := { s with domain := { s.domain with requests := s.domain.requests ++ [q] } }
      s.takeTag.sendOn die link msg
    | _ =>
      match s.checkAccess t p.ctx [] true p.module p.addr p.len p.sram kind with
      | some r => (s.modTumbler (tkey t) fun x => { x with writes := x.writes.dropLast }).refuseAccess t p.ctx p.gen p.opSerial r
      | none => s
  else
    match p.op with
    | some o => s.emit (.homeAtomic (.tumbler t p.ctx p.opSerial) o.1 p.addr operand o.2)
    | none =>
      let s := match s.homeAt p.addr.toNat with
        | some d => s.carry (t.die.val / 2) d (4 + t.die.val % 2) (.request false) (beatsOf data)
        | none => s
      s.emit (.homeWrite (.tumbler t p.ctx p.gen p.opSerial) p.addr data)

/-- Change the resident operator. -/
def Tumbler.modResident (t : Tumbler) (f : Resident → Resident) : Tumbler := { t with resident := t.resident.map f }

/-- Issue waiting writes while slots are free or reserved, `n` of them at most; a step whose last write has been issued, and whose
tokens are in their output queues, ends (R38). -/
def State.issueWrites (s : State) (t : TumId) : Nat → State
  | 0 => s
  | n + 1 =>
    let x := s.tumbler (tkey t)
    match x.resident with
    | some r =>
      if r.computing then s
      else
        match r.toIssue with
        | [] => s.modTumbler (tkey t) fun x => x.modResident fun r =>
            { r with reserved := 0, running := if r.toSend.isEmpty then none else r.running }
        | p :: rest =>
          if x.writes.length < 32 then
            let s := s.modTumbler (tkey t) fun x => x.modResident fun r => { r with toIssue := rest, reserved := r.reserved - 1 }
            State.issueWrites (s.issueWrite t p) t n
          else s
    | none => s

/-- Pop the beats that a step names, from each queue in turn: the queues left, and one credit token for each beat (R33).
Log: DEDUCED 23. -/
def popBeats (t : TumId) (st : StepDesc) (x : Tumbler) : Store (List Beat) × List Out :=
  [0, 1, 2, 3].foldl (fun acc q =>
    let beats := Store.get [] acc.1 q
    let n := st.needs.getD q 0
    (Store.put [] acc.1 q (beats.drop n),
     acc.2 ++ (beats.take n).map fun b =>
       .token { header := tokenHeader b.ctx b.gen tkCredit b.src.toEnd b.srcQueue 1 0 t.toEnd, beats := [] })) (x.inq, [])

/-- The beats a step consumes, in queue order, as they enter the staging area that its table entry names. Log: DESIGN CHOICE 22. -/
def stagedBeats (st : StepDesc) (x : Tumbler) : List (BitVec 512) :=
  ([0, 1, 2, 3].map fun q => ((x.inQueue q).take (st.needs.getD q 0)).map fun b => b.data).flatten

/-- Debit the credits that a step names (R33). -/
def debit (st : StepDesc) (m : Store Nat) : Store Nat :=
  [0, 1, 2, 3].foldl (fun m q => Store.put 0 m q (Store.get 0 m q - st.makes.getD q 0)) m

/-- A step's loads and writes keep to what its table entry names (R31, R37, R38). -/
def StepDesc.fits (st : StepDesc) (loads : List LoadReq) (writes : List WriteReq) : Bool :=
  ((loads.map fun l => (l.len + 255) / 256).sum ≤ st.readSlots) && decide (writes.length ≤ st.writeSlots)
    && (loads.all fun l => 0 < l.len && l.len ≤ 4096) && writes.all fun w => 0 < w.len && w.len ≤ 256

/-- The refusal of an access to the reserved 16 KiB (R26). -/
def State.reservedRefusal (s : State) (t : TumId) (a : Nat) : Refused :=
  { status := 0x82, record := { cause := .reservedSram, suspect := s.chanOfTum t, detail := BitVec.ofNat 64 a }, step := 0 }

/-- Beats that a step consumes. -/
def StepDesc.consumed (st : StepDesc) : Nat := ([0, 1, 2, 3].map fun q => st.needs.getD q 0).sum

/-- The first access of a step that is refused as it fires: its staging area and its touch of SRAM, its loads, then its writes.
Log: DEDUCED 57. -/
def State.refusedIn (s : State) (t : TumId) (r : Resident) (st : StepDesc) (loads : List LoadReq) (writes : List WriteReq)
    (touched : Option Nat) : Option Refused :=
  let rs := match (s.ward (wkey t)).tables.find? fun x => x.ctx = r.ctx with | some x => x.regions | none => []
  let touch := (st.staging, 64 * st.consumed) :: match touched with | some a => [(a, 1)] | none => []
  (((reservedTouch touch).map (s.reservedRefusal t) :: loads.map fun l => s.checkAccess t r.ctx rs l.global l.module l.addr l.len l.sram .read)
    ++ writes.map fun w => s.checkAccess t r.ctx rs w.global w.module w.addr w.len w.sram
        (if w.op.isSome then .atomic else .write)).findSome? id

/-- STEP_FIRE: the first ready step fires (R31–R33): credits are debited, write slots reserved, beats are popped into the staging area
and credited to their senders, and loads are issued. A refused access fails the operator. A step of a context whose generation change
has reached the ward does not fire (R35), nor one on a die without its clock (R15). Log: DEDUCED 57. -/
def execStepFire (t : TumId) (step : Fin 16) (loads : List LoadReq) (writes : List WriteReq) (sramTouched : Option Nat)
    (s : State) : Host.Outcome State Fault Refusal :=
  let x := s.tumbler (tkey t)
  match x.resident with
  | none => .next s
  | some r =>
    let st := r.step step.val
    if !x.evaluates || x.nextStep ≠ some step.val || !st.fits loads writes || (s.ward (wkey t)).stale r.ctx r.gen
        || !s.clocked (dieBase t.die.val) then .next s
    else
      match s.refusedIn t r st loads writes sramTouched with
      | some bad => .next (s.refuseAccess t r.ctx r.gen r.opSerial bad)
      | none =>
        let popped := popBeats t st x
        let staged := ((stagedBeats st x).map fun b => leBytes 64 b.toNat).flatten
        let x := { x.putSram st.staging staged with
          inq := popped.1, credits := debit st x.credits
          resident := some { r with last := step.val, running := some step.val, computing := true, reserved := min st.writeSlots 32,
                                    toIssue := writes.map fun w => writePart w r.ctx r.gen r.opSerial } }
        let s := (s.setTumbler (tkey t) x).emits popped.2
        let s := s.modGovernor t.die.val fun g =>
          { g with firingNow := Store.put 0 g.firingNow t.ward.val (Store.get 0 g.firingNow t.ward.val + 1) }
        .next (loads.foldl (fun s l => s.issueLoad t r l) s)

/-! ### The end of a step -/

/-- Tokens of `n` beats for one output queue: ceil(n / 4) tokens of up to 4 beats, in order (R36). Beats are given as SRAM
addresses and tags in order; what is left of both is returned. -/
def queueTokens (x : Tumbler) (r : Resident) (src : TumId) (b : Binding) : Nat → Nat → List Nat → List Byte →
    List Token × List Nat × List Byte
  | 0, _, at_, tags => ([], at_, tags)
  | fuel + 1, n, at_, tags =>
    if n = 0 then ([], at_, tags)
    else
      let k := min n 4
      let tag := (tags.head?.map fun b => b.toNat).getD 0
      let tok : Token := { header := tokenHeader r.ctx r.gen tkData b.dest.toEnd b.inQueue k tag src.toEnd
                           beats := (at_.take k).map fun a => BitVec.ofNat 512 (leNat (x.bytes a 64)) }
      let rest := queueTokens x r src b fuel (n - k) (at_.drop k) (tags.drop 1)
      (tok :: rest.1, rest.2)

/-- The tokens that a step makes, in queue order, each with its output queue. -/
def madeTokens (x : Tumbler) (r : Resident) (st : StepDesc) (src : TumId) (at_ : List Nat) (tags : List Byte) : List (Nat × Token) :=
  ([0, 1, 2, 3].foldl (fun (acc : List (Nat × Token) × List Nat × List Byte) q =>
    match r.program.outputs.find? fun b => b.outQueue = q with
    | some b =>
      let made := queueTokens x r src b (st.makes.getD q 0) (st.makes.getD q 0) acc.2.1 acc.2.2
      (acc.1 ++ made.1.map (fun k => (q, k)), made.2)
    | none => acc) ([], at_, tags)).1

/-- Beats in an output queue. -/
def queueFill (q : List Token) : Nat := (q.map fun k => k.beats.length).sum

/-- Move waiting tokens into their output queues while each has room for 32 beats, keeping their order in a queue (Table 2.1, R36): the
queues, and the tokens that still wait. `full` are the queues that one of them found without room. Log: DEDUCED 47. -/
def fillQueues (full : List Nat) (outq : Store (List Token)) : List (Nat × Token) → Store (List Token) × List (Nat × Token)
  | [] => (outq, [])
  | (q, k) :: rest =>
    let have_ := Store.get [] outq q
    if full.contains q || decide (32 < queueFill have_ + k.beats.length) then
      let r := fillQueues (q :: full) outq rest
      (r.1, (q, k) :: r.2)
    else fillQueues full (Store.put [] outq q (have_ ++ [k])) rest

/-- Waiting tokens of a tumbler enter their output queues; a step with nothing left to send or issue ends. Log: DEDUCED 47. -/
def Tumbler.refill (x : Tumbler) : Tumbler :=
  match x.resident with
  | some r =>
    let f := fillQueues [] x.outq r.toSend
    { x with outq := f.1, resident := some { r with
        toSend := f.2
        running := if f.2.isEmpty && r.toIssue.isEmpty && !r.computing then none else r.running } }
  | none => x

/-- Count a step's arithmetic events for its context (R98). -/
def State.countEvents (s : State) (die : Nat) (ctx : CtxId) (events : List Nat) : State :=
  events.foldl (fun s k => s.countCtx 1 die ctx.val k 1) s

/-- What the first step finds of an operator whose parameters, tensors or index values are inconsistent (R124, R478). The index values
of another module's tensor are not in this module. Log: DEDUCED 158. -/
def State.inconsistent (s : State) (r : Resident) : Bool :=
  descriptorsRefused r.word r.tensors || (decide (odClass r.word = 7) &&
    let index := r.tensors.getD 1 0
    !(if tdGlobal index then Config.remoteIndices r.word index
      else indicesFit r.word r.tensors (s.load (tdBase index).toNat (tdRowBytes index)).1))

/-- STEP_END: the running step's work is done on its SRAM, its output tokens enter the output queues, and its writes issue; the
sequencer evaluates its table again once the last write has been issued (R32, R38). An access to the reserved 16 KiB is refused (R26).
The operator's first step that finds it inconsistent ends it with 0x43 before any write (R124). Log: DEDUCED 47, 141. -/
def execStepEnd (t : TumId) (work : List ArithOp) (tags : List Byte) (beats : List Nat) (s : State) :
    Host.Outcome State Fault Refusal :=
  let x := s.tumbler (tkey t)
  match x.resident with
  | none => .next s
  | some r =>
    match r.running with
    | none => .next s
    | some i =>
      if !r.computing || !s.clocked (dieBase t.die.val) then .next s
      else if !r.stepped && s.inconsistent r then .next (s.failOnWard t.die.val t.ward.val r.ctx r.gen r.opSerial 0x43)
      else
        match reservedTouch ((work.map fun w => ArithOp.touches r.tensors w).flatten ++ beats.map fun a => (a, 64)) with
        | some a => .next (s.refuseAccess t r.ctx r.gen r.opSerial (s.reservedRefusal t a))
        | none =>
          let lanes := (List.range 64).map fun k => Store.get 0 x.rng k
          let w := work.foldl Work.run { mem := x.sram, events := [], rng := lanes, word := r.word, tensors := r.tensors }
          let rng := (w.rng.foldl (fun (acc : Store W64 × Nat) v => (Store.put 0 acc.1 acc.2 v, acc.2 + 1)) ([], 0)).1
          let x := { x with sram := w.mem, rng }
          let r := { r with computing := false, stepped := true, toSend := madeTokens x r (r.step i) t beats tags }
          let x := ({ x with resident := some r }).refill
          let s := (s.setTumbler (tkey t) x).countEvents t.die.val r.ctx w.events
          .next (s.issueWrites t (r.toIssue.length + 1))

/-- LOAD_DATA_LAND: 256 B land in SRAM; the read slot is freed and its group's counter falls (R37). -/
def execLoadDataLand (t : TumId) (load : Nat) (data : List Byte) (s : State) : Host.Outcome State Fault Refusal :=
  match (s.tumbler (tkey t)).loads[load]? with
  | some p =>
    if p.global then .next s
    else
      let s := s.modTumbler (tkey t) fun x =>
        ({ x.putSram p.sram (data.take p.len) with loads := x.loads.eraseIdx load }).settle
      .next (s.settleWard t.die.val t.ward.val).settleInsertions
  | none => .next s

/-- A write slot is freed (R38): a waiting write of a long step may issue. -/
def State.freeWrite (s : State) (t : TumId) (p : WritePart) : State :=
  let s := s.modTumbler (tkey t) fun x => ({ x with writes := x.writes.erase p }).settle
  let s := match (s.tumbler (tkey t)).resident with
    | some r => if r.running.isSome && r.failed.isNone then s.issueWrites t (r.toIssue.length + 1) else s
    | none => s
  (s.settleWard t.die.val t.ward.val).settleInsertions

/-- WRITE_ACK: a home acknowledges one of the tumbler's outstanding writes on this module, given by its place among them in the order
of issue, and its slot is freed (R38). -/
def execWriteAck (t : TumId) (write : Nat) (s : State) : Host.Outcome State Fault Refusal :=
  match ((s.tumbler (tkey t)).writes.filter fun p => !p.global)[write]? with
  | some p => .next (s.freeWrite t p)
  | none => .next s

/-! ### Tokens -/

/-- A token that no unit takes: to a reserved agent, a reserved index or with a reserved code (R29). It is counted on its
ward where it names one, else with the module's own. -/
def State.strayToken (s : State) (e : TokenEnd) : State :=
  if e.die < 12 ∧ e.ward < 24 then s.countMisaddressed (wardKey e.die e.ward) else s.count kMisc 0 0 1

/-- A token's beats as they enter an input queue. -/
def tokenBeats (tok : Token) (src : TumId) (srcQueue : Nat) : List Beat :=
  (List.range tok.beats.length).map fun i =>
    { ctx := tok.ctx, gen := tok.gen, src, srcQueue, tag := tok.tag, last := decide (i + 1 = tok.beats.length), data := tok.beats.getD i 0 }

/-- The output queue of the sender whose credit the beats of a queue hold: the one bound to that queue. -/
def State.sendingQueue (s : State) (src dst : TumId) (q : Nat) : Nat :=
  match (s.tumbler (tkey src)).resident with
  | some r => ((r.program.outputs.find? fun b => b.dest = dst && b.inQueue = q).map fun b => b.outQueue).getD 0
  | none => 0

/-- The tumbler runs an operator of a context's generation, or one waits at it. Log: DEDUCED 48. -/
def Tumbler.expects (t : Tumbler) (ctx : CtxId) (gen : Gen) : Bool :=
  (match t.resident with | some r => r.ctx = ctx && r.gen = gen && r.failed.isNone | none => false)
    || t.startq.any fun k => k.ctx = ctx && k.gen = gen

/-- A data token reaches the ward of its destination tumbler: it enters the input queue it names (R30). A misaddressed token, one of an
old generation and one of no operator here are discarded and counted (R28, R29, R42). -/
def State.takeToken (s : State) (tok : Token) (d src : TumId) : State :=
  if tok.beats.length ≠ tok.beatCount ∨ 4 < tok.beatCount then s.strayToken tok.dst
  else
    match s.physTum d.die.val d.ward.val d.tum.val with
    | .unserved => s.countMisaddressed (wkey d)
    | .absent => s.remapAbsent d tok.ctx tok.gen (s.opOn src tok.ctx)
    | .phys _ =>
      if (s.ward (wkey d)).stale tok.ctx tok.gen || !(s.tumbler (tkey d)).expects tok.ctx tok.gen then
        s.countDiscard (wkey d) 1
      else
        let beats := tokenBeats tok src (s.sendingQueue src d tok.queue)
        s.modTumbler (tkey d) fun x => { x with inq := Store.put [] x.inq tok.queue (x.inQueue tok.queue ++ beats) }

/-- A token's way to another ward (R41): up to the router, node by node to the ward on the same compute die, or to the vertical bond and
over the base dies' route to the destination die's bond. The place of a bond and of the wards in the mesh is not given.
Log: DESIGN CHOICE 164. -/
def State.tokenPath (s : State) (t d : TumId) (dw : Nat) : List Hop :=
  let w := (s.physWard t.die.val t.ward.val).getD t.ward.val
  if t.die = d.die then .uplink t.die w :: nodePath t.die w dw
  else
    let a := dieBase t.die.val
    let b := dieBase d.die.val
    let way := if a = b then [] else Store.get [] s.d2d.table (6 * a.val + b.val)
    [.uplink t.die w, wardNode t.die w, .bond t.die, .base a] ++ (way.map fun x => .base (asBase x)) ++ [.bond d.die, wardNode d.die dw]

/-- TOKEN_FORWARD: the head of an output queue leaves for its destination (R41): at once into the input queue of a tumbler of the same
ward, and otherwise on its way to its ward. A token to a logical index with nothing behind it is discarded and counted, and an absent
remap entry discards it with a fault of the die whose entry it is (R28, R46). Tokens that waited for room enter the queue.
Log: DEDUCED 47. -/
def execTokenForward (t : TumId) (queue : Fin 4) (s : State) : Host.Outcome State Fault Refusal :=
  match (s.tumbler (tkey t)).outQueue queue.val with
  | tok :: rest =>
    let s := s.modTumbler (tkey t) fun x => ({ x with outq := Store.put [] x.outq queue.val rest }).refill
    match tok.dst.tumbler? with
    | none => .next (s.countMisaddressed (wkey t))
    | some d =>
      if wkey d = wkey t then .next (s.takeToken tok d t)
      else
        match s.wardRemap d.die.val d.ward.val with
        | .phys w => .next ((s.carryToken tok).emit (.routed tok (s.tokenPath t d w)))
        | .unserved => .next (s.countMisaddressed (wkey t))
        | .absent => .next (s.remapAbsent d tok.ctx tok.gen (s.opOn t tok.ctx))
  | [] => .next s

/-- TOKEN_ARRIVAL: a data token reaches its destination's ward. A control token of no code, or to no agent, is counted (R29).
Log: DEDUCED 48. -/
def execTokenArrival (tok : Token) (s : State) : Host.Outcome State Fault Refusal :=
  if tok.kind = tkControl then
    let code := match tok.beats with | b :: _ => field b 56 8 | [] => 0
    .next (if code = 0 || decide (6 < code) || (tok.dst.die = 15 && (2 < tok.dst.tum || 5 < tok.dst.ward)) then s.strayToken tok.dst else s)
  else if tok.kind ≠ tkData then .next s
  else
    match tok.dst.tumbler?, tok.src.tumbler? with
    | some d, some src => .next (s.takeToken tok d src)
    | _, _ => .next (s.strayToken tok.dst)

/-- CREDIT_TOKEN_ARRIVAL: beats of credit return to the sender's output queue (R33); its beats field counts them
(log entry 23). Log: DEDUCED 23. -/
def execCreditTokenArrival (tok : Token) (s : State) : Host.Outcome State Fault Refusal :=
  if tok.kind ≠ tkCredit then .next s
  else
    match tok.dst.tumbler? with
    | some d =>
      match (s.tumbler (tkey d)).resident with
      | some r =>
        if r.ctx = tok.ctx ∧ r.gen = tok.gen ∧ r.failed.isNone then
          .next (s.modTumbler (tkey d) fun x =>
            { x with credits := Store.put 0 x.credits tok.queue (x.credit tok.queue + tok.beatCount) })
        else .next (s.countDiscard (wkey d) 1)
      | none => .next (s.countDiscard (wkey d) 1)
    | none => .next (if tok.dst.die = 15 && tok.dst.tum = agDispatcher then s else s.strayToken tok.dst)

/-! ### Waiting -/

/-- Channel of the home of an address: its stack, or a line of its shelf SRAM. -/
def State.homeChan (s : State) (a : Nat) : Chan :=
  match s.place a with
  | .cell h _ => if h < 12 then stackChan h else lineChan h
  | _ => noChan

/-- The home of an access, or the module that serves it. -/
def State.servedBy (s : State) (global : Bool) (m : ModId) (a : PAddr) : Chan :=
  if global then moduleChan m.toNat else s.homeChan a.toNat

/-- The sender that a binding table names first for a queue, in logical order. -/
def firstSender (xs : List Sender) (q : Nat) : Option TumId :=
  ((xs.filter fun x => x.inQueue = q).map fun x => x.src).foldl (fun best x =>
    match best with
    | none => some x
    | some b => if tkey x < tkey b then some x else best) none

/-- Suspect and detail of a wait (R40). A queue that no binding feeds names the tumbler's own ward. Log: DEDUCED 55. -/
def State.waitSuspect (s : State) (t : TumId) (r : Resident) : Lack → Chan × Nat
  | .beats q =>
    match firstSender r.program.senders q with
    | some x => (s.chanOfWard x.die.val x.ward.val, q)
    | none => (s.chanOfWard t.die.val t.ward.val, q)
  | .credits q =>
    match r.program.outputs.find? fun b => b.outQueue = q with
    | some b => (s.chanOfWard b.dest.die.val b.dest.ward.val, q)
    | none => (s.chanOfWard t.die.val t.ward.val, q)
  | .loads g =>
    match (s.tumbler (tkey t)).loads.find? fun l => l.group = g with
    | some l => (s.servedBy l.global l.module l.addr, g)
    | none => (noChan, g)
  | .writeSlots =>
    match (s.tumbler (tkey t)).writes with
    | w :: _ => (s.servedBy w.global w.module w.addr, 0)
    | [] => (noChan, 0)
  | .readSlots =>
    match (s.tumbler (tkey t)).loads with
    | l :: _ => (s.servedBy l.global l.module l.addr, 0)
    | [] => (noChan, 0)

/-- What the complex that owns a suspect sends to it (R369): to a ward a probe of the control class, from its base die's complex to the
ward's logical index (Tables 2.2a, 2.2b); to a home a 64 B read, here of its first line. Log: DESIGN CHOICE 167. -/
def State.probeOut (s : State) (c : Chan) : Option Out :=
  let die := chanBits c 20 4
  match chanKind c with
  | 0x02 => (s.logWard die (chanBits c 15 5)).map fun l =>
      .token (controlToken 0 0 (agentEnd (asBase (die / 2)) agComplex) (wardEnd die l) (controlWord ccProbe 0 0 0))
  | 0x1B => some (.homeRead .keeper (BitVec.ofNat 48 (die * (64 * gib))) 64)
  | 0x40 =>
    let home := chanBits c 19 5
    some (.homeRead .keeper (BitVec.ofNat 48 (if home < 12 then home * (64 * gib) else 0x020000000000 + (home - 12) * 0x10000000)) 64)
  | _ => none

/-- A probe of a ward or a home of this module, unless one is under way (R369, R371). Log: DEDUCED 58. -/
def State.probe (s : State) (c : Chan) : State :=
  match s.probeOut c with
  | some o =>
    if s.faults.probes.contains c then s
    else { s with faults := { s.faults with probes := s.faults.probes ++ [c] } }.emit o
  | none => s

/-- TOKEN_WAIT_TIMEOUT: the report of R40, once per operator; it does not fail the operator. -/
def execTokenWaitTimeout (t : TumId) (s : State) : Host.Outcome State Fault Refusal :=
  let x := s.tumbler (tkey t)
  match x.resident with
  | none => .next s
  | some r =>
    if r.waitReported || r.running.isSome || r.failed.isSome || x.nextStep.isSome then .next s
    else
      match r.order.head? with
      | none => .next s
      | some i =>
        match x.lack (r.step i) with
        | none => .next s
        | some why =>
          let (suspect, detail) := s.waitSuspect t r why
          let known := s.faults.openRecs.any fun q => q.suspect = suspect && q.cause = .tokenWait && !q.closed
          let s := s.modTumbler (tkey t) fun x => { x with resident := some { r with waitReported := true } }
          let report : Raise := { cause := .tokenWait, suspect := suspect, reporter := s.chanOfTum t
                                  detail := BitVec.ofNat 64 detail, ctx := some (r.ctx, r.gen) }
          let s := s.raise (dieBase t.die.val) report
          .next (if known || s.isPadlocked suspect then s else s.probe suspect)

/-! ### Completion, drain and abort -/

/-- Nothing of the operator is left to do here: no step runs, and every load and write has ended (R21). -/
def Tumbler.finished (t : Tumbler) : Bool :=
  match t.resident with
  | some r => r.empty || (r.running.isNone && r.toIssue.isEmpty && t.loads.isEmpty && t.writes.isEmpty && r.failed.isNone)
  | none => false

/-- Release a tumbler whose operator has completed. -/
def Tumbler.finish (t : Tumbler) (ctx : CtxId) (gen : Gen) : Tumbler :=
  { t with resident := none, credits := [], inq := filterQueues (fun b => !staleBeat ctx gen b) t.inq }

/-- WARD_COMPLETION_SEND: the operator runs on every tumbler that its placement names on the ward, each has ended and every output write is acknowledged, so the
ward sends its completion token with status 0 and its tumblers are free (R21). Log: DESIGN CHOICE 59. -/
def execWardCompletionSend (die : Die) (ward : LWard) (ctx : CtxId) (opSerial : W32) (s : State) : Host.Outcome State Fault Refusal :=
  let ts := s.wardTums die.val ward.val
  match (s.wardOps die.val ward.val).find? fun o => o.1 = ctx && o.2.2 = opSerial with
  | none => .next s
  | some (_, gen, _) =>
    let here := ts.filter fun t => t.runs opSerial ctx
    let waits := here.any fun t => match t.resident with | some r => decide (here.length < odPerWard r.word) | none => false
    let done := ts.all fun t => !t.runs opSerial ctx || (t.finished && t.outq.isEmpty)
    if waits || !done || (s.ward (wardKey die.val ward.val)).completed.contains (ctx, opSerial) then .next s
    else
      let s := s.modWardTums die.val ward.val fun t => if t.runs opSerial ctx then t.finish ctx gen else t
      let s := s.modWard (wardKey die.val ward.val) fun w => { w with completed := w.completed ++ [(ctx, opSerial)] }
      let s := s.sendTokens [completionToken ctx gen die.val ward.val opSerial 0]
      .next (s.settleWard die.val ward.val).settleInsertions

/-- GENERATION_CHANGE_ARRIVAL: steps 1 to 5 of R42 on a ward. A tumbler that still holds a slot stays occupied until its
loads and writes have ended (R126). -/
def execGenerationChangeArrival (die : Die) (ward : LWard) (ctx : CtxId) (newGen : Gen) (arg : BitVec 16) (s : State) :
    Host.Outcome State Fault Refusal :=
  let k := wardKey die.val ward.val
  let old := newGen - 1
  let credits := s.startCredits die.val ward.val fun q => q.ctx = ctx && q.gen = old
  let n := ((s.wardTums die.val ward.val).map fun t =>
    t.staleCount ctx old + (t.startq.filter fun q => q.ctx = ctx && q.gen = old).length).sum
  let s := s.modWardTums die.val ward.val fun t =>
    let t := match t.resident with
      | some r => if r.ctx = ctx && r.gen = old then t.release ctx old 0xC1
                  else { t with inq := filterQueues (fun b => !staleBeat ctx old b) t.inq }
      | none => { t with inq := filterQueues (fun b => !staleBeat ctx old b) t.inq }
    { t with startq := t.startq.filter fun q => !(q.ctx = ctx && q.gen = old) }
  let s := s.modWard k fun w =>
    { w with draining := (w.draining.filter fun d => d.1 ≠ ctx) ++ [(ctx, newGen, arg)], discarded := w.discarded + n }
  let s := s.emits credits
  .next (s.settleWard die.val ward.val).settleInsertions

/-- WARD_DRAINED_SEND: every slot of the context on the ward is free, so its drained token goes to each dispatcher that the
generation change named (R42 step 6, R126). Log: DESIGN CHOICE 59. -/
def execWardDrainedSend (die : Die) (ward : LWard) (ctx : CtxId) (s : State) : Host.Outcome State Fault Refusal :=
  let k := wardKey die.val ward.val
  match (s.ward k).draining.find? fun d => d.1 = ctx with
  | none => .next s
  | some (_, gen, arg) =>
    let held := (s.wardTums die.val ward.val).any fun t =>
      (match t.resident with | some r => decide (r.ctx = ctx) && r.gen ≠ gen | none => false)
    if held || arg = 0 then .next s
    else
      let s := s.modWard k fun w => { w with
        draining := w.draining.map (fun d => if d.1 = ctx then (d.1, d.2.1, 0#16) else d),
        completed := w.completed.filter fun c => c.1 ≠ ctx }
      .next (s.sendTokens (drainedTokens ctx gen die.val ward.val arg))

/-- ABORT_ARRIVAL: the ward releases the operator's tumblers and returns its completion token (R374 step 3). Log: DEDUCED 133. -/
def execAbortArrival (die : Die) (ward : LWard) (ctx : CtxId) (opSerial : W32) (s : State) : Host.Outcome State Fault Refusal :=
  .next (s.failOnWard die.val ward.val ctx (s.context ctx.val).gen opSerial 0).settleInsertions

/-! ### Probes and spares -/

/-- A step fired on a ward in the last 100 µs: certain when one fired since the last model step, false when none fired over that step
either, and otherwise a free value, since the counts do not say when in that step it fired. Log: DESIGN CHOICE 45. -/
def State.firedLately (s : State) (die ward : Nat) : Bool :=
  let g := s.governor die
  decide (0 < Store.get 0 g.firingNow ward) || (decide (0 < Store.get 0 g.firing ward) && s.fresh.getLsbD 0)

/-- PROBE_ARRIVAL: a ward answers with its firing state (R369, Table 2.2a); a padlocked ward does not answer.
Log: DESIGN CHOICE 45. -/
def execProbeArrival (die : Die) (ward : LWard) (sender : BaseDie) (s : State) : Host.Outcome State Fault Refusal :=
  match s.physWard die.val ward.val with
  | some p =>
    if s.isPadlocked (wardChan die.val p) then .next s
    else
      let arg := (s.firedLately die.val ward.val).toNat + 2 * (!s.wardIdle die.val ward.val).toNat
      .next (s.spend.sendTokens [.token (controlToken 0 0 (wardEnd die.val ward.val) (agentEnd sender agComplex)
        (controlWord ccProbeAnswer 0 0 arg))])
  | none => .next s

/-- PROBE_ANSWER_RECEIVE: a suspect that answers is cleared; its record keeps its class and takes action 6 (R369). -/
def execProbeAnswerReceive (suspect : Chan) (_fired _resident : Bool) (s : State) : Host.Outcome State Fault Refusal :=
  if s.faults.probes.contains suspect then
    let s := { s with faults := { s.faults with probes := s.faults.probes.erase suspect } }
    .next (s.onRecord suspect .tokenWait fun r => { r with action := .cleared })
  else .next s

/-- PROBE_TIMEOUT: a suspect that has not answered within 100 µs is declared permanent and padlocked (R369, R480). -/
def execProbeTimeout (suspect : Chan) (s : State) : Host.Outcome State Fault Refusal :=
  if s.faults.probes.contains suspect then
    let s := { s with faults := { s.faults with probes := s.faults.probes.erase suspect } }
    let known := s.faults.openRecs.any fun q => q.suspect = suspect && q.cause = .tokenWait && !q.closed
    .next (if known then s.declare suspect .tokenWait 0 0 else s.declareWith suspect .tokenWait 0 0)
  else .next s

/-- The replacement of a ward that lost a tumbler is undone, because the spare ward failed its self-test (R49): the ward goes
on with its good tumblers (R50). Log: DEDUCED 56. -/
def State.undoWard (s : State) (c : Chan) : State :=
  let die := chanBits c 20 4
  let pw := chanBits c 15 5
  let sc := wardChan die 24
  match s.logWard die 24 with
  | some lw =>
    let seq := (s.faults.ledger.reverse.find? fun e => e.action = laReplace && decide (e.spare = sc)).map fun e => e.seq.toNat
    let s := s.ledgerWrite laClose (wardChan die pw) noChan (BitVec.ofNat 32 (seq.getD 0))
    let s := { s with faults := { s.faults with padlocked := s.faults.padlocked.erase (wardChan die pw) } }
    let s := (s.setWardRemap die lw true pw).raise (dieBase die) { cause := .selftestFail, suspect := sc }
    let s := (s.padlock sc).onlyPadlocked sc .selftestFail
    ((s.leftPadlocked c .threshold).repackTums die pw lw).setInserting die lw false
  | none => s

/-- Tumblers of a spare ward that its self-test found bad: each is padlocked, and a spare of the ward stands in for it where the ward's
remap table names it and one is good (R48, R49). -/
def State.padlockFound (s : State) (die pw : Nat) (failed : List (Fin 68)) : State :=
  let s := failed.foldl (fun t p =>
    let c := tumblerChan die pw p.val
    if t.isPadlocked c then t else (t.padlock c).ledgerWrite laPadlock c noChan 0) s
  failed.foldl (fun t p =>
    match t.logTum die pw p.val, t.freeSpareTum die pw with
    | some l, some sp =>
      (t.ledgerWrite laReplace (tumblerChan die pw p.val) (tumblerChan die pw sp) 0).setTumRemap die pw l true sp
    | _, _ => t) s

/-- SPARE_SELFTEST_COMPLETE: a spare tumbler that passes, or a spare ward with at least 64 good tumblers, lets its ward resume; one that
fails is padlocked and the next spare is tried (R48–R50). The operands are the tumblers that the self-test found bad.
Log: DEDUCED 56. -/
def execSpareSelftestComplete (spare : Chan) (failed : List (Fin 68)) (s : State) : Host.Outcome State Fault Refusal :=
  match s.faults.spareTests.find? fun p => p.1 = spare with
  | none => .next s
  | some (_, c) =>
    let s := { s with faults := { s.faults with spareTests := s.faults.spareTests.erase (spare, c) } }
    let die := chanBits spare 20 4
    let pw := chanBits spare 15 5
    if chanKind spare = 1 then
      if failed.isEmpty then
        match s.logWard die pw with
        | some lw => .next (s.setInserting die lw false)
        | none => .next s
      else .next (s.declareWith spare .selftestFail 0 0)
    else
      let before := s
      let s := s.padlockFound die pw failed
      if 64 ≤ (s.goodTums die pw).length then
        match s.logWard die pw with
        | some lw => .next ((s.moveSilicon before die (wardSlots lw)).setInserting die lw false)
        | none => .next s
      else if chanKind c = 1 then .next (s.undoWard c)
      else .next (s.declareWith spare .selftestFail 0 0)

end Sys2Proof.Machine
end

