-- ==== Sys2Proof/Machine/Dispatchers.lean ====
section
/-! DEFINITION. The dispatchers' commands (chapter 4): doorbells, the reading of each kind of entry, descriptor fetches, start
tokens, completion tokens and the completion ring, and the application cores' part of it. -/

namespace Sys2Proof.Machine

/-! ### Doorbells and heads -/

/-- The ring's owner is the agent that writes. -/
def ownedBy (o : RingOwner) (a : Agent) : Bool :=
  match o, a with
  | .host, .host _ => true
  | .core c, .core d => c = d
  | _, _ => false

/-- Base die whose dispatcher an agent's doorbells reach: P0 through BAR4, the core's own otherwise (R59, R103). -/
def doorbellDie (a : Agent) : BaseDie :=
  match a with
  | .core c => asBase (c.val / 4)
  | _ => 0

/-- DOORBELL_WRITE: a new tail is accepted, held before ready (R24), or ignored and counted (R104). Several doorbells of one ring before
ready are each judged against the ring's tail, and the last of them is the one held. Log: DEDUCED 136; DESIGN CHOICE 168. -/
def execDoorbellWrite (agent : Agent) (ring : RingIx) (value : W64) (bytes : Nat) (s : State) : Host.Outcome State Fault Refusal :=
  let k := ringKeyOf (doorbellDie agent) ring
  let r := s.ring k
  let tail : W32 := value.setWidth 32
  if bytes < 4 || !r.enabled || !ownedBy r.owner agent || r.stopped then .next (s.count 6 k rsIgnored 1)
  else if 0x80000000 ≤ (tail - r.tail).toNat ∨ r.entries < (tail - r.head).toNat then .next (s.count 6 k rsIgnored 1)
  else if !s.ready then .next (s.modRing k fun r => { r with heldTail := some tail })
  else .next (s.modRing k fun r => { r with tail := tail })

/-- OPX_CPL_HEAD_WRITE: the owner frees completion slots; a write beyond the tail or backward is ignored and counted
(R118). Log: DEDUCED 136. -/
def execOpxCplHeadWrite (agent : Agent) (die : BaseDie) (ring : RingIx) (value : W32) (s : State) : Host.Outcome State Fault Refusal :=
  let k := ringKeyOf die ring
  let r := s.ring k
  if !r.enabled || !ownedBy r.owner agent || decide ((r.cplTail - r.cplHead).toNat < (value - r.cplHead).toNat) then
    .next (s.count 6 k rsIgnored 1)
  else .next (s.modRing k fun r => { r with cplHead := value })

/-! ### Reading entries -/

/-- A WAIT or BARRIER holds back every later entry (R109, R111). Log: DEDUCED 52. -/
def Ring.held (r : Ring) : Bool := r.live.any fun e => e.phase = .wait || decide (e.phase = .barrier)

/-- The dispatcher may read the ring's next entry: a doorbell covers it, a completion slot is free for it and for every
entry read before it, nothing holds the ring, and no earlier entry of it is still under check (R24, R105, R106, R109, R125). -/
def State.canRead (s : State) (r : Ring) : Bool :=
  r.enabled && !r.stopped && s.ready && r.head ≠ r.tail && !r.held
    && !(r.live.any fun e => e.phase = .descriptor || decide (e.phase = .tensors))
    && decide ((r.cplTail - r.cplHead).toNat + r.live.length < r.entries)

/-- The entry at the head of a ring. -/
def State.headEntry (s : State) (k : Nat) : BitVec 512 × Bool :=
  let r := s.ring k
  let x := s.shelfLoad (k / 64) (r.base + 64 * (r.head.toNat % r.entries)) 64
  (BitVec.ofNat 512 (leNat x.1), x.2)

/-- A row's opcode is the head entry's. -/
def opcodeIs (row : Nat) (e : BitVec 512) : Bool := if row ≤ 4 then enOpcode e = row else decide (4 < enOpcode e)

/-- An entry as it is read. -/
def freshEntry (count : W32) (word : BitVec 512) (prev : Option W32) (phase : EntryPhase) : RingEntry :=
  { count, word, prev, phase, desc := 0, tensors := [], placement := { dies := [], wardFirst := 0, wardCount := 0, perWard := 0 },
    opSerial := 0, tokens := [], drainedFirst := [], fault := none, faultSeq := none }

/-- Read the head entry for the row of `row`'s opcode: a poisoned entry ends with 0x85, one that fails stage 1 with its
status; one that passes goes on to `perform`. Log: DEDUCED 49. -/
def State.readEntry (s : State) (k : Nat) (row : Nat) (phase : EntryPhase) (perform : State → RingEntry → State) : State :=
  let r := s.ring k
  let head := s.headEntry k
  if !s.canRead r || (!head.2 && !opcodeIs row head.1) then s
  else
    let e := freshEntry r.head head.1 r.lastDispatch phase
    let a := r.slotAddr k r.head.toNat
    let last := if row = 1 then some e.count else r.lastDispatch
    let s := s.modRing k fun r => { r with head := r.head + 1, live := r.live ++ [e], lastDispatch := last }
    if head.2 then (s.poisonEntry k e a).advanceRing k 4096
    else
      match firstFailed (s.checkStage1 r head.1 a) with
      | some f => (s.failEntry k e f).advanceRing k 4096
      | none => perform s e

/-- RING_NOP (R111). -/
def execRingNop (die : BaseDie) (ring : RingIx) (s : State) : Host.Outcome State Fault Refusal :=
  let k := ringKeyOf die ring
  .next (s.readEntry k 0 .checked fun s e => (s.endEntry k e 0 0).advanceRing k 4096)

/-- RING_DISPATCH: stage 1, and then the operator descriptor is fetched (R115, R476). Log: DESIGN CHOICE 19, 51. -/
def execRingDispatch (die : BaseDie) (ring : RingIx) (s : State) : Host.Outcome State Fault Refusal :=
  let k := ringKeyOf die ring
  .next (s.readEntry k 1 .descriptor fun s e => s.emit (.homeRead (.dispatcher die) (enDesc e.word) 128))

/-- RING_SIGNAL: the fence value is written after every earlier entry has completed (R109). Log: DEDUCED 53. -/
def execRingSignal (die : BaseDie) (ring : RingIx) (s : State) : Host.Outcome State Fault Refusal :=
  let k := ringKeyOf die ring
  .next (s.readEntry k 2 .signal fun s _ => s.advanceRing k 4096)

/-- RING_WAIT: later entries are held until the fence word has reached the value (R109). Log: DEDUCED 52. -/
def execRingWait (die : BaseDie) (ring : RingIx) (s : State) : Host.Outcome State Fault Refusal :=
  let k := ringKeyOf die ring
  .next (s.readEntry k 3 .wait fun s e => s.evalWait k e)

/-- RING_BARRIER (R111). Log: DEDUCED 52. -/
def execRingBarrier (die : BaseDie) (ring : RingIx) (s : State) : Host.Outcome State Fault Refusal :=
  let k := ringKeyOf die ring
  .next (s.readEntry k 4 .barrier fun s _ => s.advanceRing k 4096)

/-- RING_RESERVED_OPCODE: the entry ends with status 0x01 (R111). -/
def execRingReservedOpcode (die : BaseDie) (ring : RingIx) (s : State) : Host.Outcome State Fault Refusal :=
  let k := ringKeyOf die ring
  .next (s.readEntry k 5 .checked fun s e => (s.endEntry k e 1 0).advanceRing k 4096)

/-- FENCE_WORD_WRITE_NOTIFY: each WAIT on the word is evaluated again (R109). -/
def execFenceWordWriteNotify (addr : PAddr) (s : State) : Host.Outcome State Fault Refusal :=
  .next (s.ops.rings.foldl (fun t p =>
    match p.2.live.find? fun e => e.phase = .wait && enFence e.word = addr with
    | some e => t.evalWait p.1 e
    | none => t) s)

/-! ### Descriptors -/

/-- The first poisoned line of an access. -/
def State.poisonAt (s : State) (a n : Nat) : Option Nat :=
  ((pieces a n).find? fun p => match s.place p.1 with | .cell h o => s.poisoned h o | _ => false).map fun p => p.1

/-- The operator descriptor has arrived: stage 2, and then the tensor table is fetched. -/
def State.takeDescriptor (s : State) (k : Nat) (e : RingEntry) : State :=
  let a := (enDesc e.word).toNat
  match s.poisonAt a 128 with
  | some x => (s.poisonEntry k e x).advanceRing k 4096
  | none =>
    let d := BitVec.ofNat 1024 (leNat (s.load a 128).1)
    match firstFailed (s.checkStage2 (s.ring k) e.word d a) with
    | some f => (s.failEntry k e f).advanceRing k 4096
    | none =>
      (s.modEntry k e.count fun x => { x with desc := d, phase := .tensors }).emit
        (.homeRead (.dispatcher (ringDie k)) (odTable d) (64 * (odInputs d + odOutputs d)))

/-- The tensor descriptors have arrived: stage 3, and the placement is resolved. -/
def State.takeTensors (s : State) (k : Nat) (e : RingEntry) : State :=
  let a := (odTable e.desc).toNat
  let n := odInputs e.desc + odOutputs e.desc
  match s.poisonAt a (64 * n) with
  | some x => (s.poisonEntry k e x).advanceRing k 4096
  | none =>
    let bytes := (s.load a (64 * n)).1
    let ts := (List.range n).map fun i => BitVec.ofNat 512 (leNat ((bytes.drop (64 * i)).take 64))
    let r := s.checkStage3 k (s.ring k) e.word e.desc ts a
    match firstFailed r.1 with
    | some f => (s.failEntry k e f).advanceRing k 4096
    | none => s.modEntry k e.count fun x => { x with tensors := ts, placement := r.2, phase := .checked }

/-- DESCRIPTOR_FETCH_COMPLETE: the next stage of the oldest entry of the ring that awaits a descriptor (R476). Log: DEDUCED 49. -/
def execDescriptorFetchComplete (die : BaseDie) (ring : RingIx) (s : State) : Host.Outcome State Fault Refusal :=
  let k := ringKeyOf die ring
  match (s.ring k).live.find? fun e => e.phase = .descriptor || decide (e.phase = .tensors) with
  | some e => .next (if e.phase = .descriptor then s.takeDescriptor k e else s.takeTensors k e)
  | none => .next s

/-! ### Starting operators -/

/-- START_ORDER_LOCK_ACQUIRE: the next checked operator of a ring that may start takes the locks of its dies and sends its
start tokens (R106–R108); at most 16 are started and not complete on a ring and 256 on a dispatcher (Table 4.2). Log: DEDUCED 132. -/
def execStartOrderLockAcquire (die : BaseDie) (ring : RingIx) (s : State) : Host.Outcome State Fault Refusal :=
  let k := ringKeyOf die ring
  let r := s.ring k
  match r.live.find? fun e => decide (e.phase = .checked) with
  | none => .next s
  | some e =>
    let running := (r.live.filter fun e => match e.phase with | .starting _ _ | .started => true | _ => false).length
    if !mayStart r.live e || decide (16 ≤ running) || decide (256 ≤ s.startedOn die.val) then .next s
    else
      match s.takeLocks k e.placement.dies with
      | none => .next s
      | some s =>
        let ctx := (enCtx e.word).val
        let n := Store.get 0 (s.context ctx).started die.val
        let serial := opSerialOf die n
        let s := s.modContext ctx fun c => { c with started := Store.put 0 c.started die.val (n + 1) }
        let s := s.modEntry k e.count fun x => { x with opSerial := serial }
        .next (s.pushStarts k { e with opSerial := serial } e.placement.tumblers 0)

/-- START_QUEUE_CREDIT_RETURN: a place of a start queue is free again, and dispatchers that wait for one go on (R43). -/
def execStartQueueCreditReturn (t : TumId) (s : State) : Host.Outcome State Fault Refusal :=
  let n := Store.get 0 s.ops.startTaken (tkey t)
  .next ({ s with ops := { s.ops with startTaken := Store.put 0 s.ops.startTaken (tkey t) (n - 1) } }).pushAll

/-- REGION_TABLE_FREED: the ward frees the context's table once nothing on it holds an operator of the context, and
dispatchers that wait for one go on (R138). -/
def execRegionTableFreed (die : Die) (ward : LWard) (ctx : CtxId) (s : State) : Host.Outcome State Fault Refusal :=
  if (s.wardTums die.val ward.val).any fun t => t.holds ctx then .next s
  else
    .next (s.modWard (wardKey die.val ward.val) fun w => { w with tables := w.tables.filter fun r => r.ctx ≠ ctx || decide (0 < r.coming) }).pushAll

/-! ### Completion tokens -/

/-- Aborts to every ward of a placement but one and those whose token is held (R374 step 2). -/
def aborts (disp : BaseDie) (e : RingEntry) (from_ : Nat) : List Out :=
  (e.placement.wards.filter fun w => w ≠ from_ && !e.tokens.contains w).map fun w =>
    .token (controlToken (enCtx e.word) (enGen e.word) (agentEnd disp agDispatcher) (wardEnd (w / 24) (w % 24))
      (controlWord ccAbort 0 e.opSerial 0))

/-- COMPLETION_TOKEN_RECEIVE: the dispatcher holds the ward's token; the first fault status aborts the other wards, and the
last token completes the operator (R21, R374). Log: DEDUCED 133. -/
def execCompletionTokenReceive (disp : BaseDie) (die : Die) (ward : LWard) (ctx : CtxId) (opSerial : W32) (status : Byte)
    (s : State) : Host.Outcome State Fault Refusal :=
  let w := wardKey die.val ward.val
  match s.findOp disp.val ctx opSerial with
  | none => .next s
  | some (k, e) =>
    if e.tokens.contains w then .next s
    else
      let first := status ≠ 0 && e.fault.isNone
      let s := s.modEntry k e.count fun x =>
        { x with tokens := x.tokens ++ [w], fault := if first then some status else x.fault }
      let s := if first then s.sendTokens (aborts disp e w) else s
      .next (s.settleRing k)

/-! ### Application cores -/

/-- A store into the ring area lies in entry slots of a ring that the core owns in its own base die (R158). -/
def State.coreSlot (s : State) (core : CoreIx) (a n : Nat) : Bool :=
  let die := core.val / 4
  let from_ := 0x020000000000 + die * 0x10000000
  s.ops.rings.any fun p =>
    p.1 / 64 = die && p.2.enabled && p.2.owner = .core core && from_ + p.2.base ≤ a
      && decide (a + n ≤ from_ + p.2.base + 64 * p.2.entries)

/-- APPCORE_RING_SLOT_STORE: applied in the core's own slots line by line (R148), discarded with PROTECTED_WRITE elsewhere (R158). -/
def execAppcoreRingSlotStore (core : CoreIx) (addr : PAddr) (data : List Byte) (s : State) : Host.Outcome State Fault Refusal :=
  if s.coreSlot core addr.toNat data.length then
    let r := s.storeAt addr.toNat data false
    .next (r.2.foldl (fun t x => t.discardedPart x (coreChan core.val)) r.1)
  else
    match s.place addr.toNat with
    | .cell h _ =>
      .next (s.raise (homeDie h) { cause := .protectedWrite, suspect := lineChan h, reporter := coreChan core.val,
                                      detail := (coreChan core.val).setWidth 64 })
    | _ => .next s

/-- The lowest pending enabled identity of an interrupt file (Table 2.9): r + 1 for ring r, 65 for the keeper, 0 for
none. -/
def AppCore.identity (c : AppCore) : Nat :=
  match (List.range 64).find? fun r => c.ringPending.getLsbD r && c.ringEnable.getLsbD r with
  | some r => r + 1
  | none => if c.keeperPending && c.keeperEnable then 65 else 0

/-- INTERRUPT_CLAIM_READ: the identity is returned and its bit cleared (R60). -/
def execInterruptClaimRead (core : CoreIx) (s : State) : Host.Outcome State Fault Refusal :=
  let id := (s.core core.val).identity
  let s := s.modCore core.val fun c =>
    if id = 65 then { c with keeperPending := false }
    else if id = 0 then c else { c with ringPending := putBit c.ringPending (id - 1) false }
  .next (s.emit (.coreData core (leBytes 8 id)))

end Sys2Proof.Machine
end

