-- ==== Sys2Proof/Machine/KeeperOps.lean ====
section
/-! DEFINITION. How a firmware command is taken, checked in the order of R483, answered and, where it is long, kept running
(R349–R359). -/

namespace Sys2Proof.Machine

/-! ### Callers -/

/-- Mailbox of a caller (Table 11.8); none for the firmware ring. -/
def callerMbx : Caller → Option MbxIx
  | .host m _ => some (m.castLE (by decide))
  | .fwRing _ => none
  | .mctp b _ => some (b.natAdd 12 |>.castLE (by decide))
  | .console => some 15

/-- Port of a caller's vector 64; none where the command came through no port. -/
def callerPort : Caller → Option HostPort
  | .host _ p => some p
  | .fwRing p => some p
  | _ => none

/-- Codes of Table 11.14. -/
def cmdByte : CmdCode → Byte
  | .identify => 0x01 | .statusAck => 0x02 | .cancel => 0x03 | .fmName => 0x05 | .portRole => 0x06 | .reset => 0x07
  | .serviceHold => 0x08
  | .ctxCreate => 0x10 | .ctxTeardown => 0x11 | .ctxQuery => 0x12 | .ctxRelease => 0x13 | .ringCreate => 0x14
  | .ringDelete => 0x15 | .bar2Map => 0x16 | .appcoreStart => 0x17 | .appcoreStop => 0x18
  | .imageInstall => 0x20 | .imageRemove => 0x21 | .imageList => 0x22
  | .domainAssign => 0x30 | .windowWrite => 0x31 | .windowRemove => 0x32 | .linksetWrite => 0x33 | .fwdWrite => 0x34
  | .groupWrite => 0x35 | .twinSet => 0x36 | .f8Mode => 0x37 | .linkKey => 0x38 | .linkRelease => 0x39 | .peerReset => 0x3A
  | .fwWrite => 0x40 | .fwVerify => 0x41 | .fwActivate => 0x42 | .fwInfo => 0x43 | .profileWrite => 0x44 | .profileRead => 0x45
  | .faultRead => 0x50 | .faultNClear => 0x51 | .ledgerRead => 0x52 | .dumpRead => 0x53 | .dumpRelease => 0x54
  | .selftest => 0x60 | .linkMargin => 0x61 | .calRun => 0x62
  | .ownerKey => 0x70 | .debugUnlock => 0x71

/-- Long commands (Table 11.14). -/
def isLong : CmdCode → Bool
  | .serviceHold | .ctxTeardown | .imageInstall | .fwWrite | .fwVerify | .dumpRead | .selftest | .linkMargin | .calRun => true
  | _ => false

/-- Commands answered before ready (R342). -/
def beforeReady : CmdCode → Bool
  | .identify | .statusAck | .reset | .fwInfo | .faultRead | .ledgerRead => true
  | _ => false

/-- Callers of Table 11.14: host and firmware ring, fabric manager, any MCTP endpoint, console. -/
def callersOf : CmdCode → Bool × Bool × Bool × Bool
  | .identify => (true, true, true, true)
  | .statusAck | .cancel | .serviceHold | .ctxQuery | .imageList | .profileWrite | .faultNClear | .dumpRead | .dumpRelease
  | .selftest | .linkMargin | .debugUnlock => (true, false, false, true)
  | .fmName | .portRole | .ctxCreate | .ctxTeardown | .ringCreate | .ringDelete | .bar2Map | .appcoreStart | .appcoreStop
  | .imageInstall | .imageRemove | .ownerKey => (true, false, false, false)
  | .reset => (true, true, false, true)
  | .ctxRelease | .domainAssign | .windowWrite | .windowRemove | .linksetWrite | .fwdWrite | .groupWrite | .twinSet | .f8Mode
  | .linkKey | .linkRelease | .peerReset => (false, true, false, false)
  | .fwWrite | .fwVerify | .fwActivate | .profileRead | .faultRead | .ledgerRead => (true, false, true, true)
  | .fwInfo => (true, true, true, true)
  | .calRun => (false, false, false, true)

/-- The caller may issue the command (R355, R318). -/
def State.permits (s : State) (c : Caller) (code : CmdCode) : Bool :=
  let (host, fm, any, console) := callersOf code
  match c with
  | .host _ _ | .fwRing _ => host
  | .mctp b e => any || (fm && decide (s.host.fm = some (b, e)))
  | .console => console

/-! ### Answers -/

/-- How a command ends, or goes on. -/
inductive Answer where
  | done (results : List W64) (data : List Byte)
  | fail (status : FwStatus) (results : List W64)
  /-- A long operation runs: its kind, its done and total, and words 2 to 4. -/
  | running (kind : LongKind) (done total : Nat) (word2 word3 word4 : W64)
deriving DecidableEq, Repr

/-- Five result words. -/
def fiveWords (ws : List W64) : List W64 := (List.range 5).map fun i => ws.getD i 0

/-- Name of a status as the console prints it (R443). -/
def FwStatus.name : FwStatus → String
  | .ok => "OK" | .headerAbsent => "HEADER_ABSENT" | .badCode => "BAD_CODE" | .badArgs => "BAD_ARGS"
  | .unauthorised => "UNAUTHORISED" | .busy => "BUSY" | .notReady => "NOT_READY" | .noResource => "NO_RESOURCE"
  | .notFound => "NOT_FOUND" | .state => "STATE" | .longOnRing => "LONG_ON_RING" | .cancelled => "CANCELLED"
  | .already => "ALREADY" | .imageRefused _ => "IMAGE_REFUSED" | .imageInUse => "IMAGE_IN_USE"
  | .windowRefused _ => "WINDOW_REFUSED" | .setDuplicate => "SET_DUPLICATE" | .twinRefused => "TWIN_REFUSED"
  | .keyRefused => "KEY_REFUSED" | .fwVerifyFail => "FW_VERIFY_FAIL" | .fwRollback => "FW_ROLLBACK"
  | .fwUpdateActive => "FW_UPDATE_ACTIVE" | .internal => "INTERNAL"

/-- The console's last line of a command (R443). -/
def resultLine (st : FwStatus) : Out := .line (if st = .ok then "RESULT PASS" else "RESULT " ++ st.name) []

/-- Payload of CMD_DONE and PROGRESS events: the CSTAT and the result words (R353). -/
def cstatPayload (word : W64) (results : List W64) : List Byte :=
  leBytes 8 word.toNat ++ (fiveWords results).flatMap fun w => leBytes 8 w.toNat

/-- Offset of a mailbox's buffer in P0 shelf SRAM (R348). -/
def bufferOff (m : Nat) : Nat := offMbxBuffers + 0x10000 * m

/-- Write a mailbox's result words, then its output, then its CSTAT (R357), and raise vector 64 and the event (R349). -/
def State.publish (s : State) (c : Caller) (m : MbxIx) (event : EventCode) (word : W64) (results : List W64) (data : List Byte) :
    State :=
  let done := decide (cstatPhase word = 3)
  let s := if done && !data.isEmpty then s.homeStore (baseChan 0) 0 (bufferOff m.val) data else s
  let s := s.modMailbox m.val fun x =>
    { x with res := fiveWords results, cstat := word
             out := if done then data else x.out
             buf := if done then BitVec.ofNat 64 data.length else x.buf }
  let s := s.event event m.val (cstatPayload word results)
  match c with
  | .mctp b e => s.emit (.mctp b e (.firmware word (fiveWords results) data))
  | .console => s
  | _ => match callerPort c with
    | some p => s.vectorTo p 64
    | none => s

/-- Write a response record of the firmware ring (Table 11.12). -/
def State.ringResponse (s : State) (p : HostPort) (tag : W64) (word : W64) (results : List W64) : State :=
  let n := s.keeper.fwcHead
  let body := leBytes 8 word.toNat ++ leBytes 8 n.toNat ++ leBytes 8 tag.toNat ++ (fiveWords results).flatMap fun w => leBytes 8 w.toNat
  let s := s.shelfStore 0 (offFwRspRing + 64 * (s.keeper.fwrTail.toNat % 4096)) body
  let s := { s with keeper := { s.keeper with fwrTail := s.keeper.fwrTail + 1, fwcHead := n + 1 } }
  (s.event .cmdDone (n.toNat % 65536) (cstatPayload word results)).vectorTo p 64

/-- End a command. -/
def State.endCommand (s : State) (h : CmdHdr) (phase : Phase) (st : FwStatus) (progress : Nat) (results : List W64)
    (data : List Byte) : State :=
  let word := cstat phase h.seq st.code progress
  match h.caller with
  | .fwRing p => s.ringResponse p h.userTag word results
  | c =>
    match callerMbx c with
    | some m =>
      let s := s.publish c m .cmdDone word results data
      if c = .console then { s with console := { s.console with busy := false } }.emit (resultLine st) else s
    | none => s

/-- A mailbox is ACCEPTED or RUNNING (R350). -/
def State.mbxBusy (s : State) (m : Nat) : Bool :=
  let p := cstatPhase (s.mailbox m).cstat
  p = 1 || decide (p = 2)

/-- Words 0 to 4 of a long operation (R356). Log: DESIGN CHOICE 142. -/
def LongOp.words (o : LongOp) : List W64 :=
  [BitVec.ofNat 64 o.done, BitVec.ofNat 64 o.total, o.word2, o.word3, o.word4]

/-- Enter a long operation: the mailbox reads RUNNING (R349). -/
def State.startLong (s : State) (h : CmdHdr) (m : MbxIx) (code : CmdCode) (o : LongOp) : State :=
  let s := { s with keeper := { s.keeper with longOps := s.keeper.longOps ++ [{ o with mbx := m, seq := h.seq, code, caller := h.caller }] } }
  s.modMailbox m.val fun x =>
    { x with res := o.words, cstat := cstat .running h.seq 0 (progressOf o.done o.total) }

/-- Take a command's doorbell or ring entry. Log: DEDUCED 88. -/
def State.takeDoorbell (s : State) (c : Caller) : State :=
  match callerMbx c with
  | some m => { s with keeper := { s.keeper with rung := putBit s.keeper.rung m.val false } }
  | none => s

/-- The commands of a firmware update (R361). -/
def isUpdate : CmdCode → Bool
  | .fwWrite | .fwVerify | .fwActivate => true
  | _ => false

/-- The party for which a caller updates firmware. Log: DESIGN CHOICE 83. -/
def callerUpdater : Caller → Updater
  | .host _ _ | .fwRing _ => .host
  | .mctp b e => .mctp b e
  | .console => .console

/-- Another update stands in the way: one that another party holds, or a firmware write or verification still running
(R361). Log: DESIGN CHOICE 83. -/
def State.updateBlocks (s : State) (c : Caller) (code : CmdCode) : Bool :=
  isUpdate code
    && ((match s.keeper.update with
        | some u => decide (u.holder ≠ callerUpdater c)
        | none => false)
      || s.keeper.longOps.any fun o => isUpdate o.code)

/-- Checks 3 to 8 of R483. -/
def State.commandFault (s : State) (h : CmdHdr) (code : CmdCode) : Option FwStatus :=
  if !s.permits h.caller code then some .unauthorised
  else if !s.ready && !beforeReady code then some .notReady
  else
    let onRing := match h.caller with | .fwRing _ => true | _ => false
    if onRing && isLong code then some .longOnRing
    else if onRing && h.buffer then some .badArgs
    else if s.updateBlocks h.caller code then some .fwUpdateActive
    else if isLong code && decide (4 ≤ s.keeper.longOps.length) then some .busy
    else if !h.argsOk then some .badArgs
    else none

/-- The keeper can take the command now: Idore runs, and a ring entry is covered by its doorbell and has a response slot
free (R349, R352). Log: DEDUCED 88. -/
def State.canTake (s : State) (c : Caller) : Bool :=
  s.keeper.idore
    && match c with
      | .fwRing _ => s.keeper.fwcHead ≠ s.keeper.fwcTail && decide ((s.keeper.fwrTail - s.keeper.fwrHead).toNat < 4096)
      | _ => true

/-- Run a command: a busy mailbox refuses it and marks DBL_MBX_LOST (R350); a doorbell that Idore cannot take yet is held
(R349); otherwise the checks of R483, and then `body`. -/
def State.runCommand (s : State) (h : CmdHdr) (code : CmdCode) (body : State → State × Answer) : State :=
  let mbx := callerMbx h.caller
  if !s.canTake h.caller then
    match mbx with
    | some m => { s with keeper := { s.keeper with rung := putBit s.keeper.rung m.val true } }
    | none => s
  else if match mbx with | some m => s.mbxBusy m.val | none => false then
    match mbx with
    | some m => { s with keeper := { s.keeper with lost := putBit s.keeper.lost m.val true } }
    | none => s
  else
    let s := s.takeDoorbell h.caller
    match s.commandFault h code with
    | some st => s.endCommand h .failed st 0 [] []
    | none =>
      let r := body s
      match r.2 with
      | .done results data => r.1.endCommand h .done .ok 4095 results data
      | .fail st results => r.1.endCommand h .failed st 0 results []
      | .running kind done total w2 w3 w4 =>
        match mbx with
        | some m =>
          r.1.startLong h m code { mbx := m, seq := h.seq, code, kind, caller := h.caller, done, total, word2 := w2, word3 := w3,
                                   word4 := w4, cancelling := false }
        | none => r.1

/-! ### Long operations -/

/-- Header under which a long operation answers. -/
def LongOp.hdr (o : LongOp) : CmdHdr := { caller := o.caller, seq := o.seq, buffer := false, userTag := 0, argsOk := true }

/-- Change the running operations that match by `f`. -/
def State.modLong (s : State) (p : LongOp → Bool) (f : LongOp → LongOp) : State :=
  { s with keeper := { s.keeper with longOps := s.keeper.longOps.map fun o => if p o then f o else o } }

/-- End a long operation: its last progress is published with its end (R356). -/
def State.endLong (s : State) (o : LongOp) (phase : Phase) (st : FwStatus) : State :=
  let s := { s with keeper := { s.keeper with longOps := s.keeper.longOps.filter fun x => x.mbx ≠ o.mbx } }
  s.endCommand o.hdr phase st (if phase = .done then 4095 else progressOf o.done o.total) o.words []

/-- Publish the progress of a running operation at a telemetry boundary (R356). Log: DESIGN CHOICE 85, 182. -/
def State.publishLong (s : State) (o : LongOp) : State :=
  s.publish o.caller o.mbx .progress (cstat .running o.seq 0 (progressOf o.done o.total)) o.words []

end Sys2Proof.Machine
end

