-- ==== Sys2Proof/Machine/Contexts.lean ====
section
/-! DEFINITION. Teardown of contexts (Table 4.11) and the scrub of their regions (R162). -/

namespace Sys2Proof.Machine

/-! ### Parts of a teardown -/

/-- Codes of the states of Table 4.1, in its row order. -/
def CtxState.code : CtxState → Nat
  | .free => 0 | .opened => 1 | .draining => 2 | .quarantined => 3 | .scrubbing => 4

/-- A context changes state: a CONTEXT event (R353), and the QUARANTINE notice (Table 9.6). -/
def State.setCtxState (s : State) (ctx : CtxId) (st : CtxState) : State :=
  let s := (s.modContext ctx.val fun c => { c with state := st }).event .context ctx.val [BitVec.ofNat 8 st.code]
  if st = .quarantined then s.notice (.quarantine ctx) else s

/-- Logical wards in service, as 24 × die + ward. -/
def State.activeWards (s : State) : List Nat :=
  ((List.range 12).map fun d => (List.range (s.faults.capacity.wardCount d)).map fun w => wardKey d w).flatten

/-- Wards from which a dispatcher holds a context's drained token. -/
def State.drainedAt (s : State) (disp : Nat) (ctx : CtxId) : List Nat :=
  (s.ops.drained.filter fun d => d.1 = disp && d.2.1 = ctx).map fun d => d.2.2

/-- Keys of the rings of a context. -/
def State.ringsOf (s : State) (ctx : CtxId) : List Nat :=
  (s.ops.rings.filter fun p => p.2.enabled && p.2.ctx = ctx).map fun p => p.1

/-- Word 2 of a teardown (Table 11.15): the step, with the fewest drained tokens of a named dispatcher from bit 32
(log entry 24). Log: DESIGN CHOICE 24. -/
def State.teardownWord (s : State) (ctx : CtxId) (td : Teardown) : W64 :=
  let least := (td.named.map fun d => (s.drainedAt d.val ctx).length).foldl min (s.activeWards.length)
  BitVec.ofNat 64 (td.step + (if td.changed then least else 0) * 2 ^ 32)

/-- Publish a teardown's words in its long operations. Log: DESIGN CHOICE 24. -/
def State.showTeardown (s : State) (ctx : CtxId) : State :=
  match (s.context ctx.val).teardown with
  | some td =>
    let w2 := s.teardownWord ctx td
    s.modLong (fun o => o.kind = .teardown ctx) fun o =>
      { o with word2 := w2, word3 := BitVec.ofNat 64 td.fences.length
               word4 := BitVec.ofNat 64 (td.stragglers + td.aborted * 2 ^ 32) }
  | none => s

/-- Change a context's teardown. -/
def State.modTeardown (s : State) (ctx : CtxId) (f : Teardown → Teardown) : State :=
  (s.modContext ctx.val fun c => { c with teardown := c.teardown.map f }).showTeardown ctx

/-- An entry has been read and not started. -/
def RingEntry.unstarted (e : RingEntry) : Bool :=
  match e.phase with
  | .starting _ _ | .started => false
  | _ => true

/-- Step 1: the ring stops, and its entries read but not started end with 0xC0 (R125, R129). -/
def State.stopRing (s : State) (k : Nat) : State :=
  let s := s.modRing k fun r => { r with stopped := true, heldTail := none }
  ((s.ring k).live.filter RingEntry.unstarted).foldl (fun t e => t.endEntry k e 0xC0 0) s

/-- Step 1 of Table 4.11 on an Open context. -/
def State.beginTeardown (s : State) (ctx : CtxId) : State :=
  let ks := s.ringsOf ctx
  let dies := (List.finRange 6).filter fun d => ks.any fun k => k / 64 = d.val
  let td : Teardown :=
    { named := if dies.isEmpty then [0] else dies, stopped := [], changed := false, reported := [], expired := false, fences := [],
      step := 1, stragglers := 0, aborted := 0, scrubbed := 0 }
  let s := (s.setCtxState ctx .draining).modContext ctx.val fun c => { c with teardown := some td }
  ks.foldl State.stopRing s

/-- Step 2: the keeper withdraws the context from its application cores; a core whose last context it was stops (R61). -/
def State.withdrawCores (s : State) (ctx : CtxId) : State :=
  (List.finRange 24).foldl (fun t c =>
    let x := t.core c.val
    if x.ctxs.contains ctx then
      let left := x.ctxs.filter fun i => i ≠ ctx
      let t := t.modCore c.val fun y => { y with ctxs := left, running := y.running && !left.isEmpty }
      if left.isEmpty && x.running then t.emit (.coreStop c) else t
    else t) s

/-- Named dispatchers as the arg field of a generation change (Table 2.2a). -/
def namedArg (ds : List BaseDie) : Nat := (ds.map fun d => 2 ^ d.val).sum

/-- Step 4: P0's dispatcher sends the generation change to every active ward and to the six home agents. -/
def State.sendChange (s : State) (ctx : CtxId) (gen : Gen) (named : List BaseDie) : State :=
  let word := controlWord ccGeneration 0 0 (namedArg named)
  let tok := fun dst => Out.token (controlToken ctx gen (agentEnd 0 agDispatcher) dst word)
  s.sendTokens ((s.activeWards.map fun w => tok (wardEnd (w / 24) (w % 24))) ++ (List.finRange 6).map fun d => tok (agentEnd d agHome))

/-- Modules that a context's windows name. -/
def State.windowModules (s : State) (ctx : CtxId) : List ModId :=
  ((s.domain.windows.filter fun p => winValid p.2 && winContext p.2 = ctx).map fun p => winModule p.2).eraseDups

/-- Step 6: a fence on VC 6 to each of those modules, its generation the new one (R296). -/
def State.sendFences (s : State) (ctx : CtxId) (gen : Gen) : State :=
  if (s.context ctx.val).domain then
    let ms := s.windowModules ctx
    let s := ms.foldl (fun t m =>
      (t.countDom 0 dmFence 1).sendByRoute 0 (t.requestMsg 0 dmFenceMsg m ctx gen 0 0 0 0 [])) s
    s.modTeardown ctx fun td => { td with fences := ms, step := 6 }
  else s

/-- Steps 2 to 6, once every named dispatcher has confirmed. -/
def State.changeGeneration (s : State) (ctx : CtxId) (td : Teardown) : State :=
  let s := s.withdrawCores ctx
  let gen := (s.context ctx.val).gen + 1
  let s := (s.modContext ctx.val fun c => { c with gen }).writeGeneration ctx.val
  let s := (s.sendChange ctx gen td.named).modTeardown ctx fun t => { t with changed := true, step := 4 }
  s.sendFences ctx gen

/-- DISPATCHER_STOP_CONFIRM: a named dispatcher that is sending no start tokens of the context confirms; on the last one the
generation advances and the change is sent (R125 steps 2–6, R129). -/
def execDispatcherStopConfirm (die : BaseDie) (ctx : CtxId) (s : State) : Host.Outcome State Fault Refusal :=
  match (s.context ctx.val).teardown with
  | none => .next s
  | some td =>
    let sending := (s.ringsOf ctx).any fun k =>
      k / 64 = die.val && (s.ring k).live.any fun e => match e.phase with | .starting _ _ => true | _ => false
    if (s.context ctx.val).state ≠ .draining || !td.named.contains die || td.stopped.contains die || sending then .next s
    else
      let td := { td with stopped := td.stopped ++ [die], step := max td.step 2 }
      let s := s.modTeardown ctx fun _ => td
      .next (if td.named.all fun d => td.stopped.contains d then s.changeGeneration ctx td else s)

/-- Step 7 for one started operator: 0x00 or its fault status where every ward's completion token came before its drained
token, else 0xC1 (R127, R375). Log: DESIGN CHOICE 142. -/
def State.drainOutcome (s : State) (ctx : CtxId) (k : Nat) (e : RingEntry) : State :=
  if e.held && e.drainedFirst.isEmpty then
    match e.fault with
    | none => s.endEntry k e 0 0
    | some f => s.endEntry k e f.toNat (if f.toNat < 0x80 then 0 else faultDetail e)
  else (s.endEntry k e 0xC1 0).modTeardown ctx fun td => { td with aborted := td.aborted + 1 }

/-- DRAINED_TOKEN_RECEIVE: a dispatcher holds a ward's drained token; with one from every active ward it gives its started
operators their records and reports (R127, Table 4.11 step 7). -/
def execDrainedTokenReceive (disp : BaseDie) (die : Die) (ward : LWard) (ctx : CtxId) (s : State) : Host.Outcome State Fault Refusal :=
  let w := wardKey die.val ward.val
  match (s.context ctx.val).teardown with
  | none => .next s
  | some td =>
    if !td.changed || !td.named.contains disp || td.reported.contains disp || (s.drainedAt disp.val ctx).contains w then .next s
    else
      let s := { s with ops := { s.ops with drained := s.ops.drained ++ [(disp.val, ctx, w)] } }
      let ks := (s.ringsOf ctx).filter fun k => k / 64 = disp.val
      let s := ks.foldl (fun t k => t.modRing k fun r =>
        { r with live := r.live.map fun e =>
            if e.placement.wards.contains w && !e.tokens.contains w then { e with drainedFirst := e.drainedFirst ++ [w] } else e }) s
      if s.activeWards.all fun x => (s.drainedAt disp.val ctx).contains x then
        let s := ks.foldl (fun t k => (t.ring k).live.foldl (fun u e => u.drainOutcome ctx k e) t) s
        .next (s.modTeardown ctx fun td => { td with reported := td.reported ++ [disp], step := 7 })
      else .next (s.showTeardown ctx)

/-- DRAIN_PROBE_TIMER: the keeper probes each active ward from which a named dispatcher holds no drained token (R480). -/
def execDrainProbeTimer (ctx : CtxId) (s : State) : Host.Outcome State Fault Refusal :=
  match (s.context ctx.val).teardown with
  | none => .next s
  | some td =>
    if !td.changed then .next s
    else
      let missing := s.activeWards.filter fun w => td.named.any fun d => !(s.drainedAt d.val ctx).contains w
      .next (missing.foldl (fun t w => t.probe (t.chanOfWard (w / 24) (w % 24))) s)

/-- Requests to other modules that a tumbler has outstanding for a context: a load of several slots is one. -/
def Tumbler.remoteRequests (t : Tumbler) (ctx : CtxId) : Nat :=
  match t.resident with
  | some r => if r.ctx = ctx then
      (((t.loads.filter fun l => l.global).map fun l => l.tag).eraseDups).length + (t.writes.filter fun w => w.global).length else 0
  | none => 0

/-- Free them without their answers (R126). -/
def Tumbler.freeRemote (t : Tumbler) (ctx : CtxId) : Tumbler :=
  match t.resident with
  | some r => if r.ctx = ctx then
      ({ t with loads := t.loads.filter fun l => !l.global, writes := t.writes.filter (fun w => !w.global) }).settle else t
  | none => t

/-- DRAIN_TIME_EXPIRY: wards free the slots of unanswered remote requests and count them as stragglers (R126). -/
def execDrainTimeExpiry (ctx : CtxId) (s : State) : Host.Outcome State Fault Refusal :=
  match (s.context ctx.val).teardown with
  | none => .next s
  | some td =>
    if !td.changed || td.expired then .next s
    else
      let n := (s.compute.tumblers.map fun (p : Nat × Tumbler) => p.2.remoteRequests ctx).sum
      let keys := s.compute.tumblers.map fun (p : Nat × Tumbler) => p.1
      let s := keys.foldl (fun t k => t.modTumbler k fun x => x.freeRemote ctx) s
      let s := ((keys.map fun k => k / 64).eraseDups).foldl (fun t w => t.settleWard (w / 24) (w % 24)) s
      let s := { s with domain := { s.domain with requests := s.domain.requests.filter fun q => q.ctx ≠ ctx } }
      .next (s.modTeardown ctx fun td => { td with expired := true, stragglers := td.stragglers + n }).settleInsertions

/-! ### The scrub -/

/-- Module physical address of a cell (R145 inverted). -/
def State.addrOf (s : State) (home off : Nat) : Nat :=
  if home < 12 then
    let direct := (47 - s.mem.share) * gib
    if off < direct then home * (64 * gib) + off
    else
      let g := (off - direct) / 4096 * s.mem.interleave.length + s.mem.interleave.idxOf home
      0x010000000000 + g * 4096 + off % 4096
  else 0x020000000000 + (home - 12) * 0x10000000 + off

/-- A cell key lies in a region, at a cell that is not withdrawn. -/
def State.scrubs (s : State) (rs : List Region) (key : Nat) : Bool :=
  let a := s.addrOf (key / 0x10000000000) (key % 0x10000000000)
  inRegions rs a 1 && match s.place a with | .cell _ _ => true | _ => false

/-- Write zero, with a good code, to every line of the regions. -/
def State.scrubRegions (s : State) (rs : List Region) : State :=
  { s with mem := { s.mem with
      cells := s.mem.cells.filter (fun p => !s.scrubs rs p.1), poison := s.mem.poison.filter fun p => !s.scrubs rs (64 * p.1) } }

/-- Bytes of the regions. -/
def regionBytes (rs : List Region) : Nat := (rs.map fun r => r.len).sum

/-- Addresses of the withdrawn 4 KiB granules of a base die's homes: sixteen a page, which in the interleaved window do not follow one
another, and one a block. -/
def State.withdrawnGranules (s : State) (die : Nat) : List Nat :=
  ([2 * die, 2 * die + 1].map fun k => ((s.stack k).withdrawn.map fun w =>
      (List.range 16).map fun j => s.addrOf k (w * 65536 + j * 4096)).flatten).flatten
    ++ (s.shelf die).withdrawn.map fun b => s.addrOf (12 + die) (b * 4096)

/-- A region holds a part of a withdrawn page or block. -/
def State.regionWithdrawn (s : State) (rs : List Region) : Bool :=
  (List.range 6).any fun d => (s.withdrawnGranules d).any fun a => inRegions rs a 1

/-- Granules below `g` that the stack in place `i` of an interleave of `n` holds. -/
def dealtBelow (n i g : Nat) : Nat := if n = 0 then 0 else (g + n - 1 - i) / n

/-- Bytes of a region whose home is at a base die. -/
def State.regionAt (s : State) (die : Nat) (r : Region) : Nat :=
  let a := r.base.toNat
  if a < 12 * (64 * gib) then (if a / (64 * gib) / 2 = die then r.len else 0)
  else if a < 0x020000000000 then
    let n := s.mem.interleave.length
    let g := (a - 0x010000000000) / 4096
    (((s.mem.interleave.zipIdx.filter fun p => p.1 / 2 = die).map fun p =>
      dealtBelow n p.2 (g + r.len / 4096) - dealtBelow n p.2 g).sum) * 4096
  else if (a - 0x020000000000) / 0x10000000 = die then r.len else 0

/-- Bytes of regions that the scrub writes at a base die: those that no withdrawn page or block holds. -/
def State.scrubBytes (s : State) (die : Nat) (rs : List Region) : Nat :=
  (rs.map fun r => s.regionAt die r).sum - 4096 * ((s.withdrawnGranules die).filter fun a => inRegions rs a 4096).length

/-- The first `n` bytes of a list of regions. -/
def firstBytes : Nat → List Region → List Region
  | _, [] => []
  | n, r :: rs => { r with len := min n r.len } :: firstBytes (n - r.len) rs

/-- Bytes of a context's regions that its scrub has set to zero, at one base die (HBM_SCRUB_PROGRESS, R163). Log: DESIGN CHOICE 85. -/
def State.scrubbedAt (s : State) (die : Nat) (c : Context) : Nat :=
  match c.teardown with
  | some td => s.scrubBytes die (firstBytes td.scrubbed c.regions)
  | none => 0

/-- Delete a ring. -/
def State.deleteRing (s : State) (k : Nat) : State := (s.setRing k Ring.reset).unlock k

/-- Step 9: the rings are deleted, the context's windows are removed, and the scrub begins (R286, R162). Log: DESIGN CHOICE 91. -/
def State.enterScrub (s : State) (ctx : CtxId) : State :=
  let s := (s.ringsOf ctx).foldl State.deleteRing s
  let s := { s with
    domain := { s.domain with windows := s.domain.windows.filter fun p => winContext p.2 ≠ ctx || !winValid p.2 }
    ops := { s.ops with drained := s.ops.drained.filter fun d => d.2.1 ≠ ctx } }
  let n := regionBytes (s.context ctx.val).regions
  let s := s.setCtxState ctx .scrubbing
  let s := s.modLong (fun o => o.kind = .teardown ctx) fun o => { o with total := n }
  s.modTeardown ctx fun td => { td with step := 9 }

/-- LOCAL_DRAIN_COMPLETE: every named dispatcher has reported; the context goes on to Scrubbing once its fences have
returned, and once the drain time has expired with fences outstanding, to Quarantined (Table 4.11 step 8). -/
def execLocalDrainComplete (ctx : CtxId) (s : State) : Host.Outcome State Fault Refusal :=
  match (s.context ctx.val).teardown with
  | none => .next s
  | some td =>
    if (s.context ctx.val).state ≠ .draining || !td.drained || (!td.fences.isEmpty && !td.expired) then .next s
    else
      let s := s.modTeardown ctx fun td => { td with step := 8 }
      let s := if 0 < td.stragglers then
          s.raise 0 { cause := .stragglers, suspect := contextChan ctx.val, detail := BitVec.ofNat 64 td.stragglers } else s
      if td.fences.isEmpty then .next (s.enterScrub ctx)
      else .next ((s.logEvent "fences outstanding").setCtxState ctx .quarantined)

/-- The keeper invalidates every BAR2 segment that names a context (R309). -/
def State.dropSegments (s : State) (ctx : CtxId) : State :=
  { s with host := { s.host with segments := s.host.segments.filter fun p => p.2.ctx ≠ ctx || !p.2.valid } }

/-- The scrub of a context between two boundaries: it passes some further lines of the regions, how many being a free value, and the
teardown's progress counts the bytes that are zero (R162, R163). -/
def State.advanceScrub (s : State) (ctx : Nat) : State :=
  let c := s.context ctx
  match c.state, c.teardown with
  | .scrubbing, some td =>
    let left := (regionBytes c.regions - td.scrubbed) / 64
    let reach := td.scrubbed + 64 * (s.fresh.toNat % (left + 1))
    let passed := firstBytes reach c.regions
    let s := (s.spend.scrubRegions passed).modContext ctx fun c => { c with teardown := some { td with scrubbed := reach } }
    let done := ((List.range 6).map fun d => s.scrubBytes d passed).sum
    s.modLong (fun o => o.kind = .teardown (Fin.ofNat 1024 ctx)) fun o => { o with done }
  | _, _ => s

/-- The scrubs that run. -/
def State.advanceScrubs (s : State) : State := (s.ops.contexts.map fun (p : Nat × Context) => p.1).foldl State.advanceScrub s

/-- SCRUB_COMPLETE: every home has written zero to its part of the regions; the context is Free and its teardown DONE
(R162, R163). Log: DESIGN CHOICE 85. -/
def execScrubComplete (ctx : CtxId) (s : State) : Host.Outcome State Fault Refusal :=
  let c := s.context ctx.val
  if c.state ≠ .scrubbing then .next s
  else
    let n := regionBytes c.regions
    let done := ((List.range 6).map fun d => s.scrubBytes d c.regions).sum
    let s := if s.regionWithdrawn c.regions then s.logEvent "scrub skipped a withdrawn page" else s
    let s := s.scrubRegions c.regions
    let ops := s.keeper.longOps.filter fun o => o.kind = .teardown ctx
    let s := s.modContext ctx.val fun c => { Context.reset with gen := c.gen, state := c.state }
    let s := (s.setCtxState ctx .free).dropSegments ctx
    .next (ops.foldl (fun t o => t.endLong { o with done, total := n } .done .ok) s)

end Sys2Proof.Machine
end

