-- ==== Sys2Proof/Machine/Homes.lean ====
section
/-! DEFINITION. The homes (chapter 5): reads, writes and atomic operations as they arrive, the patrol, refresh, lane remaps and
page copies, and the application cores' accesses. -/

namespace Sys2Proof.Machine

/-! ### Shared parts -/

/-- Lines of an access that are poisoned, with the home of each. -/
def State.poisonLines (s : State) (a n : Nat) : List (Nat × Nat) :=
  (pieces a n).filterMap fun p => match s.place p.1 with
    | .cell h o => if s.poisoned h o then some (h, p.1) else none
    | _ => none

/-- Generation under which a tumbler's operator of a context runs. -/
def State.genOn (s : State) (t : TumId) (ctx : CtxId) : Gen :=
  match (s.tumbler (tkey t)).resident with
  | some r => if r.ctx = ctx then r.gen else (s.context ctx.val).gen
  | none => (s.context ctx.val).gen

/-- A read of poisoned lines by its reader (Table 5.6, R149): the home raises one record a line, a tumbler's operator fails with
0x85, and the scrub counts the line. -/
def State.poisonRead (s : State) (reader : Reader) (lines : List (Nat × Nat)) : State :=
  lines.foldl (fun t l =>
    match reader with
    | .tumbler u ctx op => t.refuseAt (homeDie l.1) u.die.val u.ward.val ctx (t.genOn u ctx) op 0x85 { lineRaise .poisonRead l.1 l.2 with reporter := t.chanOfTum u }
    | .scrub => (t.raise (homeDie l.1) (lineRaise .poisonRead l.1 l.2)).count 4 l.1 1 1
    | _ => t.raise (homeDie l.1) (lineRaise .poisonRead l.1 l.2)) s

/-! ### Reads -/

/-- Base die to which a home answers, and whether the transfer is express: a PCIe port's is (R173). A peer's flow unit is answered over a
link, by a message (R286). -/
def readerAt : Reader → Option (Nat × Bool)
  | .tumbler t _ _ => some (t.die.val / 2, false)
  | .dispatcher d => some (d.val, false)
  | .appCore c => some (c.val / 4, false)
  | .host p => some (portBase p, true)
  | .keeper | .scrub => some (0, false)
  | .peer _ _ => none

/-- A home answers a read: its data cross to the reader's base die as responses (R173). -/
def State.answerRead (s : State) (reader : Reader) (a : Nat) (data : List Byte) : State :=
  let s := match readerAt reader, s.homeAt a with
    | some (d, x), some h => s.carry h d 8 (.response x) (beatsOf data)
    | _, _ => s
  s.emit (.homeAnswer reader data false)

/-- The dies of an access's homes run (R15): those of the pieces that lie at a cell. -/
def State.homesRun (s : State) (a n : Nat) : Bool :=
  (pieces a n).all fun p => match s.homeAt p.1 with | some d => s.clocked (asBase d) | none => true

/-- HOME_READ: the line's last applied value, or a poisoned answer by reader, which carries no data (R140, R149); a home
whose die has no clock does not answer (R15). Log: DEDUCED 60. -/
def execHomeRead (reader : Reader) (addr : PAddr) (len : Nat) (s : State) : Host.Outcome State Fault Refusal :=
  let lines := s.poisonLines addr.toNat len
  if !s.homesRun addr.toNat len then .next s
  else if lines.isEmpty then .next (s.answerRead reader addr.toNat (s.load addr.toNat len).1)
  else
    let s := s.poisonRead reader lines
    match reader with
    | .appCore c => .next (s.emit (.coreFault c))
    | _ => .next (s.emit (.homeAnswer reader [] true))

/-! ### Writes -/

/-- A write of an old generation is discarded and counted in the teardown record (R128). Log: DEDUCED 65. -/
def State.countStraggler (s : State) (ctx : CtxId) : State :=
  s.modTeardown ctx fun td => { td with stragglers := td.stragglers + 1 }

/-- The context and generation that a write bears, where the home judges it by them. -/
def writerGen : Writer → Option (CtxId × Gen)
  | .tumbler _ ctx gen _ => some (ctx, gen)
  | .peer _ ctx gen => some (ctx, gen)
  | _ => none

/-- Areas of shelf SRAM that only some agents write (Table 5.9, R158). -/
inductive Area where
  | images | rings | mirror | firmware | latchMemory | retained | general
deriving DecidableEq, Repr

/-- The area of an offset of a base die's shelf SRAM. -/
def areaOf (die off : Nat) : Area :=
  if off < 0x800000 then .images
  else if off < 0x2000000 then .rings
  else if off < 0x2100000 then .mirror
  else if off < 0x3000000 then (if die = 0 then .firmware else .latchMemory)
  else if off < 0x4000000 ∧ die = 0 then .retained
  else .general

/-- An agent may write an area (R158): an application core only the slots of its own rings. Log: DEDUCED 72. -/
def State.mayWrite (s : State) (w : Writer) (die : Nat) (a n : Nat) (area : Area) : Bool :=
  match area with
  | .general => true
  | .images | .firmware | .retained => decide (w = .keeper)
  | .mirror | .latchMemory => w = .keeper || decide (w = .latch (asBase die))
  | .rings => match w with
    | .keeper | .dispatcher _ => true
    | .appCore c => s.coreSlot c a n
    | _ => false

/-- Channel that names a writer in a record (R158, Table 12.1). -/
def State.writerChan (s : State) : Writer → Chan
  | .tumbler t _ _ _ => s.chanOfTum t
  | .dispatcher d | .latch d => baseChan d.val
  | .appCore c => coreChan c.val
  | .host _ _ | .keeper => baseChan 0
  | .peer m _ _ => moduleChan m.toNat

/-- The first line of a write that its writer may not write, with its home. -/
def State.protectedAt (s : State) (w : Writer) (a n : Nat) : Option (Nat × Nat) :=
  (pieces a n).findSome? fun p => match s.place p.1 with
    | .cell h o => if 12 ≤ h && !s.mayWrite w (h - 12) p.1 p.2 (areaOf (h - 12) o) then some (h, p.1) else none
    | _ => none

/-- The record of a piece discarded at a poisoned line (R148): a tumbler's operator fails with 0x87. -/
def State.partialPoison (s : State) (w : Writer) (a : Nat) : State :=
  match w, s.place a with
  | .tumbler t ctx gen op, .cell h _ =>
    s.refuseAt (homeDie h) t.die.val t.ward.val ctx gen op 0x87 { lineRaise .partialPoisonWrite h a with reporter := s.chanOfTum t }
  | _, _ => s.discardedPart a (s.writerChan w)

/-- The fault of a write that is discarded because its writer may not write the area, raised by the home (R158). -/
def State.protectedFault (s : State) (w : Writer) (h : Nat) : State :=
  s.raise (homeDie h)
    { cause := .protectedWrite, suspect := lineChan h, reporter := s.writerChan w, detail := (s.writerChan w).setWidth 64 }

/-- A write at its homes: discarded where its writer may not write the area (R158), else applied line by line (R148); EP or a poison
mark writes whole lines poisoned (R310, R294). -/
def State.applyWrite (s : State) (w : Writer) (a : Nat) (data : List Byte) (poison : Bool) : State :=
  match s.protectedAt w a data.length with
  | some (h, _) => s.protectedFault w h
  | none =>
    let r := s.storeAt a data poison
    r.2.foldl (fun t x => t.partialPoison w x) r.1

/-- A write at its home, which acknowledges it. Log: DEDUCED 72. -/
def State.writeHome (s : State) (w : Writer) (a : Nat) (data : List Byte) (poison : Bool) : State :=
  (s.applyWrite w a data poison).emit (.homeAck w)

/-- HOME_WRITE: applied line by line and acknowledged (R140, R148); one that bears an old generation is discarded and counted
(R128). Log: DEDUCED 65. -/
def execHomeWrite (writer : Writer) (addr : PAddr) (data : List Byte) (poison : Bool) (s : State) : Host.Outcome State Fault Refusal :=
  if !s.homesRun addr.toNat data.length then .next s
  else match writerGen writer with
  | some (ctx, gen) => .next (if s.acceptsGen ctx gen then s.writeHome writer addr.toNat data poison else s.countStraggler ctx)
  | none => .next (s.writeHome writer addr.toNat data poison)

/-! ### Atomic operations (Table 5.4) -/

/-- Bytes of an operation's word. -/
def atomicBytes : AtomicOp → Nat
  | .addU64 | .swap | .cas => 8
  | .addFp32 => 4
  | .addBf16 => 2

/-- The sum of two BF16 words, nearest even, subnormals kept. Log: DEDUCED 68. -/
def bf16Add (a b : Nat) : Nat :=
  (encodeFloat .bf16 ⟨8, 7, 127, 0x7F7F, true, none⟩ .even true
    ((decodeFloat ⟨8, 7, 127, 0x7F7F, true, none⟩ a).add (decodeFloat ⟨8, 7, 127, 0x7F7F, true, none⟩ b))).1

/-- The word that an operation stores. -/
def atomicResult (op : AtomicOp) (old operand compare : W64) : W64 :=
  match op with
  | .addU64 => old + operand
  | .addFp32 => (fAdd (old.setWidth 32) (operand.setWidth 32)).setWidth 64
  | .addBf16 => BitVec.ofNat 64 (bf16Add (old.toNat % 65536) (operand.toNat % 65536))
  | .swap => operand
  | .cas => if old = compare then operand else old

/-- An operation on an aligned word of a cell: the state after it and the old value, or none where the line is poisoned, and
then no store is made (R144). -/
def State.atomicAt (s : State) (op : AtomicOp) (a : Nat) (operand compare : W64) : State × Option W64 :=
  match s.place a with
  | .cell h o =>
    if s.poisoned h o then (s, none)
    else
      let n := atomicBytes op
      let old := BitVec.ofNat 64 (leNat (s.bytes h o n))
      (s.putBytes h o (leBytes n (atomicResult op old operand compare).toNat), some old)
  | _ => (s, none)

/-- An agent that reads, as the writer of its atomic operations. -/
def State.atomicWriter (s : State) : Reader → Writer
  | .tumbler t ctx op => .tumbler t ctx (s.genOn t ctx) op
  | .dispatcher d => .dispatcher d
  | .appCore c => .appCore c
  | .host p => .host p 0
  | .keeper | .scrub => .keeper
  | .peer m _ => .peer m 0 0

/-- An agent's atomic operation: in an area that the agent may not write, its store is discarded and raises a fault, and its word is
still read (R144, R158). Log: DEDUCED 72. -/
def State.atomicBy (s : State) (w : Writer) (op : AtomicOp) (a : Nat) (operand compare : W64) : State × Option W64 :=
  match s.protectedAt w a (atomicBytes op) with
  | some (h, _) => (s.protectedFault w h, (s.atomicAt op a operand compare).2)
  | none => s.atomicAt op a operand compare

/-- An operation returns its word's old value. Log: DEDUCED 60. -/
def atomicReturns (op : AtomicOp) (wantOld : Bool) : Bool :=
  match op with
  | .addU64 => wantOld
  | .addFp32 | .addBf16 => false
  | .swap | .cas => true

/-- HOME_ATOMIC: applied as one access, or answered as a read of a poisoned line (R144). A word that is not aligned takes no
operation. Log: DEDUCED 64. -/
def execHomeAtomic (reader : Reader) (op : AtomicOp) (addr : PAddr) (operand compare : W64) (wantOld : Bool) (s : State) :
    Host.Outcome State Fault Refusal :=
  let a := addr.toNat
  if a % atomicBytes op ≠ 0 || !s.homesRun a (atomicBytes op) then .next s
  else
    match s.poisonLines a (atomicBytes op) with
    | [] =>
      let r := s.atomicBy (s.atomicWriter reader) op a operand compare
      .next (if atomicReturns op wantOld then r.1.emit (.homeOld reader (r.2.getD 0xFFFFFFFFFFFFFFFF) false)
        else r.1.emit (.homeAnswer reader [] false))
    | lines =>
      let s := s.poisonRead reader lines
      match reader with
      | .appCore c => .next (s.emit (.coreFault c))
      | _ => .next (s.emit (.homeOld reader 0xFFFFFFFFFFFFFFFF true))

/-! ### Stacks -/

/-- Lines of a stack. -/
abbrev stackLines : Nat := 805306368

/-- A page of a stack is a free reserve page (R154). -/
def Stack.freePage (k : Stack) (page : Nat) : Bool :=
  770048 ≤ page && page < 782336 && !k.badReserve.contains (page - 770048)
    && !(k.retired ++ k.copying).any fun p => decide (p.2 = some (page - 770048))

/-- The data line that a stack line holds: a line of a reserve page in use holds its data page's, and a retired page holds none
(R153, R154). Log: DEDUCED 37. -/
def Stack.dataLine (k : Stack) (line : Nat) : Option Nat :=
  let page := line / 1024
  if page < 770048 then (if (Store.get none k.retired page).isSome then none else some line)
  else match k.retired.find? fun p => decide (p.2 = some (page - 770048)) with
    | some p => some (p.1 * 1024 + line % 1024)
    | none => some line

/-- PATROL_SCRUB_READ: the patrol of a stack reads its next line, counts what it corrects and writes it back unless a write has
come between; a line it cannot correct is poisoned, one that is poisoned already is left so, recorded and counted (Table 5.6), and a
free reserve page so found is padlocked (R154, R164). Log: DEDUCED 67. -/
def execPatrolScrubRead (stack : StackIx) (line : Nat) (corrected : Nat) (uncorrectable writtenSince : Bool) (s : State) :
    Host.Outcome State Fault Refusal :=
  let k := stack.val
  let x := s.stack k
  if !x.trained || x.padlocked || line ≠ x.patrol || Store.get false s.mem.patrolOff (k / 2) then .next s
  else
    let s := s.modStack k fun y => { y with patrol := (y.patrol + 1) % stackLines }
    let s := if corrected = 0 then s else s.count 4 k 0 corrected
    let marked := match x.dataLine line with
      | some l => if s.poisoned k (64 * l) then some (k, s.addrOf k (64 * l)) else none
      | none => none
    if marked.isSome then .next (s.poisonRead .scrub marked.toList)
    else if !uncorrectable || writtenSince then .next s
    else
      let page := line / 1024
      if x.freePage page then .next (s.declareWith (pageChan k page) .uncorrectable (BitVec.ofNat 64 (64 * line)) 0)
      else match x.dataLine line with
        | some l => .next (((s.setPoison k (64 * l) true).count 4 k 1 1).raise (homeDie k)
            (lineRaise .uncorrectable k (s.addrOf k (64 * l))))
        | none => .next (s.count 4 k 1 1)

/-- Refresh rate of a temperature in 0.01 °C (Table 5.7). -/
def refreshRate (t : Int) : Nat := if 9500 < t then 4 else if 8500 ≤ t then 2 else 1

/-- REFRESH_RATE_FALL: the modelled temperature has stayed 2 °C below the threshold for 100 ms (R150). -/
def execRefreshRateFall (stack : StackIx) (s : State) : Host.Outcome State Fault Refusal :=
  let t := Store.get 0 s.thermal.hotspot (18 + stack.val)
  let rate := if t ≤ 8300 then 1 else if t ≤ 9300 then 2 else 4
  .next (if rate < (s.stack stack.val).refresh then s.modStack stack.val fun x => { x with refresh := rate, refreshTemp := t } else s)

/-- LANE_REMAP_APPLY: the remaps that wait take effect at the refresh window (R151). -/
def execLaneRemapApply (stack : StackIx) (pc : Fin 64) (s : State) : Host.Outcome State Fault Refusal :=
  .next (s.modStack stack.val fun x =>
    let lanes := Store.get [] x.remapping pc.val
    { x with remapped := x.remapped ++ lanes.map fun l => (pc.val, l), remapping := Store.put [] x.remapping pc.val [] })

/-- PAGE_COPY_COMPLETE: the retirement map takes the page, and dual-write ends (R153, R154). -/
def execPageCopyComplete (stack : StackIx) (page : BitVec 20) (s : State) : Host.Outcome State Fault Refusal :=
  .next (s.modStack stack.val fun x =>
    match Store.get none x.copying page.toNat with
    | some j => { x with retired := Store.put none x.retired page.toNat (some j), copying := Store.put none x.copying page.toNat none }
    | none => x)

/-- HBM_MAP_CTRL_WRITE: the keeper sets the interleave share until the lock; a value above 47 is written as 47 (R10, R136).
Log: DEDUCED 69. -/
def execHbmMapCtrlWrite (agent : Agent) (value : Nat) (s : State) : Host.Outcome State Fault Refusal :=
  .next (if agent = .keeper && !s.keeper.locked then { s with mem := { s.mem with share := min 47 value } } else s)

/-- HBM_EYE_TEST_COMPLETE: the test of a pseudo-channel's lanes ends; a lane below its training limit is permanent (R366,
Table 12.2). Log: DEDUCED 66. -/
def execHbmEyeTestComplete (stack : StackIx) (pc : Fin 64) (failed : Option (Fin 128)) (s : State) : Host.Outcome State Fault Refusal :=
  if (s.stack stack.val).eyeTests.contains pc.val then
    let s := s.modStack stack.val fun x => { x with eyeTests := x.eyeTests.filter fun p => p ≠ pc.val }
    match failed with
    | some l => .next (s.declareWith (hbmLaneChan stack.val pc.val l.val) .threshold (BitVec.ofNat 64 (perMs 32 s.tel.interval)) 0)
    | none => .next s
  else .next s

/-! ### Application cores (R58–R60, Tables 2.8 and 2.9) -/

/-- The core-local range. -/
def coreLocal (a : Nat) : Bool := 0x800000000000 ≤ a && decide (a ≤ 0x800000FFFFFF)

/-- Words of an interrupt file. -/
def AppCore.fileWord (c : AppCore) (off : Nat) : W64 :=
  match off with
  | 0x000 => c.ringPending
  | 0x008 => BitVec.ofNat 64 c.keeperPending.toNat
  | 0x010 => c.ringEnable
  | 0x018 => BitVec.ofNat 64 c.keeperEnable.toNat
  | 0x020 => BitVec.ofNat 64 c.identity
  | _ => 0

/-- Write a word of an interrupt file. -/
def AppCore.putFile (c : AppCore) (off : Nat) (v : W64) : AppCore :=
  match off with
  | 0x000 => { c with ringPending := c.ringPending &&& ~~~v }
  | 0x008 => { c with keeperPending := c.keeperPending && !v.getLsbD 0 }
  | 0x010 => { c with ringEnable := v }
  | 0x018 => { c with keeperEnable := v.getLsbD 0 }
  | _ => c

/-- Write the interrupt file of a core: an enabled pending bit raises its local interrupt (R60). -/
def State.putCoreFile (s : State) (core : CoreIx) (off : Nat) (v : W64) : State :=
  let before := (s.core core.val).identity
  let s := s.modCore core.val fun c => c.putFile off v
  if before = 0 ∧ (s.core core.val).identity ≠ 0 then s.emit (.coreInterrupt core) else s

/-- A read of the core-local range. Log: DESIGN CHOICE 63. -/
def State.readLocal (s : State) (core : CoreIx) (off n : Nat) : List Byte :=
  let c := s.core core.val
  let own := 0x1000 * (core.val % 4)
  let word (v : W64) (at_ : Nat) : List Byte := ((leBytes 8 v.toNat).drop at_).take n
  if off < 0x40000 then
    (if off % 0x1000 < 4 then word ((s.ring (64 * (core.val / 4) + off / 0x1000)).tail.setWidth 64) (off % 0x1000) else List.replicate n 0)
  else if 0x100000 + own ≤ off ∧ off < 0x101000 + own then word (c.fileWord ((off - 0x100000 - own) / 8 * 8)) (off % 8)
  else if 0x200000 ≤ off ∧ off < 0x204000 then
    let block := (s.core (core.val / 4 * 4 + (off - 0x200000) / 0x1000)).bootInfo
    padTo n (((block.map fun w => leBytes 8 w.toNat).flatten).drop (off % 0x1000))
  else if 0x300000 ≤ off ∧ off < 0x300008 then word s.tel.timestamp (off % 8)
  else List.replicate n 0

/-- A core's access to its local range: doorbells ring under their own row (R104); its own interrupt file is read and written;
the rest reads 0 and takes no write. Log: DESIGN CHOICE 63. -/
def State.localAccess (s : State) (core : CoreIx) (off n : Nat) (write : Option (List Byte)) : State :=
  let own := 0x100000 + 0x1000 * (core.val % 4)
  match write with
  | some data => if own ≤ off ∧ off < own + 0x20 then s.putCoreFile core (off - own) (BitVec.ofNat 64 (leNat data)) else s
  | none =>
    let s' := s.emit (.coreData core (s.readLocal core off n))
    if off = own + 0x20 then
      let id := (s.core core.val).identity
      s'.modCore core.val fun c =>
        if id = 65 then { c with keeperPending := false }
        else if id = 0 then c else { c with ringPending := putBit c.ringPending (id - 1) false }
    else s'

/-- The core reads its own rings: the command ring and the completion ring of its base die (R59, R158). Log: DEDUCED 62. -/
def State.coreRing (s : State) (core : CoreIx) (a n : Nat) : Bool :=
  let die := core.val / 4
  let from_ := 0x020000000000 + die * 0x10000000
  s.ops.rings.any fun p => p.1 / 64 = die && p.2.enabled && p.2.owner = .core core
    && ((from_ + p.2.base ≤ a && decide (a + n ≤ from_ + p.2.base + 64 * p.2.entries))
      || (from_ + p.2.cplBase ≤ a && decide (a + n ≤ from_ + p.2.cplBase + 32 * p.2.entries)))

/-- A refused access of a core: a read returns all ones, a write is discarded (R58, R135). Log: DESIGN CHOICE 61. -/
def State.coreRefused (s : State) (core : CoreIx) (n : Nat) (write : Option (List Byte)) (r : Raise) : State :=
  let s := s.raise (asBase (core.val / 4)) { r with reporter := coreChan core.val }
  if write.isSome then s else s.emit (.coreData core (List.replicate n 0xFF))

/-- APPCORE_MEMORY_ACCESS: an access of a running core to its local range, to the regions of its contexts, or refused with a
context-isolation fault (R58, R60); an unmapped or withdrawn address is refused (R135, R155). The record of an isolation fault
names the first context assigned to the core. Log: DESIGN CHOICE 61. -/
def execAppcoreMemoryAccess (core : CoreIx) (addr : PAddr) (len : Nat) (write : Option (List Byte)) (s : State) :
    Host.Outcome State Fault Refusal :=
  let c := s.core core.val
  let a := addr.toNat
  let n := match write with | some d => d.length | none => len
  let suspect := contextChan ((c.ctxs.map fun x => x.val).headD 0)
  if !c.running then .next s
  else if coreLocal a then .next (s.localAccess core (a - 0x800000000000) n write)
  else if !(write.isNone && s.coreRing core a n) && !c.ctxs.any (fun x => inRegions (s.context x.val).regions a n) then
    .next (s.coreRefused core n write { cause := .isolation, suspect, detail := addr.setWidth 64 })
  else
    match s.badPlace a n with
    | some (.withdrawn w) => .next (s.coreRefused core n write { cause := .withdrawn, suspect := w, detail := addr.setWidth 64 })
    | some _ => .next (s.coreRefused core n write { cause := .unmapped, suspect, detail := addr.setWidth 64 })
    | none =>
      match write with
      | some d => .next (s.emit (.homeWrite (.appCore core) addr d))
      | none => .next (s.emit (.homeRead (.appCore core) addr len))

end Sys2Proof.Machine
end

