-- ==== Sys2Proof/Machine/DomMsgs.lean ====
section
/-! DEFINITION. Domain messages as they arrive (chapter 9): forwarding, the target's checks and answers, the requester's part,
reductions, and fences. -/

namespace Sys2Proof.Machine

/-- Base die of a link's engine. -/
def linkDie (l : LinkIx) : BaseDie := asBase (engineBase (l.val / 8))

/-- Key of a source module's context. -/
def pairKey (m : ModId) (ctx : CtxId) : Nat := 1024 * m.toNat + ctx.val

/-- A module without an ID discards and counts data units of VC 1 to VC 6 (R282). Log: DEDUCED 75. -/
def State.unassigned (s : State) (l : LinkIx) : State := s.count kMisc (linkDie l).val 1 1

/-- A message arrives for this module: its units leave the pool and it is served. One of another opcode or for another module
is no message of the row. -/
def State.arrive (s : State) (l : LinkIx) (m : DomMsg) (op : Byte) (serve : State → BaseDie → State) : State :=
  if m.opcode ≠ op then s
  else if s.domain.id.isNone then (s.takeUnits l.val m.vc).unassigned l
  else if m.destModule ≠ s.moduleId then s
  else serve (s.takeUnits l.val m.vc) (linkDie l)

/-! ### Requests at their target -/

/-- A unit of a source context bears a generation that is not the one its last fence set (R296 step 2). Log: DEDUCED 70. -/
def State.isStraggler (s : State) (m : DomMsg) : Bool :=
  match Store.get none s.domain.genRecord (pairKey m.srcModule m.ctx) with
  | some g => g ≠ m.gen
  | none => false

/-- Discard and count a straggler. Log: DEDUCED 25. -/
def State.dropStraggler (s : State) (die : BaseDie) (m : DomMsg) : State :=
  let k := pairKey m.srcModule m.ctx
  let s := s.countDom die.val dmStraggler 1
  { s with domain := { s.domain with stragglers := Store.put 0 s.domain.stragglers k (Store.get 0 s.domain.stragglers k + 1) } }

/-- The first status of Table 9.4 that applies before the access is made; 0 for none. -/
def State.targetStatus (s : State) (m : DomMsg) (len : Nat) : Byte :=
  let c := s.context m.targetCtx.val
  if c.state ≠ .opened || decide (m.targetGen ≠ c.gen) then 1
  else if !c.domain then 2
  else if !inRegions c.regions m.offset.toNat len then 3
  else 0

/-- The answer to a request (R294): context, generation and tag are the request's. -/
def State.response (s : State) (m : DomMsg) (opcode : Byte) (status : Byte) (poison : Bool) (data : List Byte) : DomMsg :=
  { vc := (opcodeVc opcode).getD 2, opcode, srcModule := s.moduleId, destModule := m.srcModule, ctx := m.ctx, gen := m.gen,
    hops := 0, poison, targetCtx := m.targetCtx, targetGen := m.targetGen, offset := m.offset, length := data.length, tag := m.tag,
    status, returnDie := m.returnDie, data }

/-- An access of which a part lies at no cell is refused whole: the record of R135 or R155. Log: DEDUCED 71. -/
def State.peerUnmapped (s : State) (die : BaseDie) (m : DomMsg) (len : Nat) : Option State :=
  match s.badPlace m.offset.toNat len with
  | some (.withdrawn w) => some (s.raise die
      { cause := .withdrawn, suspect := w, reporter := moduleChan m.srcModule.toNat, detail := m.offset.setWidth 64 })
  | some _ => some (s.raise die
      { cause := .unmapped, suspect := contextChan m.targetCtx.val, reporter := moduleChan m.srcModule.toNat, detail := m.offset.setWidth 64 })
  | none => none

/-- READ_MESSAGE: checked by Table 9.4 and answered with READ_DATA, of all ones where it is refused (R135); a poisoned answer carries
the poison mark and no data (R149, R294). Log: DEDUCED 60, 71. -/
def execReadMessage (link : LinkIx) (msg : DomMsg) (s : State) : Host.Outcome State Fault Refusal :=
  .next (s.arrive link msg dmRead fun s die =>
    if s.isStraggler msg then s.dropStraggler die msg
    else
      let st := s.targetStatus msg msg.length
      if st ≠ 0 then s.sendByRoute die (s.response msg dmReadData st false [])
      else
        let a := msg.offset.toNat
        let lines := s.poisonLines a msg.length
        match s.peerUnmapped die msg msg.length with
        | some t => t.sendByRoute die (s.response msg dmReadData 0 false (List.replicate msg.length 0xFF))
        | none =>
        if lines.isEmpty then s.sendByRoute die (s.response msg dmReadData 0 false (s.load a msg.length).1)
        else (s.poisonRead (.peer msg.srcModule msg.tag) lines).sendByRoute die (s.response msg dmReadData 4 true []))

/-- WRITE_MESSAGE: checked, applied or refused, and answered with WRITE_ACK (R135, R294). Log: DEDUCED 70. -/
def execWriteMessage (link : LinkIx) (msg : DomMsg) (s : State) : Host.Outcome State Fault Refusal :=
  .next (s.arrive link msg dmWrite fun s die =>
    if s.isStraggler msg then s.dropStraggler die msg
    else
      let st := s.targetStatus msg msg.data.length
      if st ≠ 0 then s.sendByRoute die (s.response msg dmWriteAck st false [])
      else
        let s := (s.peerUnmapped die msg msg.data.length).getD
          (s.applyWrite (.peer msg.srcModule msg.targetCtx msg.targetGen) msg.offset.toNat msg.data msg.poison)
        s.sendByRoute die (s.response msg dmWriteAck 0 false []))

/-- The operation of an ATOMIC message (log entry 21). Log: DESIGN CHOICE 21. -/
def messageOp (m : DomMsg) : Option AtomicOp :=
  match leNat (m.data.take 8) with
  | 0 => some .addU64 | 1 => some .addFp32 | 2 => some .addBf16 | 3 => some .swap | 4 => some .cas
  | _ => none

/-- ATOMIC_MESSAGE: checked, applied, and answered with ATOMIC_RESP (R144, R294). An operation code that Table 5.4 does not
have is discarded and counted as malformed. Log: DESIGN CHOICE 21. -/
def execAtomicMessage (link : LinkIx) (msg : DomMsg) (s : State) : Host.Outcome State Fault Refusal :=
  .next (s.arrive link msg dmAtomic fun s die =>
    if s.isStraggler msg then s.dropStraggler die msg
    else
      match messageOp msg with
      | none => s.countLink link.val lnMalformed 1
      | some op =>
        let n := atomicBytes op
        let a := msg.offset.toNat
        let st := s.targetStatus msg n
        if st ≠ 0 then s.sendByRoute die (s.response msg dmAtomicResp st false [])
        else if a % n ≠ 0 then s.countLink link.val lnMalformed 1
        else
          match s.poisonLines a n with
          | [] =>
            let r := match s.peerUnmapped die msg n with
              | some t => (t, none)
              | none => s.atomicBy (.peer msg.srcModule msg.targetCtx msg.targetGen) op a
                  (BitVec.ofNat 64 (leNat ((msg.data.drop 8).take 8))) (BitVec.ofNat 64 (leNat ((msg.data.drop 16).take 8)))
            let old := if atomicReturns op false then leBytes 8 (r.2.getD 0xFFFFFFFFFFFFFFFF).toNat else []
            r.1.sendByRoute die (s.response msg dmAtomicResp 0 false old)
          | lines =>
            (s.poisonRead (.peer msg.srcModule msg.tag) lines).sendByRoute die
              (s.response msg dmAtomicResp 4 true (List.replicate 8 0xFF)))

/-! ### Answers at their requester -/

/-- The request that a response answers. -/
def State.requestOf (s : State) (m : DomMsg) : Option Request :=
  s.domain.requests.find? fun q => q.tag = m.tag && q.module = m.srcModule && q.ctx = m.ctx && decide (q.gen = m.gen)

/-- A response that finds no request, or whose generation is stale, is a straggler of the teardown (R128, R294). -/
def State.staleResponse (s : State) (die : BaseDie) (m : DomMsg) : State :=
  (s.countDom die.val dmStraggler 1).countStraggler m.ctx

/-- Drop a request that has been answered. -/
def State.dropRequest (s : State) (q : Request) : State :=
  { s with domain := { s.domain with requests := s.domain.requests.erase q } }

/-- The tumbler of a request. -/
def requestTum (q : Request) : TumId :=
  { die := Fin.ofNat 12 (q.tumbler / 1536), ward := Fin.ofNat 24 (q.tumbler / 64), tum := Fin.ofNat 64 q.tumbler }

/-- A load of another module lands: its read slots are freed, and its data where it was served (R37). -/
def State.landLoad (s : State) (q : Request) (data : List Byte) : State :=
  let t := requestTum q
  let s := s.modTumbler q.tumbler fun x =>
    ({ x.putSram q.sram (data.take q.len) with loads := x.loads.filter fun p => !(p.global && p.tag = q.tag) }).settle
  (s.settleWard t.die.val t.ward.val).settleInsertions

/-- A write or an atomic operation on another module is answered: its write slot is freed (R38). -/
def State.freeRequest (s : State) (q : Request) : State :=
  match (s.tumbler q.tumbler).writes.find? fun p => p.global && p.tag = q.tag with
  | some p => s.freeWrite (requestTum q) p
  | none => s

/-- A response at its requester: a status other than OK fails the operator (R294, Table 12.6). Log: DEDUCED 74; DESIGN CHOICE 15. -/
def State.takeResponse (s : State) (die : BaseDie) (m : DomMsg) (land : State → Request → State) : State :=
  match s.requestOf m with
  | none => s.staleResponse die m
  | some q =>
    let s := s.dropRequest q
    if !s.acceptsGen m.ctx m.gen then s.staleResponse die m
    else
      land (if m.status = 0 then s else s.remoteFail q m.status) q

/-- READ_DATA_MESSAGE: the data land in the space their requester reserved (R294). -/
def execReadDataMessage (link : LinkIx) (msg : DomMsg) (s : State) : Host.Outcome State Fault Refusal :=
  .next (s.arrive link msg dmReadData fun s die =>
    s.takeResponse die msg fun s q => s.landLoad q (if msg.status = 0 then msg.data else []))

/-- WRITE_ACK_MESSAGE: the write slot is freed (R38, R294). -/
def execWriteAckMessage (link : LinkIx) (msg : DomMsg) (s : State) : Host.Outcome State Fault Refusal :=
  .next (s.arrive link msg dmWriteAck fun s die => s.takeResponse die msg State.freeRequest)

/-- ATOMIC_RESP_MESSAGE: the write slot of the operation is freed; the manual names no place for its old value (R38, R294).
Log: DESIGN CHOICE 15. -/
def execAtomicRespMessage (link : LinkIx) (msg : DomMsg) (s : State) : Host.Outcome State Fault Refusal :=
  .next (s.arrive link msg dmAtomicResp fun s die => s.takeResponse die msg State.freeRequest)

/-! ### Forwarding -/

/-- The answer of a request that is discarded on its way (R290); none for another message. -/
def unreachableAnswer (o : Byte) : Option Byte :=
  if o = dmRead then some dmReadData else if o = dmWrite then some dmWriteAck else if o = dmAtomic then some dmAtomicResp else none

/-- Discard a unit in transit: counted, raised, and a request answered UNREACHABLE where a route leads back (R290). -/
def State.discardTransit (s : State) (die : BaseDie) (m : DomMsg) (k : Nat) : State :=
  let s := s.routeDiscard die m.destModule m.hops k
  match unreachableAnswer m.opcode with
  | some o =>
    let r := s.response m o 5 false []
    match s.forwardLink r.srcModule r.ctx r.destModule with
    | some l => s.sendOn die l r
    | none => s
  | none => s

/-- UNIT_FORWARD: a message for another module goes on with its hops incremented, or is discarded with a route fault (R290);
one with a reserved opcode is discarded and counted as malformed (Table 9.3). -/
def execUnitForward (arrival : LinkIx) (msg : DomMsg) (s : State) : Host.Outcome State Fault Refusal :=
  let die := linkDie arrival
  if s.domain.id.isNone then .next ((s.takeUnits arrival.val msg.vc).unassigned arrival)
  else if msg.destModule = s.moduleId then
    .next (if (opcodeVc msg.opcode).isNone then (s.takeUnits arrival.val msg.vc).countLink arrival.val lnMalformed 1 else s)
  else
    let s := s.takeUnits arrival.val msg.vc
    match s.forwardLink msg.srcModule msg.ctx msg.destModule with
    | some l =>
      if msg.hops = 15 then .next (s.discardTransit die msg dmHop)
      else .next ((s.countDom die.val dmForwarded (domUnits msg).length).sendOn die l { msg with hops := msg.hops + 1 })
    | none => .next (s.discardTransit die msg dmRoute)

/-! ### Reductions (R295) -/

/-- The lowest group whose members include this module and a source. Log: DESIGN CHOICE 73. -/
def State.groupOf (s : State) (src : ModId) : Option Group :=
  (s.domain.groups.find? fun p => p.2.members.contains src && p.2.members.contains s.moduleId).map fun p => p.2

/-- Two operands belong to one reduction. Log: DESIGN CHOICE 73. -/
def sameReduction (a b : DomMsg) : Bool :=
  a.ctx = b.ctx && a.gen = b.gen && a.tag = b.tag && a.targetCtx = b.targetCtx && decide (a.offset = b.offset)

/-- RED_OPERAND_MESSAGE: the reduction agent takes the operand; once it holds one of every other member of the group, it forms
the result in arrival order and sends it to each (R295). Log: DEDUCED 70; DESIGN CHOICE 73. -/
def execRedOperandMessage (link : LinkIx) (msg : DomMsg) (s : State) : Host.Outcome State Fault Refusal :=
  .next (s.arrive link msg dmRedOperand fun s die =>
    if s.isStraggler msg then s.dropStraggler die msg
    else
      let held := s.domain.operands ++ [msg]
      let mine := held.filter fun o => sameReduction o msg
      match s.groupOf msg.srcModule with
      | none => { s with domain := { s.domain with operands := held } }
      | some g =>
        if (g.members.filter fun m => m ≠ s.moduleId).all fun m => mine.any fun o => o.srcModule = m then
          let data := Config.reduction (mine.map fun o => o.data)
          let s := { s with domain := { s.domain with operands := held.filter fun o => !sameReduction o msg } }
          mine.foldl (fun t o => t.sendByRoute die (t.response o dmRedResult 0 false data)) s
        else { s with domain := { s.domain with operands := held } })

/-- RED_RESULT_MESSAGE: the result lands at its offset in the consumer's context (R295, R256); one that its context does not
accept is a straggler (R128). -/
def execRedResultMessage (link : LinkIx) (msg : DomMsg) (s : State) : Host.Outcome State Fault Refusal :=
  .next (s.arrive link msg dmRedResult fun s die =>
    if !s.acceptsGen msg.ctx msg.gen then s.staleResponse die msg
    else if inRegions (s.context msg.ctx.val).regions msg.offset.toNat msg.data.length then
      s.applyWrite (.peer msg.srcModule msg.ctx msg.gen) msg.offset.toNat msg.data msg.poison
    else s)

/-! ### Fences -/

/-- FENCE_MESSAGE: the generation record of the source context is set, and the fence waits for the requests accepted before it
(R296, R297). -/
def execFenceMessage (link : LinkIx) (msg : DomMsg) (s : State) : Host.Outcome State Fault Refusal :=
  .next (s.arrive link msg dmFenceMsg fun s _ =>
    let f : PendingFence := { src := msg.srcModule, ctx := msg.ctx, gen := msg.gen }
    { s with domain := { s.domain with
        genRecord := Store.put none s.domain.genRecord (pairKey msg.srcModule msg.ctx) (some msg.gen)
        fences := s.domain.fences ++ [f] } })

/-- FENCE_REQUESTS_ANSWERED: the oldest fence of the source context is answered with the stragglers counted (R296 step 4). -/
def execFenceRequestsAnswered (src : ModId) (ctx : CtxId) (s : State) : Host.Outcome State Fault Refusal :=
  match s.domain.fences.find? fun f => f.src = src && f.ctx = ctx with
  | none => .next s
  | some f =>
    let k := pairKey src ctx
    let n := Store.get 0 s.domain.stragglers k
    let m : DomMsg := { s.requestMsg 0 dmFenceDoneMsg src ctx f.gen 0 0 0 8 (leBytes 8 n) with tag := 0 }
    let s := { s with domain := { s.domain with fences := s.domain.fences.erase f, stragglers := Store.put 0 s.domain.stragglers k 0 } }
    .next (s.sendByRoute 0 m)

/-- FENCE_DONE_MESSAGE: the fence of a module has returned (Table 4.11 step 6); the last one of a quarantined context lets its
scrub begin (Table 4.1). Log: DEDUCED 25. -/
def execFenceDoneMessage (link : LinkIx) (msg : DomMsg) (s : State) : Host.Outcome State Fault Refusal :=
  .next (s.arrive link msg dmFenceDoneMsg fun s _ =>
    match (s.context msg.ctx.val).teardown with
    | none => s
    | some td =>
      if !td.fences.contains msg.srcModule || decide (msg.gen ≠ (s.context msg.ctx.val).gen) then s
      else
        let left := td.fences.erase msg.srcModule
        let s := (s.countDom 0 dmFenceDone 1).modTeardown msg.ctx fun td =>
          { td with fences := left, stragglers := td.stragglers + leNat (msg.data.take 8) }
        if left.isEmpty && decide ((s.context msg.ctx.val).state = .quarantined) then s.enterScrub msg.ctx else s)

end Sys2Proof.Machine
end

