-- ==== Sys2Proof/Machine/HostPort.lean ====
section
/-! DEFINITION. The host ports (chapter 10): accesses through BAR2 and the BAR0 windows, port roles and failover, held vectors,
configuration writes and DOE discovery. -/

namespace Sys2Proof.Machine

/-! ### BAR2 -/

/-- A port serves requests: its link is up and it is in D0. -/
def Port.serves (p : Port) : Bool := p.released && p.up && !p.d3hot

/-- Counters of TEL_STAT. -/
abbrev tsWindow : Nat := 2
abbrev tsBeforeReady : Nat := 3
abbrev tsStandby : Nat := 4

/-- Why a BAR2 access is refused (R310). -/
inductive BarFault where
  | invalid
  | isolation (ctx : CtxId) (a : Nat)
  | unmapped (ctx : CtxId) (a : Nat)
  | withdrawn (chan : Chan) (a : Nat)
deriving DecidableEq, Repr

/-- Translation of a BAR2 access by its segment (R309): an address under a context, or the refusal. -/
def State.barTarget (s : State) (off n : Nat) (write : Bool) : BarFault ⊕ (CtxId × Nat) :=
  let g := s.segment (off / gib)
  if !g.valid then .inl .invalid
  else
    let a := g.gib.toNat * gib + off % gib
    let c := s.context g.ctx.val
    if !inRegions c.regions a n || (write && decide (c.state ≠ .opened)) then .inl (.isolation g.ctx a)
    else
      match s.badPlace a n with
      | some (.withdrawn w) => .inl (.withdrawn w a)
      | some _ => .inl (.unmapped g.ctx a)
      | none => .inr (g.ctx, a)

/-- A refusal after ready is recorded by the port's base die, which issues the access (R135, R310, R155). Log: DEDUCED 76. -/
def State.barRefuse (s : State) (port : HostPort) (off : Nat) (f : BarFault) : State :=
  let die := asBase (portBase port)
  let by_ (cause : Cause) (suspect : Chan) (detail : Nat) : State :=
    s.raise die { cause, suspect, reporter := baseChan die.val, detail := BitVec.ofNat 64 detail }
  match f with
  | .invalid => by_ .unmapped noChan (2 ^ 63 + off)
  | .isolation ctx a => by_ .isolation (contextChan ctx.val) a
  | .unmapped ctx a => by_ .unmapped (contextChan ctx.val) a
  | .withdrawn w a => by_ .withdrawn w a

/-- A BAR2 access in the port's window. -/
def Port.inBar2 (p : Port) (off n : Nat) : Bool := decide (off + n ≤ 2 ^ p.barLog * gib)

/-- BAR2_READ: completed with data, with all ones where it is refused, or with EP at a poisoned line; a standby port and D3hot
answer Unsupported Request (R302, R309, R310). A completion with EP carries no data in the model. Log: DEDUCED 60; PRESUMED 77. -/
def execBar2Read (port : HostPort) (offset len : Nat) (s : State) : Host.Outcome State Fault Refusal :=
  let p := s.port port
  if !p.released || !p.up || !p.inBar2 offset len then .next s
  else if !p.active || p.d3hot then .next (s.emit (.unsupported port))
  else
    let ones := Out.completion port (List.replicate len 0xFF) false
    if !s.ready then .next ((s.count kTel 0 tsBeforeReady 1).emit ones)
    else
      match s.barTarget offset len false with
      | .inl f => .next ((s.barRefuse port offset f).emit ones)
      | .inr (_, a) =>
        let lines := s.poisonLines a len
        if lines.isEmpty then .next (s.emit (.completion port (s.load a len).1 false))
        else .next ((s.poisonRead (.host port) lines).emit (.completion port [] true))

/-- BAR2_WRITE: translated, checked and applied, or discarded with a record or a count (R302, R309, R310). Log: DEDUCED 76. -/
def execBar2Write (port : HostPort) (offset : Nat) (data : List Byte) (ep : Bool) (s : State) : Host.Outcome State Fault Refusal :=
  let p := s.port port
  if !p.serves || !p.inBar2 offset data.length then .next s
  else if !p.active then .next (s.count kTel 0 tsStandby 1)
  else if !s.ready then .next (s.count kTel 0 tsBeforeReady 1)
  else
    match s.barTarget offset data.length true with
    | .inl f => .next (s.barRefuse port offset f)
    | .inr (ctx, a) => .next (s.applyWrite (.host port ctx) a data ep)

/-- AtomicOps of Table 10.1: 64-bit FetchAdd, Swap and CAS. -/
def hostAtomic (op : AtomicOp) (bytes : Nat) : Bool :=
  bytes = 8 && match op with
    | .addU64 | .swap | .cas => true
    | .addFp32 | .addBf16 => false

/-- BAR2_ATOMIC: applied at its home, or refused (R310). -/
def execBar2Atomic (port : HostPort) (op : AtomicOp) (offset bytes : Nat) (operand compare : W64) (s : State) :
    Host.Outcome State Fault Refusal :=
  let p := s.port port
  if !p.released || !p.up || !p.inBar2 offset bytes then .next s
  else if !p.active || p.d3hot || !hostAtomic op bytes then .next (s.emit (.unsupported port))
  else if offset % 8 ≠ 0 then .next (s.emit (.malformed port))
  else
    let ones (ep : Bool) := Out.completion port (List.replicate 8 0xFF) ep
    if !s.ready then .next ((s.count kTel 0 tsBeforeReady 1).emit (ones false))
    else
      match s.barTarget offset 8 true with
      | .inl f => .next ((s.barRefuse port offset f).emit (ones false))
      | .inr (ctx, a) =>
        match s.poisonLines a 8 with
        | [] =>
          let r := s.atomicBy (.host port ctx) op a operand compare
          .next (r.1.emit (.completion port (leBytes 8 (r.2.getD 0xFFFFFFFFFFFFFFFF).toNat) false))
        | lines => .next ((s.poisonRead (.host port) lines).emit (ones true))

/-! ### BAR0 windows -/

/-- Slots that the host may write: those of the command rings it owns on P0, the firmware command ring, and the buffers of
mailboxes 0 to 11 (Table 10.3, R308, R351). -/
def State.hostSlot (s : State) (off n : Nat) : Bool :=
  (s.ops.rings.any fun p => p.1 / 64 = 0 && p.2.enabled && p.2.owner = .host && p.2.base ≤ off
      && decide (off + n ≤ p.2.base + 64 * p.2.entries))
    || (offFwCmdRing ≤ off && decide (off + n ≤ offFwRspRing))
    || (offMbxBuffers ≤ off && decide (off + n ≤ offMbxBuffers + 12 * 0x10000))

/-- BAR0_WINDOW_WRITE: applied on the host's behalf (R148), or discarded and counted (R302, R308). -/
def execBar0WindowWrite (port : HostPort) (offset : Nat) (data : List Byte) (s : State) : Host.Outcome State Fault Refusal :=
  let p := s.port port
  if !p.serves || decide (0x4000000 < offset + data.length) then .next s
  else if !p.active then .next (s.count kTel 0 tsStandby 1)
  else if s.hostSlot offset data.length then .next (s.homeStore (baseChan 0) 0 offset data)
  else .next (s.count kTel 0 tsWindow 1)

/-! ### Roles and failover -/

/-- A port's number in events. -/
def portNum : HostPort → Nat
  | .a => 0
  | .b => 1

/-- A PORT event: the port's role and whether it is up. Log: DESIGN CHOICE 78. -/
def State.portEvent (s : State) (p : HostPort) : State :=
  s.event .port (portNum p) [BitVec.ofNat 8 (s.port p).active.toNat, BitVec.ofNat 8 (s.port p).up.toNat]

/-- Vector 69, from the first READY or DEGRADED on (R313). -/
def State.portVector (s : State) : State := if s.ready then s.vector 69 else s

/-- A caller whose port is `p`, moved to the other port. -/
def moveCaller (p : HostPort) : Caller → Caller
  | .host m q => .host m (if q = p then (otherPort p) else q)
  | .fwRing q => .fwRing (if q = p then (otherPort p) else q)
  | c => c

/-- Held vectors of a port that `which` selects go to the other one. -/
def State.movePending (s : State) (p : HostPort) (which : BitVec 256) : State :=
  let held := (s.port p).pending
  (s.modPort p fun q => { q with pending := held &&& ~~~which }).modPort (otherPort p) fun q => { q with pending := q.pending ||| (held &&& which) }

/-- The vectors of rings and commands, 0 to 64 (Table 10.4). -/
def ringVectors : BitVec 256 := BitVec.ofNat 256 (2 ^ 65 - 1)

/-- The rings and commands of a failed port move to the other one, with their held vectors (R315). Log: DEDUCED 79. -/
def State.movePort (s : State) (p : HostPort) : State :=
  let s := (s.modLong (fun _ => true) fun o => { o with caller := moveCaller p o.caller }).movePending p ringVectors
  let onB : Bool := decide ((otherPort p) = .b)
  { s with host := { s.host with
      ringPort := s.ops.rings.foldl (fun m r => if Store.get false m (r.1 % 64) = onB then m else Store.put false m (r.1 % 64) onB) s.host.ringPort } }

/-- Make a port active and the other standby. Log: DEDUCED 79. -/
def State.makeActive (s : State) (p : HostPort) : State :=
  (s.modPort p fun q => { q with active := true }).modPort (otherPort p) fun q => { q with active := false }

/-- The keeper moves the module off a port that went down (R315, Table 10.5): in standby mode the other port becomes active;
in secondary mode its rings and commands move. Log: DEDUCED 79. -/
def State.failover (s : State) (p : HostPort) : State :=
  if !s.keeper.idore || s.host.mode = 0 || !(s.port p).active then s
  else
    let s := if s.host.mode = 1 then (s.makeActive (otherPort p)).movePending p (BitVec.allOnes 256) else s.movePort p
    let s := (s.statusBit stFailover true).modPort (otherPort p) fun q => { q with failovers := q.failovers + 1 }
    (s.portEvent (otherPort p)).portVector

/-- A port goes down (R314, R315). -/
def State.portLost (s : State) (p : HostPort) : State :=
  if !(s.port p).up then s
  else
    let s := s.modPort p fun q => { q with up := false, downs := q.downs + 1 }
    ((s.portEvent p).portVector).failover p

/-- PORT_DOWN: the link enters DL_Down (R315). Log: DEDUCED 79. -/
def execPortDown (port : HostPort) (s : State) : Host.Outcome State Fault Refusal := .next (s.portLost port)

/-- The base die of a port runs, and its position powers the PHY (R13, R15, R170). -/
def State.portOn (s : State) (p : HostPort) : Bool := s.clocked (asBase (portBase p)) && (s.hingeOf (portBase p)).portOn p

/-- PORT_UP: the port trains; a port that failed enumerates as standby, and vector 69 is raised but for the first training of a
start (R313, R315). -/
def execPortUp (port : HostPort) (rate width : Nat) (s : State) : Host.Outcome State Fault Refusal :=
  let p := s.port port
  if !p.released || p.perst || p.up || !s.portOn port then .next s
  else
    let s := (s.modPort port fun q => { q with up := true, rate, width, trained := true, d3hot := false }).portEvent port
    .next (if p.trained then s.portVector else s)

/-- PERST_ASSERT: in single mode and before the profile is read PERST0_N resets the module and PERST1_N is ignored; otherwise
the port's controller and link reset, and the port is down (R314, R466). -/
def execPerstAssert (port : HostPort) (s : State) : Host.Outcome State Fault Refusal :=
  let s := s.modPort port fun q => { q with perst := true }
  if s.singleMode then .next (if port = .a then s.inputReset .perst0Single else s)
  else .next ((s.portLost port).modPort port fun q => { q with released := false, d3hot := false })

/-- The controller of a port may leave reset: port A's once the boot ROM runs, port B's after the profile in a mode that uses it
(Table 11.4, R302). -/
def State.mayRelease (s : State) (p : HostPort) : Bool :=
  match p with
  | .a => s.keeper.rom
  | .b => s.keeper.idore && decide (s.host.mode ≠ 0)

/-- PERST_DEASSERT: the port's controller leaves reset and begins training (R466). -/
def execPerstDeassert (port : HostPort) (s : State) : Host.Outcome State Fault Refusal :=
  let go := s.mayRelease port
  .next (s.modPort port fun q => { q with perst := false, released := q.released || go })

/-- VECTOR_DELIVERY: a held vector is sent once when its port can deliver it (R313). -/
def execVectorDelivery (port : HostPort) (vec : Byte) (s : State) : Host.Outcome State Fault Refusal :=
  let p := s.port port
  if p.pending.getLsbD vec.toNat && p.canSend vec.toNat then
    .next ((s.modPort port fun q => { q with pending := putBit q.pending vec.toNat false }).emit (.msix port vec))
  else .next s

/-! ### Configuration and DOE -/

/-- PCIE_CONFIG_WRITE: the D-state, the size of BAR2 (1 to 64 GiB), and the mask of a vector (R303, R306, R313). Log: PRESUMED 77. -/
def execPcieConfigWrite (port : HostPort) (dstate3 : Option Bool) (barGiBLog : Option Nat) (vecMask : Option (Byte × Bool)) (s : State) :
    Host.Outcome State Fault Refusal :=
  if !(s.port port).released || !(s.port port).up then .next s
  else
    .next (s.modPort port fun q =>
      { q with
        d3hot := dstate3.getD q.d3hot
        barLog := match barGiBLog with | some n => if n ≤ 6 then n else q.barLog | none => q.barLog
        masked := match vecMask with | some (v, m) => putBit q.masked v.toNat m | none => q.masked })

/-- What the configuration headers of both ports report (R305): vendor and device identifiers, class code, revision, and the serial number
of the Device Serial Number capability. -/
structure Identity where
  vendor : BitVec 16
  device : BitVec 16
  classCode : BitVec 24
  revision : BitVec 8
  serial : W64
deriving DecidableEq, Repr

/-- The identity of the module. -/
def State.identity (s : State) : Identity :=
  { vendor := Config.vendorId, device := 0x4D12, classCode := 0x120000, revision := Config.stepping, serial := Store.get 0 s.keeper.serials 0 }

/-- DOE_DISCOVERY_REQUEST: answered with the object types of R303, Discovery and CMA-SPDM (their numbers, 0 and 1, are
PRESUMED: PCI-SIG's). Log: PRESUMED 81. -/
def execDoeDiscoveryRequest (port : HostPort) (_index : Byte) (s : State) : Host.Outcome State Fault Refusal :=
  if (s.port port).released && (s.port port).up then .next (s.emit (.doe port [0, 1])) else .next s

end Sys2Proof.Machine
end

