-- ==== Sys2Proof/Machine/Management.lean ====
section
/-! DEFINITION. Management over MCTP and SMBus (R317–R321) and the firmware update that PLDM and the firmware commands share
(R360, R361). -/

namespace Sys2Proof.Machine

/-! ### MCTP -/

/-- The keeper answers on a binding: Idore runs, and the binding's port is up. -/
def State.bindingUp (s : State) (b : Fin 3) : Bool :=
  s.keeper.idore && match b with
    | 0 => s.host.portA.up
    | 1 => s.host.portB.up
    | 2 => true

/-- Answer an endpoint. -/
def State.answer (s : State) (b : Fin 3) (eid : Byte) (a : MctpAnswer) : State :=
  if s.bindingUp b then s.emit (.mctp b eid a) else s

/-- MCTP_CONTROL_MESSAGE: Set Endpoint ID sets the binding's endpoint ID; other control messages are answered (R317). -/
def execMctpControlMessage (binding : Fin 3) (setEid : Option Byte) (s : State) : Host.Outcome State Fault Refusal :=
  if !s.bindingUp binding then .next s
  else
    match setEid with
    | some e =>
      .next ({ s with host := { s.host with eids := Store.put 0 s.host.eids binding.val e } }.emit (.mctp binding e (.endpointSet e)))
    | none => .next (s.emit (.mctp binding (Store.get 0 s.host.eids binding.val) .control))

/-- MCTP_UNSUPPORTED_TYPE: discarded (R317). -/
def execMctpUnsupportedType (_binding : Fin 3) (_type : Byte) (s : State) : Host.Outcome State Fault Refusal := .next s

/-- SMBUS_LOW_TIMEOUT: SMB_DAT is released and the interface reset (R467). -/
def execSmbusLowTimeout (s : State) : Host.Outcome State Fault Refusal :=
  .next ({ s with host := { s.host with smbusResets := s.host.smbusResets + 1 } }.emit .smbusRelease)

/-! ### PLDM base, sensors and FRU data -/

/-- PLDM_BASE_REQUEST (R319). -/
def execPldmBaseRequest (binding : Fin 3) (eid : Byte) (command : Byte) (s : State) : Host.Outcome State Fault Refusal :=
  .next (s.answer binding eid (.base command))

/-- The module's serial numbers: body, power stage, and both cartridges (R319, CMD_IDENTIFY). -/
def State.serialNumbers (s : State) : List W64 :=
  [Store.get 0 s.keeper.serials 0, Store.get 0 s.keeper.serials 1, s.optics.cart0.serial, s.optics.cart1.serial]

/-- PLDM_FRU_REQUEST (R319). -/
def execPldmFruRequest (binding : Fin 3) (eid : Byte) (s : State) : Host.Outcome State Fault Refusal :=
  .next (s.answer binding eid (.fru s.serialNumbers))

/-- Tumblers reported. -/
def Capacity.allTumblers (c : Capacity) : Nat :=
  ((List.range 12).map fun d => ((List.range (c.wardCount d)).map fun w => c.tumCount d w).sum).sum

/-- The temperature band in force: the highest of any part (R402). -/
def State.topBand (s : State) : Nat := (s.thermal.band.map fun (p : Nat × Nat) => p.2).foldl max 0

/-- A hotspot in 0.1 °C. -/
def State.deci (s : State) (part : Nat) : Int := Store.get 0 s.thermal.hotspot part / 10

/-- What a numeric sensor measures (Table 10.7). -/
def State.measure (s : State) (id : Nat) : Int :=
  let p := s.power
  if id = 1 then Int.ofNat (p.inputMv / 10)
  else if id = 2 then Int.ofNat (if p.inputMv = 0 then 0 else p.inputMw * 100 / p.inputMv)
  else if id = 3 then Int.ofNat (p.inputMw / 1000)
  else if 16 ≤ id ∧ id < 28 then s.deci (id - 16)
  else if 32 ≤ id ∧ id < 38 then s.deci (id - 32 + 12)
  else if 48 ≤ id ∧ id < 60 then s.deci (id - 48 + 18)
  else if id = 64 ∨ id = 65 then s.deci (id - 64 + 38)
  else if id = 81 then Int.ofNat ((List.range 64).filter fun l => (s.link l).state = .active).length
  else if id = 82 then Int.ofNat s.faults.capacity.allTumblers
  else if id = 83 then Int.ofNat (((List.range 12).map fun k => s.faults.capacity.pageCount k).sum / 16)
  else 0

/-- Numeric sensors of Table 10.7. -/
def numericSensors : List Nat :=
  [1, 2, 3] ++ (List.range 12).map (· + 16) ++ (List.range 6).map (· + 32) ++ (List.range 12).map (· + 48) ++ [64, 65, 81, 82, 83]

/-- Update the numeric sensors at a boundary (R320). -/
def State.updateSensors (s : State) : State :=
  { s with tel := { s.tel with sensors := numericSensors.foldl (fun m i => Store.put 0 m i (s.measure i)) s.tel.sensors } }

/-- The source of a sensor works (R320). -/
def State.sensorThere (s : State) (id : Nat) : Bool :=
  if 16 ≤ id ∧ id < 28 then !s.faults.padlocked.contains (dieChan (id - 16))
  else if 32 ≤ id ∧ id < 38 then s.dieCounts (id - 32) && !s.faults.padlocked.contains (baseChan (id - 32))
  else if 48 ≤ id ∧ id < 60 then !(s.stack (id - 48)).padlocked
  else if id = 64 ∨ id = 65 then (s.cart (id - 64)).present
  else numericSensors.contains id || id = 80 || id = 84

/-- A sensor's reading: numeric ones as of the last boundary, state sensors as they are. -/
def State.reading (s : State) (id : Nat) : Int :=
  if id = 80 then Int.ofNat s.topBand
  else if id = 84 then Int.ofNat s.modState.code
  else Store.get 0 s.tel.sensors id

/-- PLDM_SENSOR_REQUEST: a sensor of Table 10.7, or the PDR repository (R320). Log: DESIGN CHOICE 82. -/
def execPldmSensorRequest (binding : Fin 3) (eid : Byte) (sensor : Option (BitVec 16)) (s : State) : Host.Outcome State Fault Refusal :=
  match sensor with
  | none => .next (s.answer binding eid .repository)
  | some id =>
    let there := s.sensorThere id.toNat
    .next (s.answer binding eid (.sensor id there (if there then s.reading id.toNat else 0)))

/-! ### Firmware update -/

/-- The part whose image does not run. -/
def State.idlePart (s : State) : Nat := imagePart (!s.keeper.imageB)

/-- Begin an update: the slot's header is marked invalid first (R360), and the status word shows the update (R361). -/
def State.beginUpdate (s : State) (holder : Updater) : State :=
  let s := s.modPart s.idlePart fun p => { p with slotValid := false, verified := false, package := [] }
  { s with keeper := { s.keeper with update := some { holder, written := 0 } } }.statusBit stUpdate true

/-- Bytes of a package into the slot. Log: DEDUCED 103. -/
def State.writeSlot (s : State) (data : List Byte) : State :=
  let s := s.modPart s.idlePart fun p => { p with package := p.package ++ data }
  { s with keeper := { s.keeper with update := s.keeper.update.map fun u => { u with written := u.written + data.length } } }

/-- The slot's header is written last (R360). -/
def State.closeSlot (s : State) : State := s.modPart s.idlePart fun p => { p with slotValid := true }

/-- Verify the slot (R428); answers the step that fails. -/
def State.verifySlot (s : State) : State × Option Nat :=
  let f := s.slotFault s.idlePart
  let s := s.modPart s.idlePart fun p => { p with verified := f.isNone }
  (s, f)

/-- The update ends. -/
def State.endUpdate (s : State) : State := { s with keeper := { s.keeper with update := none } }.statusBit stUpdate false

/-- An update is abandoned: its slot is left invalid (R361). -/
def State.abandonUpdate (s : State) : State :=
  (s.modPart s.idlePart fun p => { p with slotValid := false, verified := false }).endUpdate

/-- Activation writes the boot records with the new image preferred, on trial (R360). -/
def State.activate (s : State) : State :=
  (s.putBootRecord { s.bootRecord with preferB := !s.keeper.imageB, trial := true, trialStarts := 0 }).endUpdate

/-- The endpoint holds the update. Log: DESIGN CHOICE 83. -/
def State.holdsUpdate (s : State) (b : Fin 3) (e : Byte) : Bool :=
  match s.keeper.update with
  | some u => decide (u.holder = .pldm b e)
  | none => false

/-- PLDM_REQUEST_UPDATE: an update begins, and the module asks for its data; or another is in progress (R321).
A module that has lost a flash part refuses (R338). Log: DESIGN CHOICE 82. -/
def execPldmRequestUpdate (binding : Fin 3) (eid : Byte) (s : State) : Host.Outcome State Fault Refusal :=
  if !s.bindingUp binding then .next s
  else if s.keeper.update.isSome || s.keeper.longOps.any (fun o => isUpdate o.code) then .next (s.answer binding eid .alreadyInUpdate)
  else if (s.part 0).out || (s.part 1).out then .next (s.answer binding eid .updateRefused)
  else .next (((s.beginUpdate (.pldm binding eid)).answer binding eid .updateAccepted).answer binding eid (.requestFirmwareData 0))

/-- The package of the slot is complete, or its header cannot be one (Table 15.2). -/
def packageWhole (p : List Byte) : Bool :=
  0x2C ≤ p.length && (pkgTotal p < 0x1000 || decide (0x1000000 < pkgTotal p) || decide (pkgTotal p ≤ p.length))

/-- PLDM_FIRMWARE_DATA: the data asked for are written; a whole package is verified, and VerifyComplete reports the outcome
(R321, R360). Log: DESIGN CHOICE 82. -/
def execPldmFirmwareData (binding : Fin 3) (eid : Byte) (offset : Nat) (data : List Byte) (s : State) : Host.Outcome State Fault Refusal :=
  if !s.bindingUp binding then .next s
  else if !s.holdsUpdate binding eid then .next (s.answer binding eid .notInUpdate)
  else
    match s.keeper.update with
    | some u =>
      if offset ≠ u.written || (s.part s.idlePart).slotValid then .next (s.answer binding eid (.requestFirmwareData u.written))
      else
        let s := s.writeSlot data
        if packageWhole (s.part s.idlePart).package then
          let r := s.closeSlot.verifySlot
          .next (r.1.answer binding eid (.verifyComplete r.2.isNone))
        else .next (s.answer binding eid (.requestFirmwareData (u.written + data.length)))
    | none => .next s

/-- PLDM_ACTIVATE_FIRMWARE: the boot records are written for trial, and a reset is needed (R321, R360). -/
def execPldmActivateFirmware (binding : Fin 3) (eid : Byte) (s : State) : Host.Outcome State Fault Refusal :=
  if !s.bindingUp binding then .next s
  else if !s.holdsUpdate binding eid then .next (s.answer binding eid .notInUpdate)
  else if !(s.part s.idlePart).verified then .next (s.answer binding eid .updateRefused)
  else .next (s.activate.answer binding eid .activatePending)

/-- PLDM_CANCEL_UPDATE: the update in progress ends (R321). -/
def execPldmCancelUpdate (binding : Fin 3) (eid : Byte) (s : State) : Host.Outcome State Fault Refusal :=
  if !s.bindingUp binding then .next s
  else if !s.holdsUpdate binding eid then .next (s.answer binding eid .notInUpdate)
  else .next (s.abandonUpdate.answer binding eid .updateCancelled)

/-- UPDATE_IDLE_TIMEOUT: an update with no command for 60 s is abandoned (R361). -/
def execUpdateIdleTimeout (s : State) : Host.Outcome State Fault Refusal :=
  if s.keeper.update.isSome && !s.keeper.longOps.any (fun o => isUpdate o.code) then .next s.abandonUpdate else .next s

end Sys2Proof.Machine
end

