-- ==== Sys2Proof/Machine/TelemetryOps.lean ====
section
/-! DEFINITION. Telemetry (R322–R328): the boundary and its records, the interval, timestamp reads and reads of RC
registers. -/

namespace Sys2Proof.Machine

/-! ### Records -/

/-- A source of telemetry records (Table 10.9). -/
structure Source where
  kind : Nat
  index : Nat
  ctx : Option Nat
  count : Nat
  /-- Padlocked, absent or reset in the interval. -/
  part : Bool
deriving DecidableEq, Repr

/-- Latched counters of a source, in order. -/
def State.sourceCounters (s : State) (x : Source) : List Nat :=
  (List.range x.count).map fun k => Store.get 0 s.tel.latched (counterKey x.kind x.index (x.ctx.getD 0) k)

/-- Key of a source's dropped records. -/
def Source.key (x : Source) : Nat := (x.kind * 65536 + x.index) * 1024 + x.ctx.getD 0

/-- Counters that a record carries but no event of the model measures: the energies of R410 are free values. Log: DESIGN CHOICE 84. -/
def State.filled (s : State) (x : Source) : List Nat × Nat :=
  let cs := s.sourceCounters x
  if x.kind = 8 then
    let f (i : Nat) : Nat := (Config.freeValue (s.freeIx + i)).toNat % 2 ^ 32
    (f 0 :: (if x.index = 0 then f 1 else 0) :: cs.drop 2, 2)
  else (cs, 0)

/-- A record's bytes (Table 10.8). Log: DESIGN CHOICE 84. -/
def State.recordBytes (s : State) (x : Source) (cs : List Nat) (cycles : Nat) : List Byte :=
  let sat := ((List.range cs.length).map fun k => if cs.getD k 0 = 0xFFFFFFFF then 2 ^ k else 0).sum
  let h := s.tel.timestamp.toNat + s.tel.index.toNat * 2 ^ 128 + cycles % 2 ^ 32 * 2 ^ 160 + s.moduleId.toNat * 2 ^ 192 + 2 ^ 232
    + x.kind * 2 ^ 240 + x.index * 2 ^ 246 + x.count * 2 ^ 262 + x.ctx.getD 0 * 2 ^ 270 + x.ctx.isSome.toNat * 2 ^ 280
    + x.part.toNat * 2 ^ 281 + (64 + 4 * x.count) * 2 ^ 288 + min 0xFFFF (Store.get 0 s.tel.dropped x.key) * 2 ^ 304 + sat * 2 ^ 320
  let body := (cs.map fun c => leBytes 4 c).flatten
  leBytes 64 h ++ body ++ List.replicate ((64 - body.length % 64) % 64) 0

/-- Write the record of a source, or count it dropped (R327). Log: DESIGN CHOICE 84. -/
def State.writeRecord (s : State) (cycles : Nat) (x : Source) : State :=
  if !s.tel.ctrl.getLsbD x.kind then s
  else
    let c := s.filled x
    let s := { s with freeIx := s.freeIx + c.2 }
    let r := s.ringRecord (s.recordBytes x c.1 cycles)
    if r.2 then { r.1 with tel := { r.1.tel with dropped := Store.put 0 r.1.tel.dropped x.key 0 } }.count kTel 0 0 1
    else
      let n := Store.get 0 s.tel.dropped x.key
      { s with tel := { s.tel with dropped := Store.put 0 s.tel.dropped x.key (n + 1) } }.countDropped

/-- Compute dies and contexts whose counters of Table 3.9 are not all 0. -/
def State.computeSources (s : State) : List Source :=
  let keys := (s.tel.latched.map fun p => p.1 / 64).eraseDups.filter fun k => k / 1024 / 65536 = 1
  keys.map fun k => { kind := 1, index := k / 1024 % 65536, ctx := some (k % 1024), count := 8, part := s.isPadlocked (dieChan (k / 1024 % 65536)) }

/-- The edge at a die's port is open. -/
def State.edgeCounts (s : State) (d p : Nat) : Bool :=
  (List.range 7).any fun e => (edgeSource e true = 4 * d + p || decide (edgeSource e false = 4 * d + p)) && decide ((s.edge e).state = .opened)

/-- Sources of a boundary's records, in ascending kind and index (R327). Log: DESIGN CHOICE 84. -/
def State.sources (s : State) : List Source :=
  s.computeSources
    ++ ((List.range 64).map fun l => { kind := 2, index := l, ctx := none, count := 27, part := decide ((s.link l).state = .absent) })
    ++ ((List.range 6).map fun d => ((List.range 4).filter fun p => (List.range 7).any fun e =>
        (edgeSource e true = 4 * d + p) || decide (edgeSource e false = 4 * d + p)).map fun p =>
          ({ kind := 3, index := 4 * d + p, ctx := none, count := 3, part := !s.edgeCounts d p } : Source)).flatten
    ++ ((List.range 12).map fun k => { kind := 4, index := k, ctx := none, count := 5, part := (s.stack k).padlocked })
    ++ ((List.range 8).map fun e => { kind := 5, index := e, ctx := none, count := 9, part := (s.site e).closed })
    ++ ((s.ops.rings.filter fun p => p.2.enabled).map fun p => { kind := 6, index := p.1, ctx := none, count := 3, part := false })
    ++ ((List.range 6).map fun d => { kind := 7, index := d, ctx := none, count := 10, part := !s.dieCounts d })
    ++ (List.range 6).map fun d => { kind := 8, index := d, ctx := none, count := 14, part := !s.dieCounts d }

/-! ### Start progress -/

/-- Links that sites serve, by state. -/
def State.linksIn (s : State) (p : Link → Bool) : Nat := ((List.range 64).filter fun l => p (s.link l)).length

/-- MBX_START (Table 11.5). -/
def State.startWord (s : State) : W64 :=
  let n (b : Nat) (k : Nat) : Nat := b * 2 ^ k
  let tested := ((List.range 8).map fun e => (s.engine e).tested.length).sum
  let edges := ((List.range 7).filter fun e => decide ((s.edge e).state = .opened)).length
  let trained := ((List.range 12).filter fun k => (s.stack k).trained).length
  let dies := (if s.keeper.idore then 1 else 0) + ((List.range 6).filter fun d => (s.latch d).running).length
  BitVec.ofNat 64 (n (s.linksIn fun l => l.waitReported && decide (l.state ≠ .active)) 40 + n (s.linksIn fun l => l.state = .active) 32
    + n tested 24 + n (s.linksIn fun l => l.state ≠ .absent) 16 + n edges 8 + n trained 4 + dies)

/-- MBX_START is updated at each boundary until ready, and holds its last values from then on (R343). -/
def State.updateStart (s : State) : State :=
  if field s.keeper.status 24 4 < 9 then { s with keeper := { s.keeper with start := s.startWord } } else s

/-! ### The boundary -/

/-- A family with each entry changed by `f`, in canonical form. -/
def mapStore {α : Type} [DecidableEq α] (d : α) (f : α → α) (m : Store α) : Store α :=
  m.foldr (fun p t => Store.put d t p.1 (f p.2)) []

/-- Counts of an interval that conditions of other chapters read restart: transients (R365), isolation tests (R182), releases
(R212) and tag failures (R274). -/
def State.restartCounts (s : State) : State :=
  let group (g : GroupState) : GroupState := { g with clean := 0 }
  { s with
    faults := { s.faults with transients := [] }
    d2d := { s.d2d with edges := mapStore Edge.reset (fun e =>
      { e with groupsUp := mapStore GroupState.reset group e.groupsUp, groupsDown := mapStore GroupState.reset group e.groupsDown }) s.d2d.edges }
    optics := { s.optics with engines := mapStore Engine.reset (fun e =>
      { e with rings := mapStore OptRing.reset (fun r => { r with releases := 0 }) e.rings }) s.optics.engines }
    domain := { s.domain with links := mapStore Link.reset (fun l => { l with tagFails := 0 }) s.domain.links } }

/-- The next multiple of the interval after a count. -/
def nextBoundary (now cycles : Nat) : Nat := (now / cycles + 1) * cycles

/-- The keeper's part of a boundary: the records, vector 67, the sensors and the progress of long operations (R320, R324,
R356). -/
def State.report (s : State) (cycles : Nat) : State :=
  if !s.keeper.idore then s
  else
    let s := if s.keeper.eventRing then (s.sources.foldl (fun t x => t.writeRecord cycles x) s).vector 67 else s
    let s := s.updateSensors.advanceScrubs
    s.keeper.longOps.foldl State.publishLong s

/-- A controller reads its stack's on-die corrections and ECS counts of the interval (R146). Log: DESIGN CHOICE 173. -/
def State.readStackCounts (s : State) (k : Nat) : State :=
  if (s.stack k).trained && !(s.stack k).padlocked then
    ((s.count 4 k 3 (s.fresh.toNat % 2 ^ 32)).count 4 k 4 (s.spend.fresh.toNat % 2 ^ 32)).spend.spend
  else s

/-- A link's times of the interval with a VC XOFF, by VC, and with every VC XOFF under the pool guard, in ns (R278): the hardware measures
them, so they are free values. Log: DESIGN CHOICE 42. -/
def State.readXoff (s : State) (l : Nat) : State :=
  if (s.link l).state = .active then
    (List.range 9).foldl (fun t i => (t.countLink l (8 + i) (t.fresh.toNat % 2 ^ 32)).spend) s
  else s

/-- What the hardware has measured in the interval that ends. -/
def State.readHardware (s : State) : State :=
  (List.range 64).foldl State.readXoff ((List.range 8).foldl State.settleLasers ((List.range 12).foldl State.readStackCounts s))

/-- TELEMETRY_BOUNDARY: the timestamp counter reaches the next multiple of the interval; counters latch and restart (R323,
R324). -/
def execTelemetryBoundary (s : State) : Host.Outcome State Fault Refusal :=
  if !(s.base 0).pllLocked then .next s
  else
    let s := s.readHardware
    let t := s.tel
    let cycles := t.interval * 1440
    let s := { s with tel := { t with
      timestamp := BitVec.ofNat 64 (nextBoundary t.timestamp.toNat cycles), latched := t.live, live := [], index := t.index + 1
      interval := t.nextInterval } }
    .next (s.restartCounts.updateStart.report cycles)

/-! ### Interval, timestamp and RC registers -/

/-- An agent that writes a register of BAR0: the host through a port that is active and serves; a standby port's writes are
discarded and counted (R302). -/
def State.hostWrite (s : State) (agent : Agent) (act : State → State) : State :=
  match agent with
  | .host p =>
    if !(s.port p).serves then s
    else if !(s.port p).active then s.count kTel 0 tsStandby 1
    else act s
  | .keeper => act s
  | _ => s

/-- TEL_INTERVAL_WRITE: clamped to 100 to 1,000,000 µs, in force from the next boundary (R323). -/
def execTelIntervalWrite (agent : Agent) (us : W32) (s : State) : Host.Outcome State Fault Refusal :=
  .next (s.hostWrite agent fun s => { s with tel := { s.tel with nextInterval := min 1000000 (max 100 us.toNat) } })

/-- An agent can read registers of BAR0 (R302), or is the keeper. -/
def State.reads (s : State) : Agent → Bool
  | .host p => (s.port p).serves
  | .keeper | .console => true
  | .core _ => false

/-- TEL_TIMESTAMP_READ: one 64-bit read, or a 32-bit read of the lower word, which latches the upper one for its next read
(R322). An application core reads the counter in its local range. Log: DESIGN CHOICE 87. -/
def execTelTimestampRead (agent : Agent) (bytes : Nat) (upper : Bool) (s : State) : Host.Outcome State Fault Refusal :=
  let t := s.tel.timestamp
  match agent with
  | .core c => .next (s.emit (.coreData c (leBytes 8 t.toNat)))
  | _ =>
    if !s.reads agent then .next s
    else if 8 ≤ bytes then .next (s.emit (.registerRead agent .telTimestamp [t.toNat]))
    else if upper then .next (s.emit (.registerRead agent .telTimestamp [s.tel.upperLatch.toNat]))
    else
      let s := { s with tel := { s.tel with upperLatch := (t >>> 32).setWidth 32 } }
      .next (s.emit (.registerRead agent .telTimestamp [t.toNat % 2 ^ 32]))

/-- Source numbers of a run of counters. -/
def counters (kind src n : Nat) : List Nat := (List.range n).map fun k => counterKey kind src 0 k

/-- The counters that an RC register reports, in the order its table lists them (R325). Log: DESIGN CHOICE 143. -/
def rcKeys : Reg → List Nat
  | .telStat => counters kTel 0 5
  | .opxRingStat d r => counters 6 (ringKeyOf d r) 3
  | .hbmEccStat k => counters 4 k.val 5
  | .d2dRetryStat d p => counters 3 (4 * d.val + portIx p) 3
  | .optFecStat e => ((List.range 9).map fun f => ((List.range 16).map fun i => counters kFec (fecLane e.val f i) 2).flatten).flatten
  | .optEventStat e => counters 5 e.val 7
  | .lnkStat l => counters 2 l.val 27
  | .domStat d => counters 7 d.val 10
  | .fltQueueOverflow => counters kFlt 6 6
  | .fltStat d => counters kFlt d.val 4
  | .pwrTripStat d => ((List.range 0x80).map fun r => counterKey kPwr d.val r 0) ++ [counterKey kPwr d.val 0 1]
  | .thmStat d => counters kThm d.val 3
  | .calStat d => counters kCal d.val 4
  | .secSpdmStat => counters kSpdm 0 5
  | _ => []

end Sys2Proof.Machine
end

