-- ==== Sys2Proof/Machine/Commands.lean ====
section
/-! DEFINITION. Firmware commands of Table 11.14, first part: headers, identity, ports, reset and service hold, contexts, rings,
BAR2 segments, application cores and micro-images. Where a chapter gives a command's result no layout, the words are in the
order in which Table 11.14 names them. -/

namespace Sys2Proof.Machine

/-- Mark a refused doorbell or write in DBL_MBX_LOST (R350). -/
def State.markLost (s : State) (m : Nat) : State :=
  { s with keeper := { s.keeper with lost := putBit s.keeper.lost m true } }

/-- A doorbell to mailbox `m`: latched until the keeper takes it, or refused while the mailbox is busy (R349, R350).
Log: DEDUCED 88. -/
def State.ringMailbox (s : State) (m : Nat) : State :=
  if s.mbxBusy m then s.markLost m
  else { s with keeper := { s.keeper with rung := putBit s.keeper.rung m true } }

/-! ### Objects -/

/-- End a command by a status, with no result. -/
def refused (s : State) (st : FwStatus) : State × Answer := (s, .fail st [])

/-- A command's context argument: an ID out of range is BAD_ARGS (R483). -/
def ctxArg (c : BitVec 16) : Option CtxId := if h : c.toNat < 1024 then some ⟨c.toNat, h⟩ else none

/-- The context a command names must be Open: Free ends NOT_FOUND and every other state STATE (R477, R309, R350). Log: DEDUCED 101. -/
def State.openContext (s : State) (c : BitVec 16) : FwStatus ⊕ CtxId :=
  match ctxArg c with
  | none => .inl .badArgs
  | some i =>
    match (s.context i.val).state with
    | .opened => .inr i
    | .free => .inl .notFound
    | _ => .inl .state

/-- The keeper takes the command and its checks pass: it reaches its own effect (R483). -/
def State.accepts (s : State) (h : CmdHdr) (code : CmdCode) : Bool :=
  s.canTake h.caller && !(match callerMbx h.caller with | some m => s.mbxBusy m.val | none => false)
    && (s.commandFault h code).isNone

/-! ### Headers -/

/-- RESERVED_COMMAND_CODE: BAD_CODE (R355, R483). -/
def execReservedCommandCode (h : CmdHdr) (_code : Byte) (s : State) : Host.Outcome State Fault Refusal :=
  if !s.canTake h.caller then
    .next (match callerMbx h.caller with | some m => s.ringMailbox m.val | none => s)
  else
    match callerMbx h.caller with
    | some m =>
      if s.mbxBusy m.val then .next (s.markLost m.val)
      else .next ((s.takeDoorbell h.caller).endCommand h .failed .badCode 0 [] [])
    | none => .next (s.endCommand h .failed .badCode 0 [] [])

/-- Caller of a mailbox whose header the keeper cannot read: the owner by Table 11.8. The port of a host mailbox is the active
one. -/
def State.mailboxCaller (s : State) (m : MbxIx) : Caller :=
  if h : m.val < 12 then .host ⟨m.val, h⟩ (s.vectorPort .a)
  else if m.val = 15 then .console
  else .mctp (Fin.ofNat 3 (m.val - 12)) (Store.get 0 s.host.eids (m.val - 12))

/-- MBX_HEADER_ABSENT: the halves of MBX_CMD disagree, so the command ends FAILED with HEADER_ABSENT and CRIT_ABSENT_SUBMIT is
raised (R349, R363). Log: DESIGN CHOICE 90. -/
def execMbxHeaderAbsent (mbx : MbxIx) (s : State) : Host.Outcome State Fault Refusal :=
  if !s.keeper.idore then .next (s.ringMailbox mbx.val)
  else if s.mbxBusy mbx.val then .next (s.markLost mbx.val)
  else
    let c := s.mailboxCaller mbx
    let s := (s.takeDoorbell c).criticalAbsent 0 (baseChan 0) (registerDetail 0 (0x100 * mbx.val)) true
    .next (s.endCommand { caller := c, seq := 0, buffer := false, userTag := 0, argsOk := true } .failed .headerAbsent 0 [] [])

/-! ### Identity, status, ports and reset -/

/-- The part number of R1 as ASCII. -/
def partNumber : List Byte := asciiBytes "CK-GM12-64A"

/-- Release number of each image slot, 0 where it holds no valid package. -/
def State.slotVersion (s : State) (k : Nat) : Nat := if (s.part k).slotValid then pkgVersion (s.part k).package else 0

/-- CMD_IDENTIFY (R355). Words: boot count, module ID, versions of images A and B; the output holds the part number in 16 bytes,
the four serial numbers and the same words. Log: DESIGN CHOICE 104. -/
def execCmdIdentify (h : CmdHdr) (s : State) : Host.Outcome State Fault Refusal :=
  .next (s.runCommand h .identify fun s =>
    let ws := [s.keeper.bootCount.setWidth 64, s.moduleId.setWidth 64, BitVec.ofNat 64 (s.slotVersion 0), BitVec.ofNat 64 (s.slotVersion 1)]
    (s, .done ws (padTo 16 partNumber ++ (s.serialNumbers ++ ws).flatMap fun w => leBytes 8 w.toNat)))

/-- CMD_STATUS_ACK clears the bits named (R344). Log: DESIGN CHOICE 104. -/
def execCmdStatusAck (h : CmdHdr) (failover capacityChanged : Bool) (s : State) : Host.Outcome State Fault Refusal :=
  .next (s.runCommand h .statusAck fun s =>
    let s := if failover then s.statusBit stFailover false else s
    (if capacityChanged then s.statusBit stCapacity false else s, .done [] []))

/-- Operations that CMD_CANCEL stops (Table 11.15); an image installation only before its first region write. -/
def LongOp.cancellable (o : LongOp) : Bool :=
  match o.kind with
  | .teardown _ | .holdEnter | .holdLeave => false
  | .imageInstall _ _ _ _ => decide (o.done = 0)
  | _ => true

/-- The operation that runs in a mailbox. -/
def State.longIn (s : State) (m : MbxIx) : Option LongOp := s.keeper.longOps.find? fun o => o.mbx = m

/-- CMD_CANCEL: a cancellable operation will stop at its next safe point; otherwise STATE (R358). Log: DESIGN CHOICE 90. -/
def execCmdCancel (h : CmdHdr) (mbx : MbxIx) (s : State) : Host.Outcome State Fault Refusal :=
  .next (s.runCommand h .cancel fun s =>
    match s.longIn mbx with
    | some o =>
      if o.cancellable then (s.modLong (fun x => x.mbx = mbx) fun x => { x with cancelling := true }, .done [] [])
      else refused s .state
    | none => refused s .state)

/-- CMD_FM_NAME names the fabric manager's endpoint and binding (R318). -/
def execCmdFmName (h : CmdHdr) (binding : Fin 3) (eid : Byte) (s : State) : Host.Outcome State Fault Refusal :=
  .next (s.runCommand h .fmName fun s => ({ s with host := { s.host with fm := some (binding, eid) } }, .done [] []))

/-- CMD_PORT_ROLE: in standby mode, a port that is up becomes the active one and takes the held vectors (R315); otherwise
STATE. -/
def execCmdPortRole (h : CmdHdr) (active : HostPort) (s : State) : Host.Outcome State Fault Refusal :=
  .next (s.runCommand h .portRole fun s =>
    if s.host.mode ≠ 1 ∨ !(s.port active).up then refused s .state
    else if (s.port active).active then (s, .done [] [])
    else ((((s.makeActive active).movePending (otherPort active) (BitVec.allOnes 256)).portEvent active).portVector, .done [] []))

/-- CMD_RESET is answered DONE; the status word reads RESETTING and the reset follows (R359, R383). Log: DESIGN CHOICE 90. -/
def execCmdReset (h : CmdHdr) (_cause : W32) (s : State) : Host.Outcome State Fault Refusal :=
  let t := s.runCommand h .reset fun s => (s, .done [] [])
  .next (if s.accepts h .reset then t.beginReset .cmdReset else t)

/-! ### Service hold -/

/-- A running operation of a kind. -/
def State.runs (s : State) (p : LongKind → Bool) : Bool := s.keeper.longOps.any fun o => p o.kind

/-- Entering or leaving the hold. -/
def isHoldOp : LongKind → Bool
  | .holdEnter | .holdLeave => true
  | _ => false

/-- A calibration run. -/
def isCalRun : LongKind → Bool
  | .calRun _ _ _ => true
  | _ => false

/-- Darken every engine: lasers off, rings parked, migrations abandoned, links ABSENT (R228, R236). Log: DESIGN CHOICE 91. -/
def State.darkenAll (s : State) : State :=
  (List.range 8).foldl (fun t e =>
    (engineLinks e).foldl (fun u l => u.setLinkState l .absent) (t.modEngine e darkenEngine)) s

/-- CMD_SERVICE_HOLD enter: STATE unless READY or DEGRADED with every context Free; the engines go dark (R355, R236).
Log: DESIGN CHOICE 91. -/
def execCmdServiceHoldEnter (h : CmdHdr) (s : State) : Host.Outcome State Fault Refusal :=
  .next (s.runCommand h .serviceHold fun s =>
    let busy := s.ops.contexts.any fun p => decide (p.2.state ≠ .free)
    if (s.modState ≠ .ready ∧ s.modState ≠ .degraded) ∨ busy ∨ s.runs isHoldOp then refused s .state
    else (s.darkenAll, .running .holdEnter 8 8 0 0 0))

/-- CMD_SERVICE_HOLD leave: STATE outside the hold or while a calibration runs (R422); cartridges are read, and the optics of
every trained site start again (R452). -/
def execCmdServiceHoldLeave (h : CmdHdr) (s : State) : Host.Outcome State Fault Refusal :=
  .next (s.runCommand h .serviceHold fun s =>
    if s.modState ≠ .serviceHold ∨ s.runs isCalRun ∨ s.runs isHoldOp then refused s .state
    else
      let es := (List.range 8).filter fun e => (s.site e).trained && !(s.site e).closed
      (es.foldl State.startOptics s, .running .holdLeave 0 8 0 0 0))

/-! ### Contexts -/

/-- Pages of a stack withdrawn within a run of its offsets. -/
def Stack.withdrawnIn (k : Stack) (off n : Nat) : Bool := k.withdrawn.any fun w => w * 65536 < off + n && decide (off < (w + 1) * 65536)

/-- Withdrawn pages of the interleaved window that a region includes. -/
def State.spreadWithdrawn (s : State) (r : Region) : Bool :=
  s.mem.hbm.any fun p => p.2.withdrawn.any fun w =>
    (47 - s.mem.share) * gib ≤ w * 65536
      && (List.range 16).any fun j => inRegion r (s.addrOf p.1 (w * 65536 + j * 4096)) 4096

/-- A region that CMD_CTX_CREATE accepts (R101): 4 KiB-aligned, not empty, within one range of Table 5.1, in shelf SRAM within
general space, with no withdrawn page or block. -/
def State.regionOk (s : State) (r : Region) : Bool :=
  let a := r.base.toNat
  let n := r.len
  let spread := s.mem.interleave.length
  if n = 0 || a % 4096 ≠ 0 || decide (n % 4096 ≠ 0) then false
  else if a < 12 * (64 * gib) then
    let k := s.stack (a / (64 * gib))
    let off := a % (64 * gib)
    off + n ≤ (47 - s.mem.share) * gib && !k.padlocked && !k.withdrawnIn off n
  else if 0x010000000000 ≤ a ∧ a < 0x020000000000 then
    let off := a - 0x010000000000
    off + n ≤ spread * s.mem.share * gib
      && ((List.range (min (n / 4096) spread)).all fun i => !(s.stack (s.mem.interleave.getD ((off / 4096 + i) % spread) 0)).padlocked)
      && !s.spreadWithdrawn r
  else if 0x020000000000 ≤ a ∧ a < 0x020060000000 then
    let d := (a - 0x020000000000) / 0x10000000
    let off := (a - 0x020000000000) % 0x10000000
    s.dieCounts d && areaOf d off = .general && decide (off + n ≤ 0x10000000)
      && !((s.shelf d).withdrawn ++ (s.shelf d).blockRemap.map fun p => p.2).any fun b => b * 4096 < off + n && decide (off < (b + 1) * 4096)
  else false

/-- CMD_CTX_CREATE: the lowest free ID opens with its present generation (R100, R101). -/
def execCmdCtxCreate (h : CmdHdr) (regions : List Region) (seed : W64) (drainMs : Nat) (domain : Bool) (cores : BitVec 24) (s : State) :
    Host.Outcome State Fault Refusal :=
  .next (s.runCommand h .ctxCreate fun s =>
    if 10000 < drainMs ∨ 64 < regions.length ∨ !(regions.all s.regionOk) then refused s .badArgs
    else
      match (List.finRange 1024).find? fun i => decide (i.val ≠ 0 ∧ (s.context i.val).state = .free) with
      | none => refused s .noResource
      | some i =>
        let s := s.modContext i.val fun c =>
          { Context.reset with gen := c.gen, regions, seed, drainMs := if drainMs = 0 then 10 else drainMs, domain, cores }
        (s.setCtxState i .opened, .done [BitVec.ofNat 64 i.val, (s.context i.val).gen.setWidth 64] []))

/-- CMD_CTX_TEARDOWN: an Open context begins its teardown; one that is Draining shows the first teardown's progress (R125,
R129, R350). Log: DEDUCED 101. -/
def execCmdCtxTeardown (h : CmdHdr) (ctx : BitVec 16) (s : State) : Host.Outcome State Fault Refusal :=
  .next (s.runCommand h .ctxTeardown fun s =>
    match ctxArg ctx with
    | none => refused s .badArgs
    | some i =>
      let c := s.context i.val
      let run (t : State) : State × Answer :=
        match (t.context i.val).teardown with
        | some td => (t, .running (.teardown i) 0 (regionBytes c.regions) (t.teardownWord i td) (BitVec.ofNat 64 td.fences.length)
            (BitVec.ofNat 64 (td.stragglers + td.aborted * 2 ^ 32)))
        | none => refused t .state
      match c.state with
      | .opened => run (s.beginTeardown i)
      | .draining => run s
      | .free => refused s .notFound
      | _ => refused s .state)

/-- CMD_CTX_QUERY (R355): state, generation, counts of regions and rings; the output lists the regions and the rings.
Log: DESIGN CHOICE 104. -/
def execCmdCtxQuery (h : CmdHdr) (ctx : BitVec 16) (s : State) : Host.Outcome State Fault Refusal :=
  .next (s.runCommand h .ctxQuery fun s =>
    match ctxArg ctx with
    | none => refused s .badArgs
    | some i =>
      let c := s.context i.val
      let ks := s.ringsOf i
      (s, .done [BitVec.ofNat 64 c.state.code, c.gen.setWidth 64, BitVec.ofNat 64 c.regions.length, BitVec.ofNat 64 ks.length]
        ((c.regions.flatMap fun r => leBytes 8 r.base.toNat ++ leBytes 8 r.len) ++ ks.flatMap fun k => leBytes 8 k)))

/-- CMD_CTX_RELEASE: every unreturned fence counts as a straggler and its target module is logged; the scrub begins (R298,
Table 4.1). Log: DEDUCED 101. -/
def execCmdCtxRelease (h : CmdHdr) (ctx : BitVec 16) (s : State) : Host.Outcome State Fault Refusal :=
  .next (s.runCommand h .ctxRelease fun s =>
    match ctxArg ctx with
    | none => refused s .badArgs
    | some i =>
      match (s.context i.val).state, (s.context i.val).teardown with
      | .quarantined, some td =>
        let s := td.fences.foldl (fun t m => t.logEvent ("fence released, module " ++ toString m.toNat)) s
        let s := s.modTeardown i fun x => { x with stragglers := x.stragglers + x.fences.length, fences := [] }
        (s.enterScrub i, .done [BitVec.ofNat 64 td.fences.length] [])
      | .free, _ => refused s .notFound
      | _, _ => refused s .state)

/-! ### Rings and BAR2 segments -/

/-- Where ring `r` of a dispatcher lies in the ring area (Table 5.9): 64 places of 256 KiB, then 64 of 128 KiB.
Log: DESIGN CHOICE 92. -/
def ringPlace (r : Nat) : Nat × Nat := (0x800000 + 0x40000 * r, 0x1800000 + 0x20000 * r)

/-- Sizes of Table 4.2. Log: DESIGN CHOICE 92. -/
def ringSize (n : Nat) : Bool := [64, 128, 256, 512, 1024, 2048, 4096].contains n

/-- The owner's place of R103: the host on P0, a core on the base die beneath it. -/
def ownerPlace (die : BaseDie) : RingOwner → Bool
  | .host => die = 0
  | .core c => die.val = c.val / 4

/-- The owner may submit to the context (R103). Log: DEDUCED 93. -/
def ownerAssigned (c : Context) : RingOwner → Bool
  | .host => true
  | .core k => c.cores.getLsbD k.val

/-- CMD_RING_CREATE: the lowest free ring of the dispatcher (R103). Log: DESIGN CHOICE 92. -/
def execCmdRingCreate (h : CmdHdr) (ctx : BitVec 16) (die : BaseDie) (entries : Nat) (owner : RingOwner) (s : State) :
    Host.Outcome State Fault Refusal :=
  .next (s.runCommand h .ringCreate fun s =>
    if !ringSize entries || !ownerPlace die owner then refused s .badArgs
    else
      match s.openContext ctx with
      | .inl st => refused s st
      | .inr i =>
        if !ownerAssigned (s.context i.val) owner then refused s .state
        else
          match (List.finRange 64).find? fun r => !(s.ring (ringKeyOf die r)).enabled with
          | none => refused s .noResource
          | some r =>
            let p := ringPlace r.val
            let s := s.setRing (ringKeyOf die r) { Ring.reset with enabled := true, ctx := i, owner, entries, base := p.1, cplBase := p.2 }
            let b : Bool := decide (callerPort h.caller = some .b)
            let s := if die = 0 then { s with host := { s.host with ringPort := Store.put false s.host.ringPort r.val b } } else s
            (s, .done [BitVec.ofNat 64 r.val] []))

/-- CMD_RING_DELETE: STATE while an entry is read and not complete (R355). -/
def execCmdRingDelete (h : CmdHdr) (die : BaseDie) (ring : RingIx) (s : State) : Host.Outcome State Fault Refusal :=
  .next (s.runCommand h .ringDelete fun s =>
    let r := s.ring (ringKeyOf die ring)
    if !r.enabled then refused s .notFound
    else if !r.live.isEmpty then refused s .state
    else (s.deleteRing (ringKeyOf die ring), .done [] []))

/-- CMD_BAR2_MAP: the segment maps a 1 GiB-aligned address under an Open context, or is made invalid (R309). -/
def execCmdBar2Map (h : CmdHdr) (segment : Fin 64) (ctx : BitVec 16) (addr : Option PAddr) (s : State) : Host.Outcome State Fault Refusal :=
  .next (s.runCommand h .bar2Map fun s =>
    match addr with
    | none => (s.setSegment segment.val Segment.reset, .done [] [])
    | some a =>
      if ctx = 0 ∨ a.toNat % gib ≠ 0 then refused s .badArgs
      else
        match s.openContext ctx with
        | .inl st => refused s st
        | .inr i => (s.setSegment segment.val { valid := true, ctx := i, gib := BitVec.ofNat 18 (a.toNat / gib) }, .done [] []))

/-! ### Application cores -/

/-- A number as critical words of 32 bits, the lower first (R61). Log: DESIGN CHOICE 94. -/
def critPair (n : Nat) : List W64 := [critWord (BitVec.ofNat 32 n), critWord (BitVec.ofNat 32 (n / 2 ^ 32))]

/-- The boot-information block of a core (R61), at most its 512 words. Log: DESIGN CHOICE 94. -/
def State.bootBlock (s : State) (core : CoreIx) (ctxs : List CtxId) : List W64 :=
  let one (n : Nat) : W64 := critWord (BitVec.ofNat 32 n)
  let ids := ctxs.flatMap fun i => [one i.val, one (s.context i.val).gen.toNat]
  let regions := ctxs.flatMap fun i =>
    one (s.context i.val).regions.length :: ((s.context i.val).regions.flatMap fun r => critPair r.base.toNat ++ critPair r.len)
  let rings := (s.ops.rings.filter fun p => p.1 / 64 = core.val / 4 && p.2.enabled && decide (p.2.owner = .core core)).map fun p => one (p.1 % 64)
  ([one core.val, one ctxs.length] ++ ids ++ regions ++ rings).take 512

/-- The first status by which a context refuses to be assigned to a core. -/
def State.assignFault (s : State) (core : CoreIx) (ctxs : List CtxId) : Option FwStatus :=
  ctxs.findSome? fun i =>
    match (s.context i.val).state with
    | .opened => if (s.context i.val).cores.getLsbD core.val then none else some .state
    | .free => some .notFound
    | _ => some .state

/-- CMD_APPCORE_START: the boot image lies 4 KiB-aligned in a region of an assigned context; the block is written and the core
released (R58, R61). Log: DEDUCED 93. -/
def execCmdAppcoreStart (h : CmdHdr) (core : CoreIx) (image : PAddr) (len : Nat) (ctxs : List CtxId) (s : State) :
    Host.Outcome State Fault Refusal :=
  .next (s.runCommand h .appcoreStart fun s =>
    let placed := ctxs.any fun i => inRegions (s.context i.val).regions image.toNat len
    if ctxs = [] ∨ len = 0 ∨ 64 * 0x100000 < len ∨ image.toNat % 4096 ≠ 0 then refused s .badArgs
    else if s.faults.padlocked.contains (coreChan core.val) then refused s .noResource
    else
      match s.assignFault core ctxs with
      | some st => refused s st
      | none =>
        if !placed then refused s .badArgs
        else if (s.core core.val).running then refused s .state
        else
          let info := s.bootBlock core ctxs
          let s := s.modCore core.val fun _ => { AppCore.reset with running := true, ctxs, image, bootInfo := info }
          (s.emit (.coreRelease core image (BitVec.ofNat 64 core.val) (BitVec.ofNat 64 (0x800000200000 + 0x1000 * (core.val % 4)))),
            .done [] []))

/-- CMD_APPCORE_STOP (R61). -/
def execCmdAppcoreStop (h : CmdHdr) (core : CoreIx) (s : State) : Host.Outcome State Fault Refusal :=
  .next (s.runCommand h .appcoreStop fun s =>
    if !(s.core core.val).running then refused s .state
    else ((s.modCore core.val fun c => { c with running := false, ctxs := [] }).emit (.coreStop core), .done [] []))

/-! ### Micro-images -/

/-- Fields of a micro-image header (Table 2.5). -/
def imgId (b : List Byte) : W32 := BitVec.ofNat 32 (le b 4 4)
def imgCode (b : List Byte) : Nat := le b 10 2
def imgTables (b : List Byte) : Nat := le b 12 2
def imgSize (b : List Byte) : Nat := 64 + 4 * imgCode b + 64 * imgTables b + 128

/-- Reason 4 of Table 2.6. -/
def imgFieldsOk (b : List Byte) : Bool :=
  1 ≤ imgCode b && imgCode b ≤ 2048 && imgTables b ≤ 192 && 1 ≤ le b 14 1 && le b 14 1 ≤ 16 && 1 ≤ le b 15 1 && le b 15 1 ≤ 4
    && zeros b 17 3 && zeros b 24 40

/-- Package that runs. -/
def State.runningPackage (s : State) : List Byte := (s.part (imagePart s.keeper.imageB)).package

/-- The key that an image's key index names, where it is accepted (R430). -/
def State.imageKey (s : State) (index : Nat) (owner : List Byte) : Option (List Byte) :=
  if index = 0 then some (pkgMicroKey s.runningPackage)
  else if index = 1 ∧ s.sec.ownerGood ∧ owner.length = 96 ∧ s.sec.ownerHash = some (Config.sha384 owner) then some owner
  else none

/-- The signature of an image verifies under an accepted key (R51, R430). Log: DESIGN CHOICE 96. -/
def State.imageSigned (s : State) (b owner : List Byte) : Bool :=
  let n := b.length - 128
  match s.imageKey (le b n 4) owner with
  | some key => zeros b (n + 4) 28 && signed key (b.take n) (sigOf (slice b (n + 32) 96))
  | none => false

/-- The first reason of Table 2.6 for which an image is refused; 0 for none (R53). Log: DESIGN CHOICE 96. -/
def State.imageReason (s : State) (b owner : List Byte) : Nat :=
  if le b 0 4 ≠ 0x6D696D67 then 1
  else if le b 8 2 ≠ 1 then 2
  else if le b 20 4 ≠ imgSize b ∨ le b 20 4 ≠ b.length then 3
  else if !imgFieldsOk b then 4
  else if !s.imageSigned b owner then 5
  else if le b 16 1 < pkgSvnMin s.runningPackage then 6
  else if s.compute.images.any fun i => i.id = imgId b then 7
  else if 256 ≤ s.compute.images.length ∨ 0x800000 < (s.compute.images.map fun i => i.bytes.length).sum + b.length then 8
  else 0

/-- The images take new places: the six image regions hold them one after another, in ascending image_id, and 0 after them (R54).
Log: DEDUCED 95. -/
def State.setImages (s : State) (images : List Image) : State :=
  let old := ((s.compute.images.map fun i => i.bytes).flatten).length
  let bytes := (images.map fun i => i.bytes).flatten
  let s := { s with compute := { s.compute with images } }
  (List.range 6).foldl (fun t d => t.homeStore (baseChan 0) d 0 (bytes ++ List.replicate (old - bytes.length) 0)) s

/-- Install an image into all six regions (R54). Log: DEDUCED 95. -/
def State.installImage (s : State) (b : List Byte) : State :=
  let is := s.compute.images
  s.setImages ((is.filter fun i => i.id.toNat < (imgId b).toNat) ++ [{ id := imgId b, bytes := b }]
    ++ is.filter fun i => (imgId b).toNat < i.id.toNat)

/-- CMD_IMAGE_INSTALL: the checks of R477, then the long operation. Log: DEDUCED 137. -/
def execCmdImageInstall (h : CmdHdr) (ctx : BitVec 16) (addr : PAddr) (len : Nat) (ownerKey : List Byte) (s : State) :
    Host.Outcome State Fault Refusal :=
  .next (s.runCommand h .imageInstall fun s =>
    match s.openContext ctx with
    | .inl st => refused s st
    | .inr i =>
      if len < 196 ∨ 20672 < len ∨ !inRegions (s.context i.val).regions addr.toNat len then refused s .badArgs
      else (s, .running (.imageInstall i addr len ownerKey) 0 6 0 0 0))

/-- A start token or a resident operator names the image: waiting on a tumbler, resident there, or sent or to be sent for an
operator that has not completed (R55). Log: DEDUCED 95. -/
def State.imageInUse (s : State) (image : W32) : Bool :=
  (s.compute.tumblers.any fun (p : Nat × Tumbler) =>
      (p.2.startq.any fun k => k.image = image) || (match p.2.resident with | some r => decide (r.image = image) | none => false))
    || s.ops.rings.any fun p => p.2.live.any fun e => match e.phase with
      | .starting _ _ | .started => odImage e.desc = image && !e.held
      | _ => false

/-- CMD_IMAGE_REMOVE (R55). A tumbler's instruction slot and table region hold it no longer. Log: DEDUCED 95. -/
def execCmdImageRemove (h : CmdHdr) (image : W32) (s : State) : Host.Outcome State Fault Refusal :=
  .next (s.runCommand h .imageRemove fun s =>
    if !(s.compute.images.any fun i => i.id = image) then refused s .notFound
    else if s.imageInUse image then refused s .imageInUse
    else
      let forget (t : Tumbler) : Tumbler :=
        { t with slots := t.slots.filter fun i => i.1 ≠ image, tables := if t.tables = some image then none else t.tables }
      let s := s.setImages (s.compute.images.filter fun i => i.id ≠ image)
      ({ s with compute := { s.compute with tumblers := mapStore Tumbler.reset forget s.compute.tumblers } }, .done [] []))

/-- CMD_IMAGE_LIST (R355): the count, then up to four image_ids from an index on, ascending. Log: DESIGN CHOICE 104. -/
def execCmdImageList (h : CmdHdr) (first : Nat) (s : State) : Host.Outcome State Fault Refusal :=
  .next (s.runCommand h .imageList fun s =>
    let ids := ((s.compute.images.drop first).take 4).map fun i => i.id.setWidth 64
    (s, .done (BitVec.ofNat 64 ids.length :: ids) []))

end Sys2Proof.Machine
end

