-- ==== Sys2Proof/Machine/DomainCmds.lean ====
section
/-! DEFINITION. Firmware commands of Table 11.14, second part: the fabric manager's requests of Table 9.7. -/

namespace Sys2Proof.Machine

/-! ### Identity and tables -/

/-- CMD_DOMAIN_ASSIGN: once per reset (R282). -/
def execCmdDomainAssign (h : CmdHdr) (id : ModId) (size : Nat) (s : State) : Host.Outcome State Fault Refusal :=
  .next (s.runCommand h .domainAssign fun s =>
    if size = 0 ∨ 256 < size then refused s .badArgs
    else if s.domain.id.isSome then refused s .already
    else ({ s with domain := { s.domain with id := some id, size } }.statusBit stDomain true, .done [] []))

/-- Reserved bits of a window entry (Table 9.1). -/
def winReservedOk (e : BitVec 256) : Bool :=
  field e 1 9 = 0 && field e 64 10 = 0 && field e 128 35 = 0 && decide (field e 188 68 = 0)

/-- Two windows overlap in one local context and target module (R284). -/
def winOverlap (e f : BitVec 256) : Bool :=
  winContext e = winContext f && winModule e = winModule f && winBase e < winBase f + winSize f && decide (winBase f < winBase e + winSize e)

/-- The first reason of R284 for which the keeper refuses an entry. Log: DEDUCED 97. -/
def State.windowReason (s : State) (index : Nat) (e : BitVec 256) : Option Nat :=
  let c := s.context (winContext e).val
  if winSizeCode e = 15 then some 0
  else if winBase e % winSize e ≠ 0 then some 1
  else if some (winModule e) = s.domain.id then some 2
  else if (s.linkSet (winSet e)).isEmpty then some 3
  else if s.domain.windows.any fun p => p.1 ≠ index && winValid p.2 && winOverlap e p.2 then some 4
  else if c.state ≠ .opened ∨ !c.domain then some 5
  else none

/-- The entry as the keeper installs it: its attributes, then the key words as critical values with valid set (R285).
Log: DEDUCED 97. -/
def winInstalled (e : BitVec 256) : BitVec 256 :=
  let a : W64 := critWord (putBit (e.setWidth 32) 0 true)
  let b : W64 := critWord ((e >>> 64).setWidth 32)
  BitVec.ofNat 256 (e.toNat / 2 ^ 128 * 2 ^ 128 + b.toNat * 2 ^ 64 + a.toNat)

/-- CMD_WINDOW_WRITE: refused for the reasons of R284, otherwise installed in all six copies (R285). Before an ID is assigned
the table is empty (R282): STATE. Log: DEDUCED 97. -/
def execCmdWindowWrite (h : CmdHdr) (index : BitVec 16) (entry : BitVec 256) (s : State) : Host.Outcome State Fault Refusal :=
  .next (s.runCommand h .windowWrite fun s =>
    if !winReservedOk entry then refused s .badArgs
    else if s.domain.id.isNone then refused s .state
    else
      match s.windowReason index.toNat entry with
      | some r => refused s (.windowRefused r)
      | none =>
        ({ s with domain := { s.domain with windows := Store.put windowReset s.domain.windows index.toNat (winInstalled entry) } },
          .done [] []))

/-- CMD_WINDOW_REMOVE: the entry is cleared (R285); one that is not valid ends NOT_FOUND. -/
def execCmdWindowRemove (h : CmdHdr) (index : BitVec 16) (s : State) : Host.Outcome State Fault Refusal :=
  .next (s.runCommand h .windowRemove fun s =>
    if !winValid (Store.get windowReset s.domain.windows index.toNat) then refused s .notFound
    else
      ({ s with domain := { s.domain with windows := Store.put windowReset s.domain.windows index.toNat windowReset } }, .done [] []))

/-- CMD_LINKSET_WRITE: 1 to 8 members, none named twice (R288). -/
def execCmdLinksetWrite (h : CmdHdr) (set : Byte) (members : List LinkIx) (s : State) : Host.Outcome State Fault Refusal :=
  .next (s.runCommand h .linksetWrite fun s =>
    if members = [] ∨ 8 < members.length then refused s .badArgs
    else if members.eraseDups.length ≠ members.length then refused s .setDuplicate
    else ({ s with domain := { s.domain with linkSets := Store.put [] s.domain.linkSets set.toNat members } }, .done [] []))

/-- CMD_FWD_WRITE (R288). Log: DESIGN CHOICE 150. -/
def execCmdFwdWrite (h : CmdHdr) (module : ModId) (set : Byte) (valid : Bool) (s : State) : Host.Outcome State Fault Refusal :=
  .next (s.runCommand h .fwdWrite fun s =>
    ({ s with domain := { s.domain with
        forward := Store.put none s.domain.forward module.toNat (if valid then some set else none) } }, .done [] []))

/-- CMD_GROUP_WRITE: the ordered members and this module's rank among them (R295). Log: DEDUCED 98. -/
def execCmdGroupWrite (h : CmdHdr) (group : Fin 64) (members : List ModId) (rank : Byte) (s : State) : Host.Outcome State Fault Refusal :=
  .next (s.runCommand h .groupWrite fun s =>
    if members.length ≤ rank.toNat then refused s .badArgs
    else ({ s with domain := { s.domain with groups := Store.put Group.reset s.domain.groups group.val { members, rank } } }, .done [] []))

/-- CMD_TWIN_SET: a twin may be named only in a domain of 32 modules or fewer (R292). Log: DEDUCED 98. -/
def execCmdTwinSet (h : CmdHdr) (link : LinkIx) (twin : Option LinkIx) (s : State) : Host.Outcome State Fault Refusal :=
  .next (s.runCommand h .twinSet fun s =>
    if twin = some link then refused s .badArgs
    else if twin.isSome ∧ 32 < s.domain.size then refused s .twinRefused
    else (s.modLink link.val fun x => { x with twin }, .done [] []))

/-- F8's mode and named peer; in idle mode its transmit attenuator is shut (R233). -/
def Engine.setF8 (x : Engine) (spare : Bool) (peer : ModId) : Engine :=
  { x with f8Spare := spare, f8Peer := peer, shut := if spare || x.shut.contains 8 then x.shut else x.shut ++ [8] }

/-- CMD_F8_MODE: idle mode, with the transmit attenuator shut, or spare mode for a named peer (R233). F8 that serves a link
keeps its mode: STATE. Log: DEDUCED 98. -/
def execCmdF8Mode (h : CmdHdr) (engine : EngineIx) (spare : Bool) (peer : ModId) (s : State) : Host.Outcome State Fault Refusal :=
  .next (s.runCommand h .f8Mode fun s =>
    if (s.engine engine.val).f8For.isSome then refused s .state
    else
      (s.modEngine engine.val fun x => x.setF8 spare peer, .done [] []))

/-! ### Link keys -/

/-- Slot of a direction that a new key takes: the one not in use; before the first key, the one that is named (R273).
Log: DEDUCED 99. -/
def Link.idleSlot (x : Link) (tx : Bool) : Fin 2 :=
  if tx then (if (x.txKey x.txSlot).isNone then x.txSlot else x.txSlot + 1)
  else (if (x.rxKey x.rxSlot).isNone then x.rxSlot else x.rxSlot + 1)

/-- Key of a slot of a direction. -/
def Link.keyAt (x : Link) (tx : Bool) (k : Fin 2) : Option LinkKey := if tx then x.txKey k else x.rxKey k

/-- Put a key into a slot. A key for sending waits for the peer's confirmation (R273). Log: DEDUCED 99. -/
def Link.putKey (x : Link) (tx : Bool) (k : Fin 2) (v : LinkKey) : Link :=
  if tx then (if k = 0 then { x with tx0 := some v, confirmed := false } else { x with tx1 := some v, confirmed := false })
  else if k = 0 then { x with rx0 := some v } else { x with rx1 := some v }

/-- The caller's endpoint has established an SPDM session over MCTP (R436). -/
def State.inSession (s : State) (c : Caller) : Bool :=
  match c with
  | .mctp b e => s.sec.sessions.any fun x => x.established && decide (x.conn = .mctp b e)
  | _ => false

/-- Refusals of CMD_LINK_KEY (R436), and of a key that the other direction already holds (R273). Log: DEDUCED 99. -/
def Link.keyRefused (x : Link) (tx : Bool) (key : BitVec 256) (keyId : W32) : Bool :=
  let k := x.idleSlot tx
  let same (v : Option LinkKey) (p : LinkKey → Bool) : Bool := match v with | some w => p w | none => false
  key = 0 || same (x.keyAt tx (k + 1)) (fun w => w.keyId = keyId)
    || same (x.keyAt (!tx) 0) (fun w => w.key = key) || same (x.keyAt (!tx) 1) fun w => w.key = key

/-- Counters of SEC_SPDM_STAT: requests, errors, sessions opened and ended, refused link keys (Table 15.5). -/
abbrev spRequest : Nat := 0
abbrev spError : Nat := 1
abbrev spOpened : Nat := 2
abbrev spEnded : Nat := 3
abbrev spKey : Nat := 4

/-- CMD_LINK_KEY: installs a key into the idle slot, or KEY_REFUSED (R273, R436). Log: DEDUCED 99. -/
def execCmdLinkKey (h : CmdHdr) (link : LinkIx) (tx : Bool) (key : BitVec 256) (salt keyId : W32) (inSession : Bool) (s : State) :
    Host.Outcome State Fault Refusal :=
  .next (s.runCommand h .linkKey fun s =>
    if !inSession || !s.inSession h.caller || decide (s.sec.scopes ≠ 0) || (s.link link.val).keyRefused tx key keyId then
      refused (s.count kSpdm 0 spKey 1) .keyRefused
    else if tx && (s.link link.val).retireAt.isSome then refused s .state
    else (s.modLink link.val fun x => x.putKey tx (x.idleSlot tx) { key, salt, keyId }, .done [] []))

/-! ### Held links and reset peers -/

/-- Tag of a request of this module that begins in a unit (Table 9.2). -/
def State.unitTag (s : State) (u : TxUnit) : Option (BitVec 16) :=
  let vc := field u.header 121 3
  if u.header.getLsbD 120 && (vc = 1 || vc = 3) && decide (field u.header 45 8 = s.moduleId.toNat) then
    some (BitVec.ofNat 16 (leNat ((u.payload.drop 2).take 2)))
  else none

/-- A held request ends at its issuer as one to an unreachable module (R269, Table 12.6). -/
def State.unreachable (s : State) (tag : BitVec 16) : State :=
  match s.domain.requests.find? fun q => q.tag = tag with
  | some q =>
    let s := s.dropRequest q
    let s := s.remoteFail q 5
    if q.write then s.freeRequest q else s.landLoad q []
  | none => s

/-- Units that a link holds: in its replay buffer and queue, and in the DOM blocks' hold queues (R268, R292). Log: DEDUCED 100. -/
def State.heldUnits (s : State) (l : Nat) : List TxUnit :=
  (s.link l).replay ++ (s.link l).queue ++ (List.range 6).flatMap fun d => (Store.get [] s.domain.holdQueue (64 * d + l)).take holdDepth

/-- The hold queues of a link give up what they hold; units that waited at their issuing agents for room enter them, and are held in
their turn (R292). Log: DEDUCED 43. -/
def State.emptyHold (s : State) (l : Nat) : State :=
  let left (d : Nat) : List TxUnit := (Store.get [] s.domain.holdQueue (64 * d + l)).drop holdDepth
  let s := { s with domain := { s.domain with
    holdQueue := (List.range 6).foldl (fun m d => Store.put [] m (64 * d + l) (left d)) s.domain.holdQueue } }
  if (List.range 6).any fun d => !(left d).isEmpty then s.holdLink l else s

/-- CMD_LINK_RELEASE: held units are discarded, they and their bytes are counted, and each request held ends unreachable; the link restarts at
sequence 0 when it returns (R269). A link that holds nothing ends STATE. Log: DEDUCED 100. -/
def execCmdLinkRelease (h : CmdHdr) (link : LinkIx) (s : State) : Host.Outcome State Fault Refusal :=
  .next (s.runCommand h .linkRelease fun s =>
    let l := link.val
    if !(s.link l).held then refused s .state
    else
      let us := s.heldUnits l
      let s := s.countLink l lnReleased us.length
      let s := s.modLink l fun x => { x with replay := [], queue := [], a := x.n, held := false, restart := true }
      let s := s.emptyHold l
      ((us.filterMap s.unitTag).foldl State.unreachable s, .done [BitVec.ofNat 64 us.length, BitVec.ofNat 64 (us.map fun u => uLen u.header).sum] []))

/-- CMD_PEER_RESET, mark: accesses to the module end with status 0x05, and its generation records are unknown (R299). -/
def execCmdPeerResetMark (h : CmdHdr) (module : ModId) (s : State) : Host.Outcome State Fault Refusal :=
  .next (s.runCommand h .peerReset fun s =>
    ({ s with domain := { s.domain with
        peerReset := putBit s.domain.peerReset module.toNat true
        genRecord := s.domain.genRecord.filter fun p => p.1 / 1024 ≠ module.toNat
        stragglers := s.domain.stragglers.filter fun p => p.1 / 1024 ≠ module.toNat } }, .done [] []))

/-- CMD_PEER_RESET, clear (R299). -/
def execCmdPeerResetClear (h : CmdHdr) (module : ModId) (s : State) : Host.Outcome State Fault Refusal :=
  .next (s.runCommand h .peerReset fun s =>
    ({ s with domain := { s.domain with peerReset := putBit s.domain.peerReset module.toNat false } }, .done [] []))

end Sys2Proof.Machine
end

