-- ==== Sys2Proof/Machine/Firmware.lean ====
section
/-! DEFINITION. Firmware commands of Table 11.14, third part: firmware update, the deployment profile, the fault log, the ledger and
the dumps, tests and calibration, owner key and debug unlock; and how long operations end (R356, R358). -/

namespace Sys2Proof.Machine

/-! ### Firmware update (R360, R361) -/

/-- Largest package (Table 15.2) and largest dump slot (Table 11.2). -/
abbrev mib16 : Nat := 0x1000000

/-- CMD_FW_WRITE: the header of the slot that does not run is marked invalid and the package is read from a region of the named
context (R360); a module that has lost a flash part refuses firmware writes (R338). Log: DEDUCED 102. -/
def execCmdFwWrite (h : CmdHdr) (ctx : BitVec 16) (addr : PAddr) (len : Nat) (s : State) : Host.Outcome State Fault Refusal :=
  .next (s.runCommand h .fwWrite fun s =>
    if len = 0 ∨ mib16 < len then refused s .badArgs
    else
      match s.openContext ctx with
      | .inl st => refused s st
      | .inr i =>
        if !inRegions (s.context i.val).regions addr.toNat len then refused s .badArgs
        else if (s.part 0).out || (s.part 1).out then refused s .noResource
        else (s.beginUpdate (callerUpdater h.caller), .running (.fwWrite i addr len) 0 len (BitVec.ofNat 64 s.idlePart) 0 0))

/-- CMD_FW_VERIFY verifies the slot that does not run (R360, R428). -/
def execCmdFwVerify (h : CmdHdr) (s : State) : Host.Outcome State Fault Refusal :=
  .next (s.runCommand h .fwVerify fun s =>
    if (s.part s.idlePart).out then refused s .noResource
    else (s, .running .fwVerify 0 (s.part s.idlePart).package.length 0 0 0))

/-- CMD_FW_ACTIVATE: before a successful verification it ends STATE (R360). -/
def execCmdFwActivate (h : CmdHdr) (s : State) : Host.Outcome State Fault Refusal :=
  .next (s.runCommand h .fwActivate fun s =>
    if (s.part s.idlePart).out then refused s .noResource
    else if !(s.part s.idlePart).verified then refused s .state
    else (s.activate, .done [] []))

/-- Fault step of a slot as a byte, 0 for none. -/
def State.slotStep (s : State) (k : Nat) : Nat := (s.slotFault k).getD 0

/-- CMD_FW_INFO: the versions of both images, their security versions, the trial state with the step of R428 that each slot fails,
and the svn counter (R355, R429). Log: DESIGN CHOICE 104. -/
def execCmdFwInfo (h : CmdHdr) (s : State) : Host.Outcome State Fault Refusal :=
  .next (s.runCommand h .fwInfo fun s =>
    let n (x : Nat) : W64 := BitVec.ofNat 64 x
    (s, .done [n (s.slotVersion 0), n (s.slotVersion 1), n (pkgSvn (s.part 0).package + pkgSvn (s.part 1).package * 2 ^ 32),
      n (s.keeper.imageB.toNat + s.keeper.trial.toNat * 2 + s.slotStep 0 * 2 ^ 8 + s.slotStep 1 * 2 ^ 16), n s.sec.svn] []))

/-! ### Deployment profile (R339, R481) -/

/-- A profile value lies in the range of Table 11.3a. -/
def profileInRange (i : Nat) (v : Nat) : Bool :=
  if i = 0 then v = 0x50524F46
  else if i = 1 then v = 1
  else if i = 2 then v < 3
  else if i = 3 then v < 48
  else if i < 11 then v < 256
  else if i < 19 then 8 ≤ v && v ≤ 512 && v % 8 = 0
  else if i = 19 then 100 ≤ v && v ≤ 1000000
  else if i = 20 then 1 ≤ v && v ≤ 16
  else v < 3

/-- A profile that CMD_PROFILE_WRITE takes: 176 bytes, halves that agree, values in range (R481). -/
def profileOk (words : List W64) (bytes : Nat) : Bool :=
  bytes = 176 && match profileValues words with
    | some vs => (List.range 22).all fun i => profileInRange i (vs.getD i 0).toNat
    | none => false

/-- CMD_PROFILE_WRITE: written to both copies in both parts; it takes effect at the next start (R339). -/
def execCmdProfileWrite (h : CmdHdr) (words : ProfileWords) (bytes : Nat) (s : State) : Host.Outcome State Fault Refusal :=
  .next (s.runCommand h .profileWrite fun s =>
    if !profileOk words bytes then refused s .badArgs
    else if s.flash.partA.out && s.flash.partB.out then refused s .noResource
    else
      let put (p : FlashPart) : FlashPart := if p.out then p else { p with profile1 := words, profile2 := words }
      ({ s with flash := { partA := put s.flash.partA, partB := put s.flash.partB } }, .done [] []))

/-- CMD_PROFILE_READ: the profile as R339 takes it, in the buffer (R481). Log: DEDUCED 105. -/
def execCmdProfileRead (h : CmdHdr) (s : State) : Host.Outcome State Fault Refusal :=
  .next (s.runCommand h .profileRead fun s => (s, .done [176] (s.profile.1.flatMap fun v => leBytes 8 (critWord v).toNat)))

/-! ### Fault log, FAULT_N and the ledger -/

/-- Records of the log from a sequence on (R388). -/
def State.recordsFrom (s : State) (seq : W32) : List FaultRecord :=
  s.faults.log.filter fun r => match r.seq with
    | some q => decide ((q - seq).toNat < 2 ^ 31)
    | none => false

/-- CMD_FAULT_READ: the log's records from a sequence on, as many as the buffer holds; a sequence already overwritten reads from
the oldest (R388). Log: DEDUCED 105. -/
def execCmdFaultRead (h : CmdHdr) (seq : W32) (s : State) : Host.Outcome State Fault Refusal :=
  .next (s.runCommand h .faultRead fun s =>
    let rs := (s.recordsFrom seq).take 1024
    (s, .done [BitVec.ofNat 64 rs.length] (rs.flatMap FaultRecord.bytes)))

/-- Release FAULT_N, with one pulse for those withheld (R382). -/
def State.releaseFaultN (s : State) : State :=
  let f := s.faults.faultN
  let more : Bool := f.held && decide (0 < f.withheld)
  let s := { s with faults := { s.faults with
    faultN := if more then { f with held := false, withheld := 0, pulsing := true, pulses := f.pulses + 1 }
      else { f with held := false, withheld := 0 } } }
  let s := (s.statusBit stFaultPending false).statusBit stFaultN false
  if more then s.emit .faultPulse else s

/-- CMD_FAULT_N_CLEAR (R382). Log: DEDUCED 35. -/
def execCmdFaultNClear (h : CmdHdr) (s : State) : Host.Outcome State Fault Refusal :=
  .next (s.runCommand h .faultNClear fun s => (s.releaseFaultN, .done [] []))

/-- CMD_LEDGER_READ: entries from one on, as many as the buffer holds. Log: DEDUCED 105. -/
def execCmdLedgerRead (h : CmdHdr) (first : Nat) (s : State) : Host.Outcome State Fault Refusal :=
  .next (s.runCommand h .ledgerRead fun s =>
    let es := (s.faults.ledger.drop first).take 2048
    (s, .done [BitVec.ofNat 64 es.length] (es.flatMap LedgerEntry.bytes)))

/-! ### Dumps (R388) -/

/-- A dump slot. -/
def State.dump (s : State) (part slot : Nat) : DumpSlot := if slot = 0 then (s.part part).dump0 else (s.part part).dump1

/-- Write a dump slot. -/
def State.setDump (s : State) (part slot : Nat) (d : DumpSlot) : State :=
  s.modPart part fun p => if slot = 0 then { p with dump0 := d } else { p with dump1 := d }

/-- What a dump slot reads as: erased flash reads all ones. -/
def DumpSlot.bytes (d : DumpSlot) (off n : Nat) : List Byte :=
  let data := match d with | .full x => x | .released x => x | .erased => []
  let part := slice data off n
  part ++ List.replicate (n - part.length) 0xFF

/-- CMD_DUMP_READ: a byte range of a slot goes into a region of the named context. Log: DEDUCED 102, 106. -/
def execCmdDumpRead (h : CmdHdr) (slot : Fin 2) (part : Fin 2) (offset len : Nat) (ctx : BitVec 16) (addr : PAddr) (s : State) :
    Host.Outcome State Fault Refusal :=
  .next (s.runCommand h .dumpRead fun s =>
    if len = 0 ∨ mib16 < offset + len then refused s .badArgs
    else
      match s.openContext ctx with
      | .inl st => refused s st
      | .inr i =>
        if !inRegions (s.context i.val).regions addr.toNat len then refused s .badArgs
        else if (s.part part.val).out then refused s .noResource
        else
          match s.dump part.val slot.val with
          | .full _ => (s, .running (.dumpRead part slot offset len i addr) 0 len 0 0 0)
          | _ => refused s .notFound)

/-- CMD_DUMP_RELEASE: the keeper erases the slot in the background (R338, R388). Log: DEDUCED 106. -/
def execCmdDumpRelease (h : CmdHdr) (part : Fin 2) (slot : Fin 2) (s : State) : Host.Outcome State Fault Refusal :=
  .next (s.runCommand h .dumpRelease fun s =>
    if (s.part part.val).out then refused s .noResource
    else
      match s.dump part.val slot.val with
      | .full data => (s.setDump part.val slot.val (.released data), .done [] [])
      | .released _ => refused s .state
      | .erased => refused s .notFound)

/-- DUMP_SLOT_ERASE_COMPLETE: a released slot is erased (R338). -/
def execDumpSlotEraseComplete (part : Fin 2) (slot : Fin 2) (s : State) : Host.Outcome State Fault Refusal :=
  .next <| match s.dump part.val slot.val with
    | .released _ => s.setDump part.val slot.val .erased
    | _ => s

/-! ### Tests and calibration -/

/-- When the test of a channel's kind may run (Table 16.1): tumblers, wards, HBM and flash in SERVICE_HOLD, optics and edges in
READY or DEGRADED, phases and sensors in any state but FAILED. -/
def State.testAllowed (s : State) (c : Chan) : Bool :=
  let m := s.modState
  match chanKind c with
  | 0x01 | 0x02 | 0x18 | 0x38 => m = .serviceHold
  | 0x10 | 0x11 | 0x20 | 0x21 | 0x22 | 0x24 => m = .ready || decide (m = .degraded)
  | 0x30 | 0x32 => true
  | _ => false

/-- A kind that some test exercises (Table 16.1). Log: DESIGN CHOICE 107. -/
def testable (c : Chan) : Bool := [0x01, 0x02, 0x18, 0x38, 0x10, 0x11, 0x20, 0x21, 0x22, 0x24, 0x30, 0x32].contains (chanKind c)

/-- An index field sent as all ones names the whole unit (R445). Log: DESIGN CHOICE 107. -/
def wholeUnit (c : Chan) : Bool :=
  match chanKind c with
  | 0x01 => chanBits c 8 7 = 127
  | 0x10 => chanBits c 12 8 = 255
  | 0x18 => chanBits c 7 7 = 127
  | 0x20 => chanBits c 16 5 = 31
  | 0x21 | 0x22 => chanBits c 17 4 = 15 || decide (chanBits c 12 5 = 31)
  | 0x24 => chanBits c 17 4 = 15
  | 0x32 => chanBits c 15 4 = 15
  | _ => false

/-- CMD_SELFTEST: one channel, or a whole unit (R445); a padlocked channel is not tested (R446). Log: DESIGN CHOICE 107. -/
def execCmdSelftest (h : CmdHdr) (chan : Chan) (failed total : Nat) (permanent : Bool) (s : State) : Host.Outcome State Fault Refusal :=
  .next (s.runCommand h .selftest fun s =>
    if !testable chan ∨ total < failed then refused s .badArgs
    else if s.isPadlocked chan ∨ !s.testAllowed chan then refused s .state
    else (s, .running (.selftest chan failed total permanent) 0 total 0 0 0))

/-- CMD_LINK_MARGIN: the margin test of R220 on a link in DOWN or WAITING; its results come with MARGIN_TEST_COMPLETE (R221).
Log: DEDUCED 111. -/
def execCmdLinkMargin (h : CmdHdr) (link : LinkIx) (s : State) : Host.Outcome State Fault Refusal :=
  .next (s.runCommand h .linkMargin fun s =>
    let st := (s.link link.val).state
    if st = .down ∨ st = .waiting then (s, .running (.linkMargin link) 0 32 0 0 0) else refused s .state)

/-- Optical quantities: those whose reference is light (R414, R420). Log: DEDUCED 108. -/
def isOptical : CalQuantity → Bool
  | .heaterEff | .ringCal | .attenStep => true
  | _ => false

/-- Light an engine's lasers that are neither retired nor padlocked. -/
def State.lightEngine (s : State) (e : Nat) : State :=
  s.modEngine e fun x => (List.range 18).foldl (fun y i =>
    if s.faults.padlocked.contains (laserChan e i) || (y.laser i).retired then y else y.modLaser i fun z => { z with lit := true }) x

/-- CMD_CAL_RUN: one quantity, one run at a time, in SERVICE_HOLD; optical quantities need the cartridge and an idle F8, and light the
engine's lasers for the run (R420, R422). Log: DEDUCED 108. -/
def execCmdCalRun (h : CmdHdr) (quantity : CalQuantity) (engine : EngineIx) (items : List CalItem) (s : State) :
    Host.Outcome State Fault Refusal :=
  .next (s.runCommand h .calRun fun s =>
    let x := s.engine engine.val
    let dark : Bool := isOptical quantity
      && (!(s.cart (engine.val / 4)).present || x.f8Spare || x.f8For.isSome)
    if s.modState ≠ .serviceHold ∨ s.runs isCalRun ∨ s.runs isHoldOp ∨ dark then refused s .state
    else
      let s := { s with cal := { s.cal with passed := 0, failed := 0 } }
      (if isOptical quantity then s.lightEngine engine.val else s,
        .running (.calRun quantity engine items) 0 items.length 0 0 0))

/-! ### Owner key and debug unlock (R431, R438) -/

/-- CMD_OWNER_KEY PROGRAM: only while owner_state is 0 and no debug scope is unlocked (R431). Log: DEDUCED 110. -/
def execCmdOwnerKeyProgram (h : CmdHdr) (key : List Byte) (s : State) : Host.Outcome State Fault Refusal :=
  .next (s.runCommand h .ownerKey fun s =>
    if key.length ≠ 96 then refused s .badArgs
    else if s.sec.ownerState ≠ some 0 ∨ s.sec.scopes ≠ 0 then refused s .keyRefused
    else ({ s with sec := { s.sec with ownerHash := some (Config.sha384 key), ownerState := some 1 } }, .done [] []))

/-- The owner has signed a literal: the key is the one programmed and not revoked (R431). -/
def State.ownerSigned (s : State) (literal : W32) (key : List Byte) (sig : BitVec 768) : Bool :=
  s.sec.ownerGood && decide (s.sec.ownerHash = some (Config.sha384 key)) && signed key (leBytes 4 literal.toNat) sig

/-- CMD_OWNER_KEY REVOKE (R431). Log: DEDUCED 110. -/
def execCmdOwnerKeyRevoke (h : CmdHdr) (literal : W32) (key : List Byte) (sig : BitVec 768) (s : State) : Host.Outcome State Fault Refusal :=
  .next (s.runCommand h .ownerKey fun s =>
    if literal ≠ 0x5245564B ∨ !s.ownerSigned literal key sig then refused s .keyRefused
    else ({ s with sec := { s.sec with ownerState := some 3 } }, .done [] []))

/-- CMD_OWNER_KEY VENDOR_DEBUG_OFF (R431). Log: DEDUCED 110. -/
def execCmdVendorDebugOff (h : CmdHdr) (literal : W32) (key : List Byte) (sig : BitVec 768) (s : State) : Host.Outcome State Fault Refusal :=
  .next (s.runCommand h .ownerKey fun s =>
    if literal ≠ 0x56444F46 ∨ !s.ownerSigned literal key sig then refused s .keyRefused
    else ({ s with sec := { s.sec with vendorDebugOff := some true } }, .done [] []))

/-- CMD_DEBUG_UNLOCK stores the token for the next start (R438). -/
def execCmdDebugUnlock (h : CmdHdr) (token : DebugToken) (s : State) : Host.Outcome State Fault Refusal :=
  .next (s.runCommand h .debugUnlock fun s => ({ s with sec := { s.sec with token := some token } }, .done [] []))

/-! ### The end of a long operation -/

/-- Done in full. Log: DESIGN CHOICE 85. -/
def LongOp.full (o : LongOp) : LongOp := { o with done := o.total }

/-- The keeper reads data that a command names: a poisoned line raises its record (Table 5.6); answers the bytes, or none. -/
def State.keeperRead (s : State) (a n : Nat) : State × Option (List Byte) :=
  let lines := s.poisonLines a n
  if lines.isEmpty then (s, some (s.load a n).1) else (s.poisonRead .keeper lines, none)

/-- The image is read, checked and installed in six regions (R53, R54, R477). -/
def State.endImage (s : State) (o : LongOp) (a n : Nat) (owner : List Byte) : State :=
  match s.keeperRead a n with
  | (s, none) => s.endLong o .failed .badArgs
  | (s, some b) =>
    let r := s.imageReason b owner
    if r ≠ 0 then s.endLong { o with word2 := BitVec.ofNat 64 r } .failed (.imageRefused r)
    else (s.installImage b).endLong { o.full with word4 := (imgId b).setWidth 64 } .done .ok

/-- The package is read and written, and its header last (R360). Log: DEDUCED 103. -/
def State.endFwWrite (s : State) (o : LongOp) (a n : Nat) : State :=
  match s.keeperRead a n with
  | (s, none) => s.endLong o .failed .badArgs
  | (s, some b) => ((s.writeSlot b).closeSlot).endLong o.full .done .ok

/-- The slot has been verified: FW_VERIFY_FAIL for steps 1 to 5 of R428, FW_ROLLBACK for step 6. -/
def State.endFwVerify (s : State) (o : LongOp) : State :=
  let r := s.verifySlot
  match r.2 with
  | none => r.1.endLong o.full .done .ok
  | some k => r.1.endLong { o.full with word2 := BitVec.ofNat 64 k } .failed (if k = 6 then .fwRollback else .fwVerifyFail)

/-- The bytes of a dump go into the context's region, while it is Open. Log: DEDUCED 106. -/
def State.endDump (s : State) (o : LongOp) (part slot : Fin 2) (off n : Nat) (ctx : CtxId) (a : Nat) : State :=
  if (s.context ctx.val).state ≠ .opened then s.endLong o .failed .state
  else (s.applyWrite .keeper a ((s.dump part.val slot.val).bytes off n) false).endLong o.full .done .ok

/-- A test ends (R445, R446): a failure that meets a condition of Table 12.2 is the channel's fault; every other failure is a LOG event
and changes nothing. The console prints how many measurements failed, and the record's sequence where the channel has been declared permanent,
by the test or during it (R446). Log: DESIGN CHOICE 107. -/
def State.endTest (s : State) (o : LongOp) (chan : Chan) (failed total : Nat) (permanent : Bool) : State :=
  let lost : Bool := permanent && decide (0 < failed) && !wholeUnit chan
  let s := if lost then s.declareWith chan .selftestFail 0 0
    else if 0 < failed then s.logEvent "self-test failed" else s
  let first : W64 := if failed = 0 then 0 else s.fresh
  let s := if failed = 0 then s else s.spend
  let o : LongOp := { o.full with word2 := BitVec.ofNat 64 failed, word3 := first }
  let s := if o.caller = .console then s.emit (.line "measurements" [Int.ofNat (total - failed), Int.ofNat total]) else s
  let dead : Bool := s.isPadlocked chan
  if o.caller = .console ∧ (0 < failed ∨ dead) then
    let s := { s with keeper := { s.keeper with longOps := s.keeper.longOps.filter fun x => x.mbx ≠ o.mbx } }
    let s := s.publish o.caller o.mbx .cmdDone (cstat .done o.seq 0 4095) o.words []
    let seq : List Int := match s.faults.log.find? fun r => dead && decide (r.suspect = chan) && !r.closed with
      | some r => [Int.ofNat (r.seq.getD 0).toNat]
      | none => []
    { s with console := { s.console with busy := false } }.emit (.line "RESULT FAIL" ([Int.ofNat failed, Int.ofNat total] ++ seq))
  else s.endLong o .done .ok

/-- Lanes of a link's fiber that failed its last margin test, and those of them substituted (Table 11.15). Log: DEDUCED 111. -/
def State.endMargin (s : State) (o : LongOp) (link : Nat) : State :=
  let x := s.engine (link / 8)
  let bad := x.marginFailed.filter fun k => k / 32 = s.linkFiber link
  let kept := bad.filter fun k => !x.dropped.contains k
  s.endLong { o.full with word2 := BitVec.ofNat 64 bad.length, word3 := BitVec.ofNat 64 kept.length } .done .ok

/-- The element that an item measures is padlocked: its item fails (R422). The items of quantity 0x05 are the diodes in order, the
others lie as the stores number them. Log: DEDUCED 151. -/
def State.calLost (s : State) (q : CalQuantity) (i : CalItem) : Bool :=
  let n := i.index
  let ring (k : Nat) (f : Nat → Nat → Nat → Bool → Chan) : Chan := f (k / 1024) (k % 1024 / 64) (k % 64 / 2) (decide (k % 2 = 1))
  match q with
  | .senseGain => s.faults.padlocked.contains (senseChan (n / 128) (n % 128 / 4) (n % 4))
  | .senseSelect => s.faults.padlocked.contains (phaseChan (n / 32) (n % 32))
  | .diode => (Store.get Diode.reset s.thermal.diodes n).padlocked
  | .heaterEff => s.faults.padlocked.contains (ring (n / 4) fun e f k d => segmentChan e f k d (n % 4))
  | .ringCal => s.faults.padlocked.contains (ring n ringChan)
  | _ => false

/-- An item that passed is committed; a new selection of a phase's sense element (quantity 0x03) changes the element that is read
(R421, R424). -/
def State.commitCal (s : State) (q : CalQuantity) (i : CalItem) : State :=
  let s := { s with cal := s.cal.commit (Store.get 0 s.keeper.serials 0) q i }
  if q = .senseSelect ∧ field i.word 28 4 = 4 then s.switchElement (i.index / 32) (i.index % 32) (field i.word 0 4 % 3) else s

/-- An item in its place by index. -/
def insertItem (i : CalItem) : List CalItem → List CalItem
  | [] => [i]
  | j :: js => if j.index < i.index then j :: insertItem i js else i :: j :: js

/-- A reference that is lost stays lost: every later item that uses it fails (R422). -/
def loseReference : Bool → List CalItem → List CalItem
  | _, [] => []
  | lost, i :: is =>
    let lost := lost || !i.refPresent
    { i with refPresent := !lost } :: loseReference lost is

/-- One item: committed where it is plausible with its reference present; otherwise it keeps its old value and counts as failed
(R420). Log: DEDUCED 108. -/
def State.calItem (s : State) (q : CalQuantity) (i : CalItem) : State :=
  let plausible := i.plausible && wordPlausible q i.word
  if plausible && i.refPresent && calWordOk i.word && !s.calLost q i then s.commitCal q i
  else
    let s := { s with cal := { s.cal with failed := s.cal.failed + 1 } }
    if i.refPresent && !plausible then s.count kCal 0 0 1 else s

/-- The first items of a calibration run, in order; the engine is dark again (R420). Log: DEDUCED 108. -/
def State.runCal (s : State) (q : CalQuantity) (e : Nat) (items : List CalItem) : State :=
  let s := (loseReference false (items.foldr insertItem [])).foldl (fun t i => t.calItem q i) s
  if isOptical q then s.modEngine e darkenEngine else s

/-- A calibration run ends with all of its items. Log: DEDUCED 108. -/
def State.endCal (s : State) (o : LongOp) (q : CalQuantity) (e : Nat) (items : List CalItem) : State :=
  let s := s.runCal q e items
  s.endLong { o.full with word2 := BitVec.ofNat 64 s.cal.failed } .done .ok

/-- LONG_OPERATION_END: the operation of a mailbox ends with its last progress (R356). A teardown ends with its scrub.
Log: DESIGN CHOICE 85. -/
def execLongOperationEnd (mbx : MbxIx) (s : State) : Host.Outcome State Fault Refusal :=
  .next <| match s.longIn mbx with
    | none => s
    | some o =>
      match o.kind with
      | .teardown _ => s
      | .imageInstall _ addr len key => s.endImage o addr.toNat len key
      | .holdEnter => (s.setModState .serviceHold).endLong o.full .done .ok
      | .holdLeave => (s.setModState (if s.short then .degraded else .ready)).endLong o.full .done .ok
      | .fwWrite _ addr len => s.endFwWrite o addr.toNat len
      | .fwVerify => s.endFwVerify o
      | .dumpRead part slot off len ctx addr => s.endDump o part slot off len ctx addr.toNat
      | .selftest chan failed total permanent => s.endTest o chan failed total permanent
      | .linkMargin link => s.endMargin o link.val
      | .calRun q e items => s.endCal o q e.val items

/-- What an operation that is stopped after `done` of its units leaves: the bytes written of a package, whose slot stays invalid
(R360); the bytes copied of a dump; the committed items of a calibration run (R422), whose engine is dark again. Answers its third
result word. -/
def State.partDone (s : State) (o : LongOp) (done : Nat) : State × W64 :=
  match o.kind with
  | .fwWrite _ addr _ =>
    match s.keeperRead addr.toNat done with
    | (s, some b) => (s.writeSlot b, o.word2)
    | (s, none) => (s, o.word2)
  | .dumpRead part slot off _ ctx addr =>
    if (s.context ctx.val).state ≠ .opened then (s, o.word2)
    else (s.applyWrite .keeper addr.toNat ((s.dump part.val slot.val).bytes off done) false, o.word2)
  | .calRun q e items =>
    let s := s.runCal q e.val ((items.foldr insertItem []).take done)
    (s, BitVec.ofNat 64 s.cal.failed)
  | _ => (s, o.word2)

/-- CANCEL_SAFE_POINT: an operation told to stop ends CANCELLED, its words holding what was done (R358), of its units (Table 11.15);
an image installation has written no region. -/
def execCancelSafePoint (mbx : MbxIx) (done : Nat) (s : State) : Host.Outcome State Fault Refusal :=
  .next <| match s.longIn mbx with
    | some o =>
      if o.cancelling then
        let n := match o.kind with | .imageInstall .. => 0 | _ => min done o.total
        let r := s.partDone o n
        r.1.endLong { o with done := n, word2 := r.2 } .cancelled .cancelled
      else s
    | none => s

/-- A calibration run that lights an engine of a cartridge. -/
def LongOp.lights (o : LongOp) (c : Nat) : Bool :=
  match o.kind with
  | .calRun q e _ => isOptical q && decide (e.val / 4 = c)
  | _ => false

/-- CARTRIDGE_PRESENCE_LOSS: outside service hold the lasers go off, the engines' links go DOWN and CARTRIDGE_LOST is raised
(R236). In the hold an optical calibration run of that cartridge ends STATE (R422). -/
def execCartridgePresenceLoss (cart : Fin 2) (s : State) : Host.Outcome State Fault Refusal :=
  let c := cart.val
  .next <| if !(s.cart c).present then s
    else
      let s := (s.modCart c fun x => { x with present := false, read := false }).darkenCart c
      if s.modState = .serviceHold then
        match s.keeper.longOps.find? fun o => o.lights c with
        | some o => s.endLong o .failed .state
        | none => s
      else
        let s := (cartEngines c).foldl State.engineDown s
        s.raise (if c = 0 then 0 else 3) { cause := .cartridgeLost, suspect := cartChan c }

end Sys2Proof.Machine
end

