-- ==== Sys2Proof/Machine/Attestation.lean ====
section
/-! DEFINITION. Attestation with SPDM (R433–R435): connections, measurements and sessions. -/

namespace Sys2Proof.Machine

/-! ### Connections -/

/-- The module answers on a transport: PCIe DOE on a port that is up, MCTP on a binding that is (R433). -/
def State.spdmUp (s : State) : SpdmConn → Bool
  | .doe p => s.keeper.idore && (s.port p).serves
  | .mctp b _ => s.bindingUp b

/-- Phase that a connection has reached. -/
def State.spdmPhase (s : State) (c : SpdmConn) : SpdmPhase := ((s.sec.phases.find? fun p => p.1 = c).map fun p => p.2).getD .start

/-- Set a connection's phase. -/
def State.setPhase (s : State) (c : SpdmConn) (p : SpdmPhase) : State :=
  { s with sec := { s.sec with phases := (s.sec.phases.filter fun q => q.1 ≠ c) ++ [(c, p)] } }

/-- Send a response; an error is counted (SEC_SPDM_STAT). -/
def State.spdmError (s : State) (c : SpdmConn) (a : SpdmAnswer) : State := (s.count kSpdm 0 spError 1).emit (.spdm c a)

/-- A request: where the transport is up it is counted, and `body` answers it. -/
def State.spdm (s : State) (c : SpdmConn) (body : State → State) : Host.Outcome State Fault Refusal :=
  .next (if s.spdmUp c then body (s.count kSpdm 0 spRequest 1) else s)

/-- A request after negotiation: with uds absent it ends Unspecified (R435), and before NEGOTIATE_ALGORITHMS it is unexpected.
Log: PRESUMED 122. -/
def State.spdmAfter (s : State) (c : SpdmConn) (body : BitVec 384 → State → State) : Host.Outcome State Fault Refusal :=
  s.spdm c fun s =>
    match s.sec.uds, s.sec.aliasKey with
    | some _, some key => if s.spdmPhase c = .algorithms then body key s else s.spdmError c .errorUnexpected
    | _, _ => s.spdmError c .errorUnspecified

/-! ### Negotiation -/

/-- SPDM_GET_VERSION: version 1.3 only; it starts the connection's negotiation (R433). Log: PRESUMED 122. -/
def execSpdmGetVersion (c : SpdmConn) (s : State) : Host.Outcome State Fault Refusal :=
  s.spdm c fun s => (s.setPhase c .version).emit (.spdm c (.version 0x13))

/-- SPDM_GET_CAPABILITIES (R433). Log: PRESUMED 122. -/
def execSpdmGetCapabilities (c : SpdmConn) (s : State) : Host.Outcome State Fault Refusal :=
  s.spdm c fun s =>
    if s.spdmPhase c = .version then (s.setPhase c .capabilities).emit (.spdm c .capabilities) else s.spdmError c .errorUnexpected

/-- SPDM_NEGOTIATE_ALGORITHMS: only the algorithms of R433 are chosen. -/
def execSpdmNegotiateAlgorithms (c : SpdmConn) (supported : Bool) (s : State) : Host.Outcome State Fault Refusal :=
  s.spdm c fun s =>
    if s.spdmPhase c ≠ .capabilities then s.spdmError c .errorUnexpected
    else (if supported then s.setPhase c .algorithms else s).emit (.spdm c (.algorithms supported))

/-! ### Identity and measurements -/

/-- SPDM_GET_DIGESTS: the digest of slot 0's chain (R433). -/
def execSpdmGetDigests (c : SpdmConn) (s : State) : Host.Outcome State Fault Refusal :=
  s.spdmAfter c fun key s => s.emit (.spdm c (.digests (Config.chainDigest key)))

/-- SPDM_GET_CERTIFICATE: slot 0 only (R433). Log: PRESUMED 122. -/
def execSpdmGetCertificate (c : SpdmConn) (slot : Nat) (s : State) : Host.Outcome State Fault Refusal :=
  s.spdmAfter c fun _ s => if slot = 0 then s.emit (.spdm c (.certificate 0)) else s.spdmError c .errorInvalid

/-- A signature with the Alias key over the connection's transcript. -/
def State.spdmSign (s : State) (key : BitVec 384) (nonce : BitVec 256) : BitVec 768 :=
  Config.sign key (Config.transcript s.freeIx nonce)

/-- SPDM_CHALLENGE: slot 0, signed with the Alias key (R433). -/
def execSpdmChallenge (c : SpdmConn) (slot : Nat) (nonce : BitVec 256) (s : State) : Host.Outcome State Fault Refusal :=
  s.spdmAfter c fun key s =>
    if slot = 0 then s.spend.emit (.spdm c (.challenge (s.spdmSign key nonce))) else s.spdmError c .errorInvalid

/-- Measurement `i` of Table 15.4: 4, 7 and 8 as fuses and images stand, the others as this start took them.
Log: DESIGN CHOICE 123. -/
def State.measurement (s : State) (i : Nat) : BitVec 384 :=
  if i = 4 then
    Config.sha384 (leBytes 4 s.sec.svn ++ leBytes 1 ((s.sec.ownerState.getD 2).toNat) ++ leBytes 1 (s.sec.vendorDebugOff.getD true).toNat)
  else if i = 7 then s.sec.ownerHash.getD 0
  else if i = 8 then
    Config.sha384 (s.compute.images.flatMap fun x => leBytes 4 x.id.toNat ++ leBytes 48 (Config.sha384 x.bytes).toNat)
  else Store.get 0 s.sec.measures i

/-- SPDM_GET_MEASUREMENTS: the indices asked for, from one snapshot, signed on request; an index that Table 15.4 does not give is
invalid (R433, R434). Log: PRESUMED 122. -/
def execSpdmGetMeasurements (c : SpdmConn) (indices : List (Fin 9)) (signed : Bool) (nonce : BitVec 256) (s : State) :
    Host.Outcome State Fault Refusal :=
  s.spdmAfter c fun key s =>
    if indices.contains 0 then s.spdmError c .errorInvalid
    else
      let blocks := indices.map fun i => (i.val, s.measurement i.val)
      let t := if signed then s.spend else s
      t.emit (.spdm c (.measurements blocks (if signed then some (s.spdmSign key nonce) else none)))

/-! ### Sessions -/

/-- A session of a connection. -/
def State.session (s : State) (c : SpdmConn) (id : Nat) : Option Session := s.sec.sessions.find? fun x => x.id = id && x.conn = c

/-- An established session of a connection. -/
def State.openSession (s : State) (c : SpdmConn) (id : Nat) : Bool :=
  match s.session c id with
  | some x => x.established
  | none => false

/-- Change a session by `f`. -/
def State.modSession (s : State) (c : SpdmConn) (id : Nat) (f : Session → Session) : State :=
  { s with sec := { s.sec with sessions := s.sec.sessions.map fun x => if x.id = id && x.conn = c then f x else x } }

/-- A session ends. -/
def State.dropSession (s : State) (c : SpdmConn) (id : Nat) : State :=
  { s with sec := { s.sec with sessions := s.sec.sessions.filter fun x => !(x.id = id && x.conn = c) } }

/-- A connection over MCTP. -/
def overMctp : SpdmConn → Bool
  | .mctp _ _ => true
  | .doe _ => false

/-- SPDM_KEY_EXCHANGE: over MCTP only, at most four sessions in the module (Table 15.3). -/
def execSpdmKeyExchange (c : SpdmConn) (s : State) : Host.Outcome State Fault Refusal :=
  s.spdmAfter c fun _ s =>
    if !overMctp c then s.spdmError c .errorUnsupported
    else if 4 ≤ s.sec.sessions.length then s.spdmError c .errorSessionLimit
    else
      let id := s.sec.nextSession
      let x : Session := { id, conn := c, established := false, updates := 0 }
      { s with sec := { s.sec with sessions := s.sec.sessions ++ [x], nextSession := id + 1 } }.emit (.spdm c (.keyExchange id))

/-- SPDM_FINISH: a handshake whose FINISH verifies establishes its session; one that does not ends it. Log: PRESUMED 122. -/
def execSpdmFinish (c : SpdmConn) (session : Nat) (verified : Bool) (s : State) : Host.Outcome State Fault Refusal :=
  s.spdmAfter c fun _ s =>
    match s.session c session with
    | some x =>
      if x.established then s.spdmError c .errorInvalid
      else if verified then
        ((s.modSession c session fun y => { y with established := true }).count kSpdm 0 spOpened 1).emit (.spdm c .finish)
      else (s.dropSession c session).spdmError c .errorDecrypt
    | none => s.spdmError c .errorInvalid

/-- SPDM_END_SESSION: installed link keys stay (R436). -/
def execSpdmEndSession (c : SpdmConn) (session : Nat) (s : State) : Host.Outcome State Fault Refusal :=
  s.spdmAfter c fun _ s =>
    if s.openSession c session then ((s.dropSession c session).count kSpdm 0 spEnded 1).emit (.spdm c .endSession)
    else s.spdmError c .errorInvalid

/-- SPDM_KEY_UPDATE (Table 15.3). -/
def execSpdmKeyUpdate (c : SpdmConn) (session : Nat) (s : State) : Host.Outcome State Fault Refusal :=
  s.spdmAfter c fun _ s =>
    if s.openSession c session then (s.modSession c session fun x => { x with updates := x.updates + 1 }).emit (.spdm c .keyUpdate)
    else s.spdmError c .errorInvalid

/-- SPDM_HEARTBEAT: its period is 0, so no session times out (Table 15.3). -/
def execSpdmHeartbeat (c : SpdmConn) (session : Nat) (s : State) : Host.Outcome State Fault Refusal :=
  s.spdmAfter c fun _ s =>
    if s.openSession c session then s.emit (.spdm c .heartbeat) else s.spdmError c .errorInvalid

/-- SPDM_UNSUPPORTED_REQUEST: ERROR UnsupportedRequest (Table 15.3), or Unspecified with uds absent (R435). -/
def execSpdmUnsupportedRequest (c : SpdmConn) (_code : Byte) (s : State) : Host.Outcome State Fault Refusal :=
  s.spdm c fun s => s.spdmError c (if s.sec.uds.isNone then .errorUnspecified else .errorUnsupported)

end Sys2Proof.Machine
end

