-- ==== Sys2Proof/Machine/Console.lean ====
section
/-! DEFINITION. The service console and the recovery of a module in FAILED (R441–R446, R450, R454). A printed line that is not a result
is given as its item with its values. -/

namespace Sys2Proof.Machine

/-! ### Lines -/

/-- The console hears a line: Idore serves it from stage 2, the boot ROM before that and in FAILED (R441); while a command runs every
character but Ctrl-C is discarded (R442). -/
def State.consoleHears (s : State) : Bool := s.keeper.rom && !s.console.busy

/-- The console takes a line: characters are valid again after a break (R467). Log: DESIGN CHOICE 124. -/
def State.heard (s : State) : State := { s with console := { s.console with breaking := false } }

/-- Print the last line of a command that did not run. -/
def State.notRun (s : State) (st : FwStatus) : State := s.emit (resultLine st)

/-- The module is in FAILED and the boot ROM serves the console (R450). -/
def State.romServes (s : State) : Bool := decide (s.modState = .failed) && !s.keeper.idore

/-- Header of a console command: mailbox 15, the next sequence number. -/
def State.consoleHdr (s : State) : CmdHdr :=
  { caller := .console, seq := BitVec.ofNat 8 (field (s.mailbox 15).cstat 20 8 + 1), buffer := false, userTag := 0, argsOk := true }

/-- What a firmware command leaves. -/
def State.after (s : State) (o : Host.Outcome State Fault Refusal) : State :=
  match o with
  | .next t => t
  | _ => s

/-- Issue a firmware command through mailbox 15: the console is busy until it ends (R442). -/
def State.issue (s : State) (f : CmdHdr → State → Host.Outcome State Fault Refusal) : State :=
  let s := { s with console := { s.console with busy := true } }
  s.after (f s.consoleHdr s)

/-- Numbers as printed values. -/
def nums (ns : List Nat) : List Int := ns.map Int.ofNat

/-- Stop causes of the power stage as printed. -/
def stopCode : PsStopCause → Nat
  | .undervoltage => 1 | .overvoltage => 2 | .outputOver => 3 | .overcurrent => 4 | .hotspot => 5 | .busUnder => 6

/-- `info`: serial numbers, boot count, versions, and the power stage's last stop cause (R392). -/
def State.infoLine (s : State) : Out :=
  .line "info" (nums ((s.serialNumbers.map fun w => w.toNat) ++ [s.keeper.bootCount.toNat, s.slotVersion 0, s.slotVersion 1]
    ++ match s.power.lastStop with | some c => [stopCode c] | none => []))

/-- `status`: the status word's fields and the clock pairs and channels that the ledger marks. -/
def State.statusLine (s : State) : Out :=
  .line "status" (nums ([field s.keeper.status 28 4, field s.keeper.status 24 4, field s.keeper.status 16 8]
    ++ (openEntries s.faults.ledger).map fun e => e.chan.toNat))

/-- `faults`: a line for each record from the oldest pending one. -/
def State.faultLines (s : State) : List Out :=
  let rs := match s.faults.queue with | n :: _ => s.recordsFrom n | [] => s.faults.log
  rs.map fun r => .line "fault" (nums [(r.seq.getD 0).toNat, (causeCode r.cause).toNat, r.suspect.toNat, r.cls.val, r.count, actionCode r.action])

/-- `ledger`: a line for each entry. -/
def State.ledgerLines (s : State) : List Out :=
  s.faults.ledger.map fun e => .line "ledger" (nums [e.seq.toNat, e.action.toNat, e.chan.toNat, e.spare.toNat, e.data.toNat])

/-- Commands that the console accepts before ready (R444). Log: DESIGN CHOICE 125. -/
def earlyConsole : ConsoleCmd → Bool
  | .info | .status | .faults | .ledger | .reset => true
  | _ => false

/-- CONSOLE_LINE: a line of at most 128 characters is parsed; a longer one, or one that overran the buffer, prints ERR overrun (R442–R444).
In FAILED the boot ROM serves only its own commands. Log: DESIGN CHOICE 124. -/
def execConsoleLine (chars : List Byte) (cmd : ConsoleCmd) (overrun : Bool) (s : State) : Host.Outcome State Fault Refusal :=
  .next <| if !s.consoleHears then s
    else if overrun ∨ 128 < chars.length then s.heard.emit (.line "ERR overrun" [])
    else
      let s := s.heard
      if s.romServes then s.notRun .notReady
      else if !s.keeper.idore then s
      else if !s.ready ∧ !earlyConsole cmd then s.notRun .notReady
      else
        match cmd with
        | .info => (s.emit s.infoLine).issue execCmdIdentify
        | .status => (s.emit s.statusLine).notRun .ok
        | .faults => (s.emits s.faultLines).issue fun h => execCmdFaultRead h (s.faults.queue.headD 0)
        | .ledger => (s.emits s.ledgerLines).issue fun h => execCmdLedgerRead h 0
        | .reset => s.issue fun h => execCmdReset h 0
        | .holdEnter => s.issue execCmdServiceHoldEnter
        | .holdLeave => s.issue execCmdServiceHoldLeave
        | .unknown => s.notRun .badCode

/-- CONSOLE_CTRL_C: CMD_CANCEL for the running command (R442, R358); one that cannot be cancelled goes on. Log: DESIGN CHOICE 125. -/
def execConsoleCtrlC (s : State) : Host.Outcome State Fault Refusal :=
  .next <| match s.longIn 15 with
    | some o => if o.cancellable then s.modLong (fun x => x.mbx = 15) fun x => { x with cancelling := true } else s
    | none => s

/-- UART_BREAK: characters are discarded until the next valid one (R467). -/
def execUartBreak (s : State) : Host.Outcome State Fault Refusal :=
  .next { s with console := { s.console with breaking := true } }

/-! ### Tests and readings -/

/-- The link whose margin is tested: a link channel, or the fiber that carries one. -/
def marginLink (c : Chan) : LinkIx :=
  if chanKind c = 0x28 then Fin.ofNat 64 (chanBits c 18 6) else Fin.ofNat 64 (8 * chanBits c 21 3 + chanBits c 17 4)

/-- CONSOLE_TEST: in the state that Table 16.1 gives, CMD_SELFTEST for one channel, or CMD_LINK_MARGIN for a link (R444, R445); a
padlocked channel is skipped (R446). Log: DESIGN CHOICE 107, 149, 182. -/
def execConsoleTest (chan : Chan) (hold linkState anyState : Bool) (failed total : Nat) (permanent : Bool) (s : State) :
    Host.Outcome State Fault Refusal :=
  .next <| if !s.consoleHears then s
    else
      let s := s.heard
      let m := s.modState
      let allowed : Bool := if hold then m = .serviceHold
        else if linkState then true
        else if anyState then m ≠ .failed
        else m = .ready || decide (m = .degraded)
      if s.romServes then s.notRun .notReady
      else if !s.keeper.idore then s
      else if !s.ready then s.notRun .notReady
      else if !allowed then s.notRun .state
      else if s.isPadlocked chan then s.emit (.line "RESULT SKIP PADLOCKED" [])
      else if linkState then s.issue fun h => execCmdLinkMargin h (marginLink chan)
      else s.issue fun h => execCmdSelftest h chan failed total permanent

/-- A rail whose loads are all padlocked or absent is off (R448). -/
def State.railOff (s : State) (rail : Nat) : Bool :=
  !(s.rail rail).up || (!(railLoads rail).isEmpty && (railLoads rail).all fun c => s.faults.padlocked.contains c)

/-- CONSOLE_READ_RAIL: a rail's voltage and power, or CAL_VREF, for information (Table 16.1, R448). Log: DESIGN CHOICE 149. -/
def execConsoleReadRail (rail : Option Byte) (mv mw : Nat) (s : State) : Host.Outcome State Fault Refusal :=
  .next <| if !s.consoleHears then s
    else
      let s := s.heard
      if s.romServes then s.notRun .notReady
      else if !s.keeper.idore then s
      else if !s.ready then s.notRun .notReady
      else
        match rail with
        | none => (s.emit (.line "vref INFO" (nums [mv]))).notRun .ok
        | some r =>
          if (railSpec r.toNat).isNone then s.notRun .badArgs
          else if s.railOff r.toNat then (s.emit (.line "rail off INFO" (nums [r.toNat]))).notRun .ok
          else (s.emit (.line "rail INFO" (nums [r.toNat, mv, mw]))).notRun .ok

/-! ### Flash and recovery -/

/-- A part formatted from the other part, or with the defaults and the keeper's ledger where the other part does not serve (R454).
Log: DEDUCED 126. -/
def State.format (s : State) (k : Nat) : State :=
  let q := s.part (1 - k)
  let from_ : FlashPart := if q.out || !q.formatted then
      { FlashPart.reset with journal := openEntries s.faults.ledger, boot := some { s.bootRecord with count := s.keeper.bootCount } }
    else q
  s.modPart k fun p => { p with
    formatted := true, slotValid := false, verified := false, package := [], profile1 := from_.profile1, profile2 := from_.profile2
    journal := from_.journal, boot := from_.boot, dump0 := .erased, dump1 := .erased }

/-- FLASH_FORMAT: in SERVICE_HOLD, erases and formats a part whose header is absent (R454); other parts end STATE.
Log: DEDUCED 126. -/
def execFlashFormat (part : Fin 2) (s : State) : Host.Outcome State Fault Refusal :=
  .next <| if !s.consoleHears then s
    else
      let s := s.heard
      let p := s.part part.val
      if s.romServes then s.notRun .notReady
      else if !s.keeper.idore then s
      else if !s.ready then s.notRun .notReady
      else if s.modState ≠ .serviceHold ∨ p.formatted then s.notRun .state
      else if p.out then s.notRun .noResource
      else (s.format part.val).notRun .ok

/-- The console's answer to a boot ROM command outside FAILED. Log: DESIGN CHOICE 124. -/
def State.romElsewhere (s : State) : State :=
  if !s.keeper.idore then s else s.notRun (if s.ready then .state else .notReady)

/-- What `rom info` prints of a slot: the first step of R428 that failed, its fw_svn, the svn counter and the boot record (R450).
Log: DESIGN CHOICE 124. -/
def State.romLine (s : State) (k : Nat) : Out :=
  let r := s.bootRecord
  .line (if k = 0 then "slot A" else "slot B")
    (nums [s.slotStep k, pkgSvn (s.part k).package, s.sec.svn, r.count.toNat, r.preferB.toNat, r.trial.toNat, r.trialStarts])

/-- ROM_INFO (R450). -/
def execRomInfo (s : State) : Host.Outcome State Fault Refusal :=
  .next <| if !s.consoleHears then s
    else
      let s := s.heard
      if s.romServes then (s.emits [s.romLine 0, s.romLine 1]).notRun .ok else s.romElsewhere

/-- ROM_LOAD: a package by XMODEM-1K into a slot whose header is marked invalid first and written last, then verified (R450). A part
without a header takes one first, so that a module with two erased parts recovers (R455); a transfer whose CRC fails leaves the slot
invalid. Log: DEDUCED 126. -/
def execRomLoad (part : Fin 2) (image : List Byte) (crcOk : Bool) (s : State) : Host.Outcome State Fault Refusal :=
  .next <| if !s.consoleHears then s
    else
      let s := s.heard
      let k := part.val
      if !s.romServes then s.romElsewhere
      else if (s.part k).out then s.notRun .noResource
      else
        let s := s.modPart k fun p =>
          if p.formatted then { p with slotValid := false, verified := false, package := [] }
          else { FlashPart.reset with slotValid := false, boot := none }
        if !crcOk then s.notRun .cancelled
        else
          let s := s.modPart k fun p => { p with package := image, slotValid := true }
          let f := s.slotFault k
          (s.modPart k fun p => { p with verified := f.isNone }).notRun
            (match f with | none => .ok | some 6 => .fwRollback | some _ => .fwVerifyFail)

/-- ROM_BOOT: the module starts again from the boot records (R450), and the boot ROM no longer holds FAULT_N. Log: DEDUCED 126. -/
def execRomBoot (s : State) : Host.Outcome State Fault Refusal :=
  .next <| if !s.consoleHears then s
    else
      let s := s.heard
      if !s.romServes then s.romElsewhere
      else
        let s := { s with faults := { s.faults with faultN := { s.faults.faultN with held := false } } }
        (s.notRun .ok).startRom

end Sys2Proof.Machine
end

