-- ==== Sys2Proof/Machine/FaultOps.lean ====
section
/-! DEFINITION. Fault reports and records on their way to the keeper (R365–R375, R377), FAULT_N (R381), the heartbeats and the watchdog
(R332, R333), and the commit of ledger entries (R337). -/

namespace Sys2Proof.Machine

/-! ### Heartbeats and the watchdog -/

/-- LATCH_HEARTBEAT: the keeper answers a latch's heartbeat (R332). -/
def execLatchHeartbeat (die : BaseDie) (s : State) : Host.Outcome State Fault Refusal :=
  .next <| if die ≠ 0 ∧ (s.latch die.val).running ∧ s.keeper.idore then
      ({ s with keeper := { s.keeper with heartbeats := Store.modify 0 s.keeper.heartbeats die.val (· + 1) } }).emit
        (.signal (.heartbeatAnswer die))
    else s

/-- A latch that started in this start is lost: the fault of R332, whose class FATAL resets the module. Log: DEDUCED 113. -/
def State.latchLost (s : State) (die : BaseDie) : State :=
  if s.keeper.idore then s.raise 0 { cause := .latchLost, suspect := baseChan die.val, reporter := baseChan 0 } else s

/-- LATCH_HEARTBEAT_TIMEOUT: the latch is declared failed (R332). Log: DEDUCED 113. -/
def execLatchHeartbeatTimeout (die : BaseDie) (s : State) : Host.Outcome State Fault Refusal :=
  .next <| if die ≠ 0 ∧ (s.latch die.val).loaded then
      (s.modLatch die.val fun l => { l with running := false }).latchLost die
    else s

/-- KEEPER_ANSWER_TIMEOUT: the latch holds its die's power caps and keeps its loops running; the keeper, if it runs, resets the
module (R332). Log: DEDUCED 113. -/
def execKeeperAnswerTimeout (die : BaseDie) (s : State) : Host.Outcome State Fault Refusal :=
  .next <| if die ≠ 0 ∧ (s.latch die.val).running then
      (s.modLatch die.val fun l => { l with capsHeld := true }).latchLost die
    else s

/-- WATCHDOG_EXPIRY: a whole-module reset starts, with a pulse of FAULT_N (R333, Table 12.8). The watchdog runs from the release of
the boot ROM. -/
def execWatchdogExpiry (s : State) : Host.Outcome State Fault Refusal :=
  .next <| if !s.keeper.rom then s
    else
      let idle := s.faults.seqr.active.isNone
      let s := s.beginReset .watchdog
      if idle then s.emit .faultPulse else s

/-- STATUS_HEARTBEAT_TICK: heartbeat advances, modulo 256 (R344). Log: DEDUCED 114. -/
def execStatusHeartbeatTick (s : State) : Host.Outcome State Fault Refusal :=
  .next <| if s.keeper.statusWritten ∧ s.keeper.idore then
      s.putStatus (putField s.keeper.status 8 8 (field s.keeper.status 8 8 + 1))
    else s

/-! ### The commit of a ledger entry -/

/-- One part's write of an entry: read back good it holds the entry; otherwise the part is permanent (Table 12.2).
Log: DEDUCED 115; DESIGN CHOICE 36. -/
def State.commitTo (s : State) (k : Nat) (e : LedgerEntry) (good : Bool) : State :=
  if (s.part k).out || !(s.part k).formatted then s
  else if good then s.modPart k fun p => p.append e
  else s.declareWith (flashChan k) .retryFail (BitVec.ofNat 64 e.seq.toNat) 0

/-- LEDGER_COMMIT_COMPLETE: the journal entry has been read back from both parts (R337). During a reset that a running keeper quiesces for,
none is committed but those then in progress (R384). -/
def execLedgerCommitComplete (seq : BitVec 28) (readBackA readBackB : Bool) (s : State) : Host.Outcome State Fault Refusal :=
  .next <| match s.faults.uncommitted.find? fun e => e.seq = seq with
    | none => s
    | some e =>
      if s.keeper.idore && s.faults.seqr.active.isSome && decide (s.faults.seqr.active ≠ some .watchdog) && !s.faults.seqr.commits.contains e
      then s else
      let s := { s with faults := { s.faults with uncommitted := s.faults.uncommitted.erase e } }
      (s.commitTo 0 e readBackA).commitTo 1 e readBackB

/-! ### Reports -/

/-- Fault status of an operator by the cause that fails it (Table 12.6); 0 where it waits on. -/
def causeStatus (c : Cause) (detail : W64) : Byte :=
  match c with
  | .reservedSram => 0x82
  | .unmapped => 0x83
  | .isolation => 0x84
  | .poisonRead => 0x85
  | .uncorrectable => 0x86
  | .partialPoisonWrite => 0x87
  | .withdrawn => 0x88
  | .windowRefused => 0x89
  | .remoteStatus => if 1 ≤ detail.toNat ∧ detail.toNat ≤ 5 then BitVec.ofNat 8 (0x89 + detail.toNat) else 0
  | .critAbsent => 0x90
  | _ => 0

/-- The logical ward on which a reporting tumbler or ward stands. -/
def State.reporterWard (s : State) (c : Chan) : Option (Nat × Nat) :=
  if chanKind c = 1 ∨ chanKind c = 2 then (s.logWard (chanBits c 20 4) (chanBits c 15 5)).map fun w => (chanBits c 20 4, w) else none

/-- The operators that a report fails are released on the ward that meets the fault (R374). -/
def State.failReported (s : State) (reporter : Chan) (ctx : CtxId) (gen : Gen) (ops : List W32) (st : Byte) : State :=
  match s.reporterWard reporter with
  | some (d, w) => ops.foldl (fun t o => t.failOnWard d w ctx gen o st) s
  | none => s

/-- A count that reached its threshold (Table 12.2): a die-to-die group and a pseudo-channel start a test; every other channel is
permanent. The report of a row's count does not name the row, whose address is a free value. -/
def State.atThreshold (s : State) (c : Chan) : State :=
  match chanKind c with
  | 0x11 => s.stopGroup (chanBits c 21 3) (chanBits c 17 3) (chanDir c) .threshold
  | 0x18 =>
    s.modStack (chanBits c 20 4) fun k =>
      { k with eyeTests := if k.eyeTests.contains (chanBits c 14 6) then k.eyeTests else k.eyeTests ++ [chanBits c 14 6] }
  | 0x19 => s.spend.declareWith c .threshold (BitVec.ofNat 64 (Store.get 0 s.faults.transients c.toNat)) (s.fresh.setWidth 32)
  | k =>
    let n := BitVec.ofNat 64 (Store.get 0 s.faults.transients c.toNat)
    if 0x20 ≤ k ∧ k ≤ 0x25 then s.loseOptic c .threshold n else s.declareWith c .threshold n 0

/-- Counters of a stack that a transient moves: bus retries and corrected symbols (R146, Table 5.10). -/
def State.countStack (s : State) (c : Chan) (n : Nat) : State :=
  match chanKind c with
  | 0x18 => s.count 4 (chanBits c 20 4) 2 n
  | 0x19 => s.count 4 (chanBits c 20 4) 0 n
  | _ => s

/-- What an uncorrectable error costs its suspect at once: a line is poisoned, a tumbler or a ward is permanent (R148, Table 12.2).
Log: DEDUCED 116. -/
def State.uncorrectableAt (s : State) (suspect : Chan) (detail : W64) : State :=
  match chanKind suspect with
  | 0x40 =>
    match s.place detail.toNat with
    | .cell h o => if h < 12 then (s.setPoison h o true).count 4 h 1 1 else s.setPoison h o true
    | _ => s
  | 0x01 | 0x02 => s.declare suspect .uncorrectable detail 0
  | _ => s

/-- A fault with its suspect: the report opens or joins its record, fails its operators, and a suspect that is not the reporter is
probed before it is acted on (R369–R371, R374). -/
def State.reportFault (s : State) (die : BaseDie) (cause : Cause) (suspect reporter : Chan) (detail : W64) (ctx : Option (CtxId × Gen))
    (ops : List W32) : State :=
  let st := if ops.isEmpty then 0 else causeStatus cause detail
  let known := s.isPadlocked suspect || s.faults.openRecs.any fun q => q.suspect = suspect && q.cause = cause && !q.closed
  let s := s.raise die { cause, suspect, reporter, detail, ctx, ops := if st = 0 then [] else ops, opStatus := st }
  let s := if st = 0 then s else
    match ctx with
    | some (c, g) => s.failReported reporter c g ops st
    | none => s
  if known then s
  else if cause = .uncorrectable then s.uncorrectableAt suspect detail
  else if cause = .tokenWait ∧ suspect ≠ reporter then s.probe suspect
  else s

/-- FAULT_REPORT: transients are counted and a threshold acted on; a permanent channel is padlocked and spared; a fault opens or joins
its record; an absent critical value is recorded (R362, R365, R369, R370, R377). Log: DEDUCED 116. -/
def execFaultReport (die : BaseDie) (report : Report) (s : State) : Host.Outcome State Fault Refusal :=
  .next <| match report with
    | .transient chan n =>
      if s.isPadlocked chan then s
      else
        let r := (s.countStack chan n).transient chan n
        if r.2 then (r.1.atThreshold chan).settleInsertions else r.1
    | .permanent chan cause detail data =>
      if s.isPadlocked chan then s
      else if 0x20 ≤ chanKind chan ∧ chanKind chan ≤ 0x25 then s.loseOptic chan cause detail
      else (s.declareWith chan cause detail data).settleInsertions
    | .fault cause suspect reporter detail ctx ops => ((s.reportFault die cause suspect reporter detail ctx ops).settleInsertions).settleRings
    | .critical word suspect detail submitted => if (critValue word).isNone then s.criticalAbsent die suspect detail submitted else s

/-! ### The keeper -/

/-- A record of a collector by its key. -/
def FaultRecord.isKey (r : FaultRecord) (die : BaseDie) (suspect : Chan) (cause : Cause) : Bool :=
  r.collector = die && r.suspect = suspect && decide (r.cause = cause)

/-- FAULT_RECORD_ARRIVAL: a record from a latch reaches the keeper (R371, R372). -/
def execFaultRecordArrival (die : BaseDie) (suspect : Chan) (cause : Cause) (s : State) : Host.Outcome State Fault Refusal :=
  .next <| match s.faults.sent.find? fun r => r.isKey die suspect cause with
    | some r =>
      if s.keeper.idore then
        ({ s with faults := { s.faults with sent := s.faults.sent.erase r } }.keeperTake r).settleRings
      else s
    | none => s

/-- FAULT_RECORD_HANDLE: the keeper takes the record at the head of its queue (R373). The action of a channel declared permanent is
carried out where it is declared; a record that asks for none takes action 1. A suspect under probe is waited for.
Log: DEDUCED 117. -/
def execFaultRecordHandle (s : State) : Host.Outcome State Fault Refusal :=
  .next <| if !s.keeper.idore then s
    else
      match s.faults.queue with
      | [] => s
      | n :: rest =>
        match s.faults.log.find? fun r => r.seq = some n with
        | none => { s with faults := { s.faults with queue := rest } }
        | some r =>
          if s.faults.probes.contains r.suspect ∧ r.action = .pending then s
          else
            let s := { s with faults := { s.faults with queue := rest } }
            if r.action = .pending then s.onRecord r.suspect r.cause fun x => { x with action := .none } else s

/-- The keeper's record takes what a latch merged since it sent its own, and closes when no collector holds its key open (R370,
R371). Log: DEDUCED 117. -/
def State.closeRecord (s : State) (r : FaultRecord) : State :=
  let others := s.faults.openRecs.any fun q => q.sameKey r && !q.closed
  match s.faults.log.find? fun q => q.sameKey r && !q.closed with
  | some x =>
    let y := if r.collector = 0 then x else { x with
      count := saturate (x.count + (r.count - 1)), lastTime := if x.lastTime.toNat < r.lastTime.toNat then r.lastTime else x.lastTime }
    s.recordChanged x { y with closed := !others }
  | none => s

/-- A record whose action is still to come: its key awaits action in the queue. -/
def State.awaits (s : State) (r : FaultRecord) : Bool :=
  r.action = .pending && s.faults.log.any fun q => q.sameKey r && !q.closed
    && (match q.seq with | some n => s.faults.queue.contains n | none => false)

/-- FAULT_RECORD_CLOSE: 10 ms after its action has completed, or at the next boundary, a collector's record closes (R370).
Log: DEDUCED 117. -/
def execFaultRecordClose (die : BaseDie) (suspect : Chan) (cause : Cause) (s : State) : Host.Outcome State Fault Refusal :=
  .next <| match s.faults.openRecs.find? fun r => r.isKey die suspect cause && !r.closed with
    | none => s
    | some r =>
      if s.awaits r || s.faults.sent.any fun q => q.isKey die suspect cause then s
      else { s with faults := { s.faults with openRecs := s.faults.openRecs.erase r } }.closeRecord r

/-- FAULT_N_PULSE_END: the pulse and its 2 µs of high level are over: one further pulse if records came meanwhile, and otherwise the
level that the policy gives (R381). Log: DEDUCED 112, 139. -/
def execFaultNPulseEnd (s : State) : Host.Outcome State Fault Refusal :=
  let f := s.faults.faultN
  .next <| if !f.pulsing then s
    else if f.again then
      { s with faults := { s.faults with faultN := { f with again := false, pulses := f.pulses + 1 } } }.emit .faultPulse
    else
      let hold : Bool := s.faults.policy = 1 || (decide (s.faults.policy = 2) && f.severe)
      let s := { s with faults := { s.faults with faultN := { f with pulsing := false, severe := false, held := f.held || hold } } }
      if hold then s.statusBit stFaultN true else s

end Sys2Proof.Machine
end

