-- ==== Sys2Proof/Machine/Registers.lean ====
section
/-! DEFINITION. Writes of registers that have no row of their own: by access code (R10), the mailbox registers (R348–R350) and
the doorbells and counts of the DBL block (Table 11.10). -/

namespace Sys2Proof.Machine

/-- A write of `n` bytes, the lowest of a register. -/
def narrow (old v : W64) (n : Nat) : W64 := if 8 ≤ n then v else putField old 0 (8 * n) v.toNat

/-- The agent is a host port. -/
def isHost : Agent → Bool
  | .host _ => true
  | _ => false

/-- A write to a register of mailbox `m`: from the host only mailboxes 0 to 11 take one (R347), and a busy mailbox refuses it
(R350). -/
def State.mailboxWrite (s : State) (agent : Agent) (m : MbxIx) (f : Mailbox → Mailbox) : State :=
  if isHost agent && decide (12 ≤ m.val) then s.count kTel 0 tsWindow 1
  else if s.mbxBusy m.val then s.markLost m.val
  else s.modMailbox m.val f

/-- DBL_MBX_RING: from the host only bits 0 to 11 act (Table 11.10). -/
def State.ringMailboxes (s : State) (agent : Agent) (v : W64) : State :=
  ((List.range (if isHost agent then 12 else 16)).filter fun m => v.getLsbD m).foldl State.ringMailbox s

/-- A tail that moves forward, and not more than `size` beyond the head (R104). Log: DEDUCED 89. -/
def tailOk (old new head : W32) (size : Nat) : Bool :=
  decide ((new - old).toNat < 0x80000000) && decide ((new - head).toNat ≤ size)

/-- A head that moves forward, and not beyond the tail. Log: DEDUCED 89. -/
def headOk (old new tail : W32) : Bool := decide ((new - old).toNat ≤ (tail - old).toNat)

/-- DBL_FWC_TAIL: a write narrower than 32 bits, backward, or more than the ring's size ahead is ignored (R352, R104). -/
def State.writeFwcTail (s : State) (v : W64) (n : Nat) : State :=
  let new := v.setWidth 32
  if 4 ≤ n && tailOk s.keeper.fwcTail new s.keeper.fwcHead 4096 then { s with keeper := { s.keeper with fwcTail := new } } else s

/-- DBL_EVT_HEAD: frees slots of the event ring. Log: DEDUCED 89. -/
def State.writeEvtHead (s : State) (v : W64) (n : Nat) : State :=
  let new := v.setWidth 32
  if 4 ≤ n && headOk s.keeper.evtHead new s.keeper.evtTail then { s with keeper := { s.keeper with evtHead := new } } else s

/-- LNK_VC_LIMIT: T_v of VCs 0 to 7 in 8 bits each, in units of 8, within 8 to 512 (Table 8.13, Table 11.3). -/
def vcLimits (v : W64) : Store Nat :=
  (List.range 8).foldl (fun m vc =>
    let t := min 512 (max 8 (8 * field v (8 * vc) 8))
    if t = defaultLimit vc then m else Store.put 0 m vc t) []

/-- Base die whose LNK block holds a link. -/
def linkBase (l : LinkIx) : Nat := engineBase (l.val / 8)

/-- A register of BAR0 that the host and the keeper write; reserved fields keep 0 (R9). Log: DESIGN CHOICE 86. -/
def State.writeShared (s : State) (agent : Agent) (reg : Reg) (v : W64) (n : Nat) : State :=
  match reg with
  | .mbxCmd m => s.mailboxWrite agent m fun x => { x with cmd := putField (narrow x.cmd v n) 8 10 0 }
  | .mbxBuf m => s.mailboxWrite agent m fun x => { x with buf := putField (narrow x.buf v n) 17 47 0 }
  | .mbxArg m k => s.mailboxWrite agent m fun x => { x with args := Store.put 0 x.args k.val (narrow (Store.get 0 x.args k.val) v n) }
  | .dblMbxRing => s.ringMailboxes agent (narrow 0 v n)
  | .dblFwcTail => s.writeFwcTail v n
  | .dblEvtHead => s.writeEvtHead v n
  | .dblEvtMask => { s with keeper := { s.keeper with evtMask := narrow s.keeper.evtMask v n } }
  | .telCtrl => { s with tel := { s.tel with ctrl := narrow s.tel.ctrl v n } }
  | .telPortMode =>
    if s.keeper.locked || decide (2 < field v 0 2) then s
    else { s with host := { s.host with mode := Fin.ofNat 3 (field v 0 2) } }
  | .mbxCstat _ | .mbxRes _ _ | .mbxStatus | .mbxStart | .dblMbxBusy | .dblFwcHead | .dblFwrTail | .dblEvtTail =>
    if isHost agent then s.count kTel 0 tsWindow 1 else s
  | _ => s

/-- OPT_ENGINE_CTRL as the keeper writes it: bit 8 is F8's spare mode, bits [7:0] the named peer (R233). Log: DESIGN CHOICE 86. -/
def Engine.writeCtrl (x : Engine) (v : W64) : Engine :=
  if x.f8For.isSome then x else x.setF8 (v.getLsbD 8) (v.setWidth 8)

/-- LNK_TWIN as the keeper writes it: bit 8 is valid, bits [5:0] the twin's index; a link is not its own twin, and a domain of more than
32 modules takes none (R267, R292). Log: DESIGN CHOICE 86. -/
def State.writeTwin (s : State) (l : LinkIx) (v : W64) : State :=
  let t := asLink (field v 0 6)
  if !v.getLsbD 8 then s.modLink l.val fun x => { x with twin := none }
  else if t = l || decide (32 < s.domain.size) then s
  else s.modLink l.val fun x => { x with twin := some t }

/-- A word of the window entry that DOM_WINDOW_SEL selects; reserved fields keep 0 (Tables 9.1, 9.8). -/
def State.writeWindow (s : State) (k : Fin 4) (v : W64) (n : Nat) : State :=
  let i := field s.domain.windowSel 0 16
  let e := Store.get windowReset s.domain.windows i
  let e := putField e (64 * k.val) 64 (narrow ((e >>> (64 * k.val)).setWidth 64) v n).toNat
  let e := putField (putField (putField (putField e 1 9 0) 64 10 0) 128 35 0) 188 68 0
  { s with domain := { s.domain with windows := Store.put windowReset s.domain.windows i e } }

/-- An inter-core interrupt from the keeper: keeper_pending is set, and the core's local interrupt is raised where it is enabled and none
was (R60, Table 2.9). -/
def State.interruptCore (s : State) (c : CoreIx) : State :=
  let before := (s.core c.val).identity
  let s := s.modCore c.val fun x => { x with keeperPending := true }
  if before = 0 ∧ (s.core c.val).identity ≠ 0 then s.emit (.coreInterrupt c) else s

/-- A register of another block, which the keeper writes over its own path. Log: DESIGN CHOICE 86. -/
def State.writeKeeper (s : State) (reg : Reg) (v : W64) (n : Nat) : State :=
  match reg with
  | .fltPolicy =>
    if s.keeper.locked || decide (2 < field v 0 2) then s
    else { s with faults := { s.faults with policy := Fin.ofNat 3 (field v 0 2) } }
  | .lnkVcLimit l =>
    if (s.base (linkBase l)).locked then s else s.modLink l.val fun x => { x with vcLimit := vcLimits v }
  | .lnkCtrl l => s.modLink l.val fun x => { x with encrypt := v.getLsbD 0 }
  | .hbmScrubCtrl d =>
    { s with mem := { s.mem with
      scrubShare := Store.put 4 s.mem.scrubShare d.val (min 16 (max 1 (field v 0 5)))
      patrolOff := Store.put false s.mem.patrolOff d.val (v.getLsbD 8) } }
  | .optLaserSel e => s.modEngine e.val fun x => { x with laserSel := narrow x.laserSel v n }
  | .optRingSel e => s.modEngine e.val fun x => { x with ringSel := narrow x.ringSel v n }
  | .optEngineCtrl e => s.modEngine e.val fun x => x.writeCtrl v
  | .lnkTwin l => s.writeTwin l v
  | .domWindowPort k => s.writeWindow k v n
  | .coreKeeperPending c => if v.getLsbD 0 then s.interruptCore c else s
  | .domWindowSel => { s with domain := { s.domain with windowSel := narrow s.domain.windowSel v n } }
  | .pwrRailSel d =>
    { s with power := { s.power with railSel := Store.put 0 s.power.railSel d.val (narrow (Store.get 0 s.power.railSel d.val) v n) } }
  | .thmDiodeSel d =>
    { s with thermal := { s.thermal with
      diodeSel := Store.put 0 s.thermal.diodeSel d.val (narrow (Store.get 0 s.thermal.diodeSel d.val) v n) } }
  | .calSel d => { s with cal := { s.cal with sel := Store.put 0 s.cal.sel d.val (narrow (Store.get 0 s.cal.sel d.val) v n) } }
  | _ => s

/-- A register of its own interrupt file that a core writes (Table 2.9). -/
def State.writeCore (s : State) (core : CoreIx) (reg : Reg) (v : W64) (n : Nat) : State :=
  match reg with
  | .coreRingPending c => if c = core then s.putCoreFile core 0x000 (narrow 0 v n) else s
  | .coreKeeperPending c => if c = core then s.putCoreFile core 0x008 (narrow 0 v n) else s
  | .coreRingEnable c => if c = core then s.putCoreFile core 0x010 (narrow (s.core core.val).ringEnable v n) else s
  | .coreKeeperEnable c => if c = core then s.putCoreFile core 0x018 v else s
  | _ => s

/-- REGISTER_WRITE: by access code; writes of RO and RC registers, of locked RWL registers and of other agents' registers are
ignored, and the host's writes of RO registers of the MBX and DBL blocks are counted (R10, R302, R347). Log: DESIGN CHOICE 86. -/
def execRegisterWrite (agent : Agent) (reg : Reg) (value : W64) (bytes : Nat) (s : State) : Host.Outcome State Fault Refusal :=
  match agent with
  | .core c => .next (s.writeCore c reg value bytes)
  | .console => .next s
  | .host _ => .next (s.hostWrite agent fun s => s.writeShared agent reg value bytes)
  | .keeper => .next ((s.writeShared agent reg value bytes).writeKeeper reg value bytes)

/-- MAILBOX_WRITE_WHILE_BUSY: refused and marked in DBL_MBX_LOST; the running command is unaffected (R350). -/
def execMailboxWriteWhileBusy (mbx : MbxIx) (s : State) : Host.Outcome State Fault Refusal :=
  .next (if s.mbxBusy mbx.val then s.markLost mbx.val else s)

/-- FWR_HEAD_WRITE: the host frees response slots (R352). Log: DEDUCED 89. -/
def execFwrHeadWrite (port : HostPort) (count : W32) (s : State) : Host.Outcome State Fault Refusal :=
  .next (s.hostWrite (.host port) fun s =>
    if headOk s.keeper.fwrHead count s.keeper.fwrTail then { s with keeper := { s.keeper with fwrHead := count } } else s)

end Sys2Proof.Machine
end

