-- ==== Sys2Proof/Machine/Thermal.lean ====
section
/-! DEFINITION. The thermal model (R397–R402): its step, the diodes, the limits and requests, the bands, the coolant check, and the
gradual application of calibration values (R423). Temperatures are in 0.01 °C. -/

namespace Sys2Proof.Machine

/-! ### Parts and nodes -/

/-- First node and number of nodes of a part within its complex's partition, in the order of Table 13.4. Parts are numbered 0–11
compute dies, 12–17 base dies, 18–29 stacks, 30–37 engines, 38–39 cartridges; the keeper's further nodes are 320–447.
Log: DESIGN CHOICE 119. -/
def partNodes (part : Nat) : Nat × Nat :=
  let mid (d : Nat) : Bool := d = 1 || d = 4
  if part < 12 then (96 * (part % 2), 96)
  else if part < 18 then (192, if mid (part - 12) then 80 else 64)
  else if part < 30 then
    let k := part - 18
    ((if mid (k / 2) then 272 else 256) + 24 * (k % 2), 24)
  else if part < 38 then (304 + 8 * ((part - 30) % 2), 8)
  else (320 + 64 * (part - 38), 64)

/-- Parts of a base die's partition. -/
def partsOf (die : Nat) : List Nat :=
  [2 * die, 2 * die + 1, 12 + die, 18 + 2 * die, 19 + 2 * die]
    ++ ((List.range 8).filter fun e => engineBase e = die).map (30 + ·)
    ++ (if die = 0 then [38, 39] else [])

/-- Channel of a part. -/
def partChan (part : Nat) : Chan :=
  if part < 12 then dieChan part
  else if part < 18 then baseChan (part - 12)
  else if part < 30 then stackChan (part - 18)
  else if part < 38 then siteChan (part - 30)
  else cartChan (part - 38)

/-- Part of a channel. -/
def chanPart (c : Chan) : Option Nat :=
  match chanKind c with
  | 0x03 => some (chanBits c 20 4)
  | 0x09 => some (12 + chanBits c 21 3)
  | 0x1B => some (18 + chanBits c 20 4)
  | 0x26 => some (30 + chanBits c 21 3)
  | 0x27 => some (38 + chanBits c 23 1)
  | _ => none

/-- Base die whose complex evaluates a part. -/
def partBase (part : Nat) : Nat :=
  if part < 12 then part / 2 else if part < 18 then part - 12 else if part < 30 then (part - 18) / 2
  else if part < 38 then engineBase (part - 30) else 0

/-- Temperature of a node. -/
def State.node (s : State) (die k : Nat) : Int := Store.get 0 s.thermal.nodes (1024 * die + k)

/-- Hottest node of a part (R397). -/
def State.modelHot (s : State) (die part : Nat) : Int :=
  let p := partNodes part
  ((List.range p.2).map fun i => s.node die (p.1 + i)).foldl max (s.node die p.1)

/-! ### Diodes and readouts (R399) -/

/-- Temperature of the model at a diode: dies 0–11 compute, 12–17 base. Log: DESIGN CHOICE 119. -/
def State.diodeModel (s : State) (die tdie k : Nat) : Int :=
  let p := partNodes tdie
  s.node die (p.1 + Config.diodeNode (12 * tdie + k) % p.2)

/-- A diode by its key. -/
def State.diode (s : State) (key : Nat) : Diode := Store.get Diode.reset s.thermal.diodes key

/-- Difference of two temperatures without its sign. -/
def apart (a b : Int) : Nat := (a - b).natAbs

/-- A diode takes its reading and counts the steps beyond 5 °C. -/
def State.readDiode (s : State) (die : Nat) (p : Nat × Int) : State :=
  let off := decide (500 < apart p.2 (s.diodeModel die (p.1 / 12) (p.1 % 12)))
  let next := Store.modify Diode.reset s.thermal.diodes p.1 fun d => { d with reading := p.2, diverging := if off then d.diverging + 1 else 0 }
  { s with thermal := { s.thermal with diodes := next } }

/-- Good diodes of a die, by key. -/
def State.goodDiodeKeys (s : State) (tdie : Nat) : List Nat :=
  ((List.range 12).map (12 * tdie + ·)).filter fun k => !(s.diode k).padlocked

/-- A good diode agrees with its node within a limit. -/
def State.agrees (s : State) (die lim key : Nat) : Bool :=
  decide (apart (s.diode key).reading (s.diodeModel die (key / 12) (key % 12)) ≤ lim)

/-- Steps of agreement after which a divergence ends: 1 s. -/
abbrev agreeSteps : Nat := 10000

/-- The comparison of a die's diodes (R399): one alone is permanent; two or more raise THERMAL and the die is in divergence until
every good diode has agreed within 2 °C for 1 s. Log: DEDUCED 120. -/
def State.compareDiodes (s : State) (die tdie : Nat) : State :=
  let good := s.goodDiodeKeys tdie
  let bad := good.filter fun k => 10 ≤ (s.diode k).diverging
  match Store.get none s.thermal.diverged tdie with
  | some n =>
    let n := if good.all (s.agrees die 200) then n + 1 else 0
    { s with thermal := { s.thermal with diverged := Store.put none s.thermal.diverged tdie (if agreeSteps ≤ n then none else some n) } }
  | none =>
    if 2 ≤ bad.length then
      let s := s.raise (asBase die) { cause := .thermal, suspect := partChan tdie, reporter := baseChan die }
      { s with thermal := { s.thermal with diverged := Store.put none s.thermal.diverged tdie (some 0) } }
    else
      match bad with
      | [k] =>
        if (good.filter fun j => j ≠ k).all (s.agrees die 200) then s.declareWith (diodeChan tdie (k % 12)) .threshold 10 0 else s
      | _ => s

/-- A stack's readout is compared with its hottest node under the same rule (R399). -/
def State.readStack (s : State) (die : Nat) (p : Nat × Int) : State :=
  let k := p.1
  let off := decide (500 < apart p.2 (s.modelHot die (18 + k)))
  let n := if off then Store.get 0 s.thermal.stackDiverging k + 1 else 0
  let s := { s with thermal := { s.thermal with
    stackReadout := Store.put 0 s.thermal.stackReadout k p.2, stackDiverging := Store.put 0 s.thermal.stackDiverging k n } }
  if n = 10 then s.raise (asBase die) { cause := .thermal, suspect := stackChan k, reporter := baseChan die } else s

/-- Any diode or readout of the partition is beyond 5 °C. -/
def State.anyDiverging (s : State) (die : Nat) : Bool :=
  ([2 * die, 2 * die + 1, 12 + die].any fun t => (s.goodDiodeKeys t).any fun k => 0 < (s.diode k).diverging)
    || [2 * die, 2 * die + 1].any fun k => 0 < Store.get 0 s.thermal.stackDiverging k

/-- A part's hotspot as the module takes it (R397, R399). -/
def State.hotOf (s : State) (die part : Nat) : Int :=
  let h := s.modelHot die part
  if part < 18 then
    match Store.get none s.thermal.diverged part with
    | some _ => ((s.goodDiodeKeys part).map fun k => (s.diode k).reading + 500).foldl max h
    | none => h
  else if part < 30 then
    if 10 ≤ Store.get 0 s.thermal.stackDiverging (part - 18) then max h (Store.get 0 s.thermal.stackReadout (part - 18) + 500) else h
  else h

/-! ### Bands (R402, R190) -/

/-- Band of a temperature (Table 13.6). -/
def bandOfTemp (t : Int) : Nat := if t < 6000 then 0 else if t < 8000 then 1 else if t < 9500 then 2 else if t < 10500 then 3 else 4

/-- A part has a band: compute dies, base dies and engines. -/
def banded (part : Nat) : Bool := part < 18 || (30 ≤ part && part < 38)

/-- Transmit de-emphasis in 0.1 dB and receive peaking in dB of a band (Table 6.8). -/
def eqPreset : Nat → Nat × Nat
  | 0 => (20, 4) | 1 => (25, 5) | 2 => (30, 6) | _ => (35, 7)

/-- The edges of a base die take the band of the hotter of their two dies, and their groups its presets one at a time (R190). -/
def State.setEqBands (s : State) (die : Nat) : State :=
  ((List.range 7).filter fun e => (edgeEnds e).1 = die || (edgeEnds e).2 = die).foldl (fun t e =>
    t.modEdge e fun x =>
      { x with eqBand := max (t.bandOfPart (12 + (edgeEnds e).1)) (t.bandOfPart (12 + (edgeEnds e).2)) }.takePresets) s

/-- Set a part's band, which is counted where it changes. -/
def State.setBand (s : State) (part b : Nat) : State :=
  if s.bandOfPart part = b then s
  else
    let d := partBase part
    let s := { s with thermal := { s.thermal with band := Store.put 0 s.thermal.band part b } }
    let s := (s.count 8 d pcBands 1).count kThm d 2 1
    if 12 ≤ part ∧ part < 18 then s.setEqBands d else s

/-! ### Limits and requests (R400, R401, R404) -/

/-- The level of a thermal request between two temperatures (R400). Log: DEDUCED 120. -/
def thermalLevel (t lo full : Int) : Nat :=
  if t < lo then 0 else if full ≤ t then 7 else min 7 ((7 * (t - lo) + (full - lo) - 1) / (full - lo)).toNat

/-- The thermal request that the hotspots ask of a compute die (Table 13.5): its own, its base die's and that of the engines beside
it; at least 1 where the thermal model has no calibration (Table 14.2). -/
def State.thermalAsk (s : State) (die : Nat) : Nat :=
  let hot (p : Nat) : Int := Store.get 0 s.thermal.hotspot p
  (dieEngines die).foldl (fun m e => max m (thermalLevel (hot (30 + e)) 9500 10000))
    (max (s.governor die).calFloor (max (thermalLevel (hot die) 10500 11000) (thermalLevel (hot (12 + die / 2)) 10000 10500)))

/-- A request rises at once and falls by at most one step per 1 ms, which is ten model steps (R404): the request and its age. -/
def fallSlowly (ask now age : Nat) : Nat × Nat :=
  if now ≤ ask then (ask, 0) else if 9 ≤ age then (now - 1, 0) else (now, age + 1)

/-- The rate request (R401): up one step while the rise over 1 ms exceeds 1.5 °C, down one step per 1 ms otherwise. -/
def rateStep (rising : Bool) (now age : Nat) : Nat × Nat :=
  if rising then (min 7 (now + 1), 0) else if now = 0 then (0, 0) else if 9 ≤ age then (now - 1, 0) else (now, age + 1)

/-- A compute die's requests and history at a step. -/
def State.dieRequests (s : State) (die : Nat) : State :=
  let hot := Store.get 0 s.thermal.hotspot die
  let past := Store.get [] s.thermal.history die
  let rising : Bool := match past[9]? with | some old => decide (150 < hot - old) | none => false
  let ask := s.thermalAsk die
  let s := { s with thermal := { s.thermal with history := Store.put [] s.thermal.history die ((hot :: past).take 10) } }
  let s := s.modGovernor die fun g =>
    let a := fallSlowly ask g.thermal g.thermalAge
    let b := rateStep rising g.rate g.rateAge
    { g with thermal := a.1, thermalAge := a.2, rate := b.1, rateAge := b.2, firing := g.firingNow, firingNow := [] }
  (s.count 8 (die / 2) pcRate rising.toNat).refresh die

/-- Raise a counter that keeps the highest value of the interval (R410). -/
def State.countMax (s : State) (kind src k n : Nat) : State :=
  let key := counterKey kind src 0 k
  { s with tel := { s.tel with live := Store.put 0 s.tel.live key (saturate (max (Store.get 0 s.tel.live key) n)) } }

/-! ### Gradual application of calibration values (R423) -/

/-- One loop step of a value coming into force: the rest is taken once it is no more than one least significant bit; otherwise 1/64 of
it is. Log: DEDUCED 109. -/
def Moving.advance (m : Moving) : Option Moving :=
  if m.num.natAbs ≤ m.den then none else some { m with num := m.num * 63, den := m.den * 64 }

/-- Every value under way moves; those that arrive are counted. Log: DEDUCED 109. -/
def State.moveCal (s : State) : State :=
  s.cal.moving.foldl (fun t p =>
    match p.2 with
    | some m =>
      let t := match m.advance with | none => t.count kCal 0 3 1 | some _ => t
      { t with cal := { t.cal with moving := Store.put none t.cal.moving p.1 m.advance } }
    | none => t) s

/-! ### The step -/

/-- Hotspot and band of a part at a step: a band only rises here (R402), and so does a stack's refresh rate (R150); a stack's issue
rate is throttled by its own level (R400). Log: DEDUCED 120. -/
def State.partStep (s : State) (die part : Nat) : State :=
  let t := s.hotOf die part
  let s := { s with thermal := { s.thermal with hotspot := Store.put 0 s.thermal.hotspot part t } }
  let s := if banded part then s.setBand part (max (s.bandOfPart part) (bandOfTemp t)) else s
  if 18 ≤ part ∧ part < 30 then s.modStack (part - 18) fun k =>
    let k := { k with issueHot := thermalLevel t 10000 10500 }
    if k.refresh < refreshRate t then { k with refresh := refreshRate t, refreshTemp := t } else k
  else s

/-- THERMAL_MODEL_STEP: the 100 µs step of a complex with the node temperatures of its partition, its diodes and its stacks'
readouts (R397, R399–R402); on P0 also that of the values of R423. Nodes are numbered within the partition, diodes 12 × die + diode
with base dies after the compute dies, stacks by their own number. -/
def execThermalModelStep (die : BaseDie) (nodes : List (Nat × Int)) (diodes : List (Nat × Int)) (stackReadouts : List (Nat × Int))
    (s : State) : Host.Outcome State Fault Refusal :=
  let d := die.val
  let dies := [2 * d, 2 * d + 1, 12 + d]
  let put (m : Store Int) (p : Nat × Int) : Store Int := if p.1 < 448 then Store.put 0 m (1024 * d + p.1) p.2 else m
  let s := { s with thermal := { s.thermal with nodes := nodes.foldl put s.thermal.nodes } }
  let s := (diodes.filter fun p => dies.contains (p.1 / 12)).foldl (fun t p => t.readDiode d p) s
  let s := (stackReadouts.filter fun p => p.1 / 2 = d).foldl (fun t p => t.readStack d p) s
  let s := dies.foldl (fun t x => t.compareDiodes d x) s
  let s := if s.anyDiverging d then (s.count 8 d pcDiverge 1).count kThm d 1 1 else s
  let s := (partsOf d).foldl (fun t p => t.partStep d p) s
  let hot (p : Nat) : Nat := (Store.get 0 s.thermal.hotspot p).toNat
  let s := ((s.countMax 8 d pcMax0 (hot (2 * d))).countMax 8 d (pcMax0 + 1) (hot (2 * d + 1))).countMax 8 d pcMaxBase (hot (12 + d))
  let s := (s.dieRequests (2 * d)).dieRequests (2 * d + 1)
  .next (if d = 0 then s.moveCal else s)

/-- Reset temperature of a part (Table 13.5). -/
def resetTemp (part : Nat) : Option Int :=
  if part < 12 then some 11500 else if part < 30 then some 11000 else if part < 38 then some 10500 else none

/-- THERMAL_RESET_LIMIT: a part that has stayed at its reset temperature for 1 ms raises a THERMAL record that rises to FATAL (R400). -/
def execThermalResetLimit (part : Chan) (s : State) : Host.Outcome State Fault Refusal :=
  .next <| match chanPart part with
    | none => s
    | some p =>
      match resetTemp p with
      | some lim =>
        if lim ≤ Store.get 0 s.thermal.hotspot p then
          (s.raise (asBase (partBase p)) { cause := .thermal, suspect := part, reporter := baseChan (partBase p) }).onRecord part .thermal
            fun r => { r with cls := 5 }
        else s
      | none => s

/-- BAND_FALL_TIMER: the hotspot has stayed at least 2 °C below the boundary for 100 ms (R402). Log: DEDUCED 131. -/
def execBandFallTimer (part : Chan) (s : State) : Host.Outcome State Fault Refusal :=
  .next <| match chanPart part with
    | some p =>
      if banded p then s.setBand p (min (s.bandOfPart p) (bandOfTemp (Store.get 0 s.thermal.hotspot p + 199))) else s
    | none => s

/-- COOLANT_FLOW_CHECK: an inlet pair that is absent or out of range is taken as 45 °C, with a LOG event. The keeper compares the coolant's rise with the one that the input power predicts, given in 0.1 °C; beyond 1.5
times it for 1 s, above 1,000 W, it writes a LOG event (R398). Log: DEDUCED 121. -/
def execCoolantFlowCheck (inlet : Option Int) (outlet predicted10 : Int) (inputW : Nat) (s : State) : Host.Outcome State Fault Refusal :=
  let t := if s.cal.inletAbsent then 4500 else inlet.getD 4500
  let s := { s with thermal := { s.thermal with inlet := t, outlet, predictedRise := predicted10 * 10 } }
  let s := if inlet.isNone then s.logEvent "coolant inlet absent" else s
  .next (if 1000 < inputW ∧ 3 * (predicted10 * 10) < 2 * (outlet - t) then s.logEvent "low coolant flow" else s)

end Sys2Proof.Machine
end

