-- ==== Sys2Proof/Machine/RegisterRead.lean ====
section
/-! DEFINITION. Reads of registers (R10). A register with a printed field map reads as its word; the others, of which the manual names
the fields without their places, read as those fields in the order of their tables (log entry 177). -/

namespace Sys2Proof.Machine

/-! ### Fields -/

/-- A signed number as a register field. -/
def signed (i : Int) : Nat := (BitVec.ofInt 64 i).toNat

/-- A value that the hardware measures and the model does not hold: the `i`-th of this read. Log: DESIGN CHOICE 177. -/
def State.measured (s : State) (i : Nat) : Nat := (Config.freeValue (s.freeIx + i)).toNat

/-- A base die as its POS straps read. -/
def posField (p : Option (Fin 8)) : Nat := (p.map Fin.val).getD 7

/-- Whether an option holds a value, and the value. -/
def optField (o : Option Nat) : List Nat := [o.isSome.toNat, o.getD 0]

/-! ### The blocks of BAR0 (chapters 4, 10 and 11) -/

/-- TEL_PORT_A and TEL_PORT_B: role, link state, rate, width, D-state, downs and failovers (Table 10.11). -/
def State.portFields (s : State) (p : HostPort) : List Nat :=
  let x := s.port p
  [x.active.toNat, x.up.toNat, x.rate, x.width, x.d3hot.toNat, x.downs, x.failovers]

/-- A BAR2 segment: valid, context, address bits [47:30]. -/
def Segment.fields (x : Segment) : List Nat := [x.valid.toNat, x.ctx.toNat, x.gib.toNat]

/-- TEL_MCTP: endpoint ID per binding, the fabric manager's endpoint and binding, update in progress (R317, R318, R321). -/
def State.mctpFields (s : State) : List Nat :=
  ((List.range 3).map fun b => (Store.get 0 s.host.eids b).toNat)
    ++ (match s.host.fm with | some (b, e) => [1, e.toNat, b.val] | none => [0, 0, 0]) ++ [s.keeper.update.isSome.toNat]

/-- OPX_RING_CTRL: enable, size, context, owner (Table 4.3); a core owner is its number plus 1. -/
def Ring.ctrlFields (r : Ring) : List Nat :=
  [r.enabled.toNat, r.entries, r.ctx.toNat, match r.owner with | .host => 0 | .core c => c.val + 1]

/-- Registers of the TEL and OPX blocks. -/
def State.telFields (s : State) : Reg → List Nat
  | .telTimestamp => [s.tel.timestamp.toNat]
  | .telInterval => [s.tel.nextInterval, s.tel.index.toNat]
  | .telCtrl => [s.tel.ctrl.toNat]
  | .telPortMode => [s.host.mode.val]
  | .telPortA => s.portFields .a
  | .telPortB => s.portFields .b
  | .telMctp => s.mctpFields
  | .telBar2Seg n => (s.segment n.val).fields
  | .opxRingCtrl d r => (s.ring (ringKeyOf d r)).ctrlFields
  | .opxRingBase d r => [(s.ring (ringKeyOf d r)).base, (s.ring (ringKeyOf d r)).cplBase]
  | .opxRingHead d r => [(s.ring (ringKeyOf d r)).head.toNat]
  | .opxCplTail d r => [(s.ring (ringKeyOf d r)).cplTail.toNat]
  | .opxCplHead d r => [(s.ring (ringKeyOf d r)).cplHead.toNat]
  | _ => []

/-- Registers of the MBX and DBL blocks, as their words (Tables 11.8 to 11.10); DBL_MBX_RING is WO and reads 0 (R10). -/
def State.mbxFields (s : State) : Reg → List Nat
  | .mbxCmd n => [(s.mailbox n.val).cmd.toNat]
  | .mbxBuf n => [(s.mailbox n.val).buf.toNat]
  | .mbxArg n k => [(Store.get 0 (s.mailbox n.val).args k.val).toNat]
  | .mbxCstat n => [(s.mailbox n.val).cstat.toNat]
  | .mbxRes n k => [((s.mailbox n.val).res.getD k.val 0).toNat]
  | .mbxStatus => [s.statusWord.toNat]
  | .mbxStart => [s.keeper.start.toNat]
  | .dblMbxRing => [0]
  | .dblMbxBusy => [((List.range 16).map fun m => if s.mbxBusy m then 2 ^ m else 0).sum]
  | .dblFwcTail => [s.keeper.fwcTail.toNat]
  | .dblFwcHead => [s.keeper.fwcHead.toNat]
  | .dblFwrTail => [s.keeper.fwrTail.toNat]
  | .dblFwrHead => [s.keeper.fwrHead.toNat]
  | .dblEvtTail => [s.keeper.evtTail.toNat]
  | .dblEvtHead => [s.keeper.evtHead.toNat]
  | .dblEvtMask => [s.keeper.evtMask.toNat]
  | _ => []

/-! ### Memory (chapter 5) -/

/-- The bytes scrubbed and the bytes total of the running scrubs on a base die (R163). -/
def State.scrubFields (s : State) (d : BaseDie) : List Nat :=
  let run := (s.ops.contexts.map fun (p : Nat × Context) => p.2).filter fun c => decide (c.state = .scrubbing)
  [(run.map fun c => s.scrubbedAt d.val c).sum, (run.map fun c => s.scrubBytes d.val c.regions).sum]

/-- Reserve pages of a stack that are in use: targets of retirement-map entries and of running copies (R153). -/
def Stack.reserveUsed (x : Stack) : Nat := (x.retired.filter fun p => p.2.isSome).length + (x.copying.filter fun p => p.2.isSome).length

/-- Registers of the HBM block (Table 5.10). -/
def State.hbmFields (s : State) : Reg → List Nat
  | .hbmMapCtrl _ => [s.mem.share, (s.mem.interleave.map fun k => 2 ^ k).sum]
  | .hbmScrubCtrl d => [Store.get 4 s.mem.scrubShare d.val, (!Store.get false s.mem.patrolOff d.val).toNat]
  | .hbmScrubProgress d => s.scrubFields d
  | .hbmStackStatus k =>
    let x := s.stack k.val
    [x.trained.toNat, x.padlocked.toNat, s.faults.capacity.pageCount k.val]
  | .hbmTrainResult k =>
    let x := s.stack k.val
    ((List.range 6).map fun i => match x.failedStep with | some f => (decide (i < f.val)).toNat | none => x.trained.toNat) ++ [x.eyeMargin.toNat]
  | .hbmRefresh k => [(s.stack k.val).refresh, signed (s.stack k.val).refreshTemp]
  | .hbmLaneRepair k => (List.range 64).map fun pc => Store.get 0 (s.stack k.val).lanesUsed pc
  | .hbmRowRepair k =>
    let x := s.stack k.val
    [x.repaired.length, 64 * 64 * Config.rowRepairs - x.repaired.length]
  | .hbmRetireCount k =>
    let x := s.stack k.val
    [x.reserveUsed, 16384 - x.reserveUsed - x.badReserve.length, x.badReserve.length, x.withdrawn.length]
  | .hbmRetireMap k => ((s.stack k.val).retired.map fun p => match p.2 with | some r => [p.1, r] | none => []).flatten
  | _ => []

/-! ### The package fabric (chapter 6) -/

/-- The edge at a base die's port, the direction that it sends in, and whether it is the lower end. -/
def portView (d : BaseDie) (p : Port4) : Option (Nat × Dir × Bool) :=
  (portEdge d.val p).map fun e => let low := decide ((edgeEnds e).1 = d.val); (e, if low then .up else .down, low)

/-- A register of a port; a port without an edge reads 0. -/
def State.portRead (s : State) (d : BaseDie) (p : Port4) (f : Nat → Edge → Dir → Bool → List Nat) : List Nat :=
  match portView d p with
  | some (e, dir, low) => f e (s.edge e) dir low
  | none => [0]

/-- TX, RX and agreed masks as an end of the edge has them (D2D_LANE_MASK). -/
def State.maskFields (s : State) (e : Nat) (x : Edge) (dir : Dir) : List Nat :=
  let tx : BitVec 136 := match dir with | .up => x.txUp | .down => x.txDown
  let rx : BitVec 136 := match dir with | .up => x.rxDown | .down => x.rxUp
  [tx.toNat, rx.toNat, (s.agreed e dir).toNat, (s.agreed e (flipDir dir)).toNat]

/-- Spare lanes and the logical lanes they carry, sending and then receiving; 0 for a spare not in use, else the lane plus 1. -/
def spareFields (p : Plan) : List Nat :=
  (List.range 8).map fun i => match p.spares.find? fun q => q.2 = some (128 + i) with | some q => q.1 + 1 | none => 0

/-- D2D_ROUTE: for each destination the number of the port that the route leaves by (4 for none), and the buffer set (R176). -/
def State.routeFields (s : State) (d : BaseDie) : List Nat :=
  (List.range 6).flatMap fun t =>
    match Store.get [] s.d2d.table (6 * d.val + t) with
    | [] => [4, 0]
    | path => [((List.range 4).find? fun k => neighbour d.val (portOf k) = path.headD 7).getD 4,
        ((pathSets false (pathRows d.val path)).getLastD false).toNat]

/-- Number of a trained UCIe rate is its index (R197); D2D_UCIE_STATUS adds working modules and links served. -/
def Site.statusFields (x : Site) : List Nat := [x.trained.toNat, x.rate.val, x.full, x.half, x.links]

/-- Registers of the D2D block (Table 6.12). -/
def State.d2dFields (s : State) : Reg → List Nat
  | .d2dPosition d => [posField (s.base d.val).position, (s.hingeOf d.val).posValid.toNat]
  | .d2dHinge d => [(s.hingeOf d.val).word.toNat]
  | .d2dClkStatus d =>
    let x := s.base d.val
    [x.pllLocked.toNat, (x.clockIn.map portIx).getD 4, x.clockLosses]
  | .d2dRoute d => s.routeFields d
  | .d2dRoleMap d p => s.portRead d p fun _ x _ low => [(if low then x.roleLow else x.roleHigh).toNat]
  | .d2dEdgeStatus d p => s.portRead d p fun e x dir low =>
    [(decide (x.state = .opened)).toNat, if low then (edgeEnds e).2 else (edgeEnds e).1] ++ (x.plan dir).widths
      ++ (x.plan (flipDir dir)).widths ++ [x.fallback.toNat]
  | .d2dLaneMask d p => s.portRead d p fun e x dir _ => s.maskFields e x dir
  | .d2dSpareUse d p => s.portRead d p fun _ x dir _ => spareFields (x.plan dir) ++ spareFields (x.plan (flipDir dir))
  | .d2dEqPreset d p => s.portRead d p fun _ x _ _ =>
    x.eqBand :: (List.range 8).flatMap fun g => let q := eqPreset (Store.get 0 x.presets g); [q.1, q.2]
  | .d2dWidthLog d p => s.portRead d p fun _ x _ _ =>
    [x.widthLog.length, match x.outcome with | .none => 0 | .applied => 1 | .fallback => 2] ++ x.widthLog.map fun m => m.digest.toNat
  | .d2dUcieStatus e => (s.site e.val).statusFields
  | .d2dUcieDescLocal e => [if (s.site e.val).sent then baseDescriptor.toNat else 0]
  | .d2dUcieDescPeer e => [((s.site e.val).peer.getD 0).toNat]
  | .d2dUcieOutcome e => (List.range 10).map fun i => ((s.site e.val).reduced.contains i).toNat
  | _ => []

/-! ### The optical engines (chapter 7) -/

/-- State of a site: 0 not trained, 1 served, 2 closed. -/
def Site.code (x : Site) : Nat := if x.closed then 2 else x.trained.toNat

/-- State of a laser: 0 dark, 1 lit, 2 retired, 3 padlocked. -/
def State.laserCode (s : State) (e k : Nat) : Nat :=
  if s.isPadlocked (laserChan e k) then 3 else if ((s.engine e).laser k).retired then 2 else ((s.engine e).laser k).lit.toNat

/-- OPT_LASER_STATUS: slot (with its valid bit), state, bias and end-of-life current, frequency error, tone. -/
def State.laserFields (s : State) (e k : Nat) : List Nat :=
  let x := s.engine e
  optField (x.laserSlot k) ++ [s.laserCode e k, (x.laser k).bias.toNat, Config.laserEndOfLife (s.cart (e / 4)).serial e k,
    signed (x.laser k).freqErr, (x.laserTone k).getD 0]

/-- State of a ring: 0 parked, 1 searching, 2 locked, 3 permanent. -/
def RingState.code : RingState → Nat
  | .parked | .failed => 0
  | .sweeping | .searching | .waiting => 1
  | .locked => 2
  | .permanent => 3

/-- OPT_RING_STATE: state, heater segment, heater power, tracking error (measured), the tone found. -/
def State.ringFields (s : State) (e f slot : Nat) (drop : Bool) : List Nat :=
  let q := (s.engine e).ring (ringKey f slot drop)
  [q.state.code, q.segment, signed (s.heaterCommand e f slot drop), s.measured 0] ++
    match q.tone with | some t => [1, signed t.overOthers, signed t.overNoise] | none => [0, 0, 0]

/-- Margin runs as numbers: bit errors, and whether a codeword was uncorrectable. -/
def marginFields (rs : List LaneMargin) : List Nat :=
  rs.flatMap fun r => r.flatMap fun x => [x.errors, x.uncorrectable.toNat]

/-- A migration: laser, class, spare slot, and its fibers with their stage and q (OPT_MIGRATION). -/
def Migration.fields (m : Migration) : List Nat :=
  [m.laser, (match m.cls with | .scheduled => 0 | .urgent => 1 | .failed => 2), m.slot] ++ m.fibers.flatMap fun p =>
    p.fiber :: match p.stage with
      | .offered _ => [1, 0] | .searching => [2, 0] | .accepted q => [3, q.toNat] | .refused => [4, 0] | .duplicating => [5, 0]
      | .staying => [6, 0]

/-- Registers of the OPT block (Table 7.7). -/
def State.optFields (s : State) : Reg → List Nat
  | .optEngineStatus e =>
    let x := s.engine e.val
    [(s.site e.val).code, (s.site e.val).links, (decide (s.modState = .serviceHold)).toNat, x.f8Spare.toNat] ++ optField x.f8For
  | .optEngineCtrl e => [(s.engine e.val).f8Spare.toNat, (s.engine e.val).f8Peer.toNat]
  | .optLaserSel e => [(s.engine e.val).laserSel.toNat]
  | .optLaserStatus e => s.laserFields e.val (field (s.engine e.val).laserSel 0 5)
  | .optRingSel e => [(s.engine e.val).ringSel.toNat]
  | .optRingState e =>
    let sel := (s.engine e.val).ringSel
    s.ringFields e.val (field sel 0 4) (field sel 8 5) (sel.getLsbD 16)
  | .optLaneMap e => (List.range 9).flatMap fun f => [false, true].flatMap fun rx => (List.range 16).map fun i => (s.engine e.val).slotOf f rx i
  | .optMargin e => (List.range 9).flatMap fun f =>
    let m := Store.get ([], []) (s.engine e.val).margins f
    marginFields m.1 ++ marginFields m.2
  | .optMigration e =>
    let x := s.engine e.val
    x.migrations.length :: (x.migrations.flatMap Migration.fields ++ match x.lastMigration with | some m => m.fields | none => [])
  | .optFfStatus e =>
    ((List.range 12).filter fun d => engineBase e.val = d / 2).flatMap (fun d =>
      let f := Store.get Feed.reset (s.engine e.val).feeds d
      [f.words, f.staleEvents]) ++ [s.bandOfPart (30 + e.val)]
  | .optAtten e => (List.range 9).flatMap fun f =>
    let shut := ((s.engine e.val).shut.contains f).toNat
    [30 * shut, shut]
  | .optCartStatus c =>
    let x := if c = 0 then s.optics.cart0 else s.optics.cart1
    [x.present.toNat, x.serial.toNat, signed (Store.get 0 s.thermal.hotspot (38 + c.val)), s.measured 0, x.wordsOk.toNat]
  | _ => []

/-! ### Links and domains (chapters 8 and 9) -/

/-- Slot and key identifier of a direction, 0 where the slot is empty. -/
def keyField (k : Option LinkKey) : Nat := (k.map fun x => x.keyId.toNat).getD 0

/-- Bytes of payload that a link holds. -/
def heldBytes (x : Link) : Nat := (((x.replay ++ x.queue).map fun u => u.payload.length).sum)

/-- Registers of the LNK block (Table 8.13). -/
def State.lnkFields (s : State) : Reg → List Nat
  | .lnkState l =>
    let x := s.link l.val
    [x.state.code, x.txWidth.toNat, x.rxWidth.toNat, x.leader.toNat, x.retrains]
  | .lnkPeer l =>
    let x := (s.link l.val).peer
    [x.moduleId.toNat, x.linkIx.toNat, x.serial.toNat, x.bootCount.toNat]
  | .lnkCtrl l => [(s.link l.val).encrypt.toNat]
  | .lnkTwin l => match (s.link l.val).twin with | some t => [t.val, 1] | none => [0, 0]
  | .lnkSeq l =>
    let x := s.link l.val
    [x.n.toNat, x.a.toNat, x.e.toNat, x.txExt.toNat % 2 ^ 32, x.rxExt.toNat % 2 ^ 32]
  | .lnkRtu l => [(s.link l.val).rtuNs, (s.link l.val).rtu]
  | .lnkVcLimit l => [((List.range 8).map fun v => (s.link l.val).limit v / 8 * 2 ^ (8 * v)).sum]
  | .lnkPool l =>
    let x := s.link l.val
    (List.range 8).map (fun v => x.sharedOf v) ++ [1280 - x.sharedAll, x.guarded.toNat]
      ++ (List.range 8).map fun v => (x.pool.filter fun u => !u.shared && u.vc.val = v).length
  | .lnkKeyStatus l =>
    let x := s.link l.val
    [x.txSlot.val, x.rxSlot.val, keyField x.tx0, keyField x.tx1, keyField x.rx0, keyField x.rx1, x.underKey, x.rotation.toNat]
  | .lnkHold l =>
    let x := s.link l.val
    if x.held then [x.replay.length + x.queue.length, heldBytes x, (s.tel.timestamp - x.heldAt).toNat, x.lostSent.toNat, x.lostReceived.isSome.toNat]
    else [0, 0, 0, x.lostSent.toNat, x.lostReceived.isSome.toNat]
  | _ => []

/-- Registers of the DOM block (Table 9.8). -/
def State.domFields (s : State) : Reg → List Nat
  | .domConfig => [s.moduleId.toNat, s.domain.id.isSome.toNat, s.domain.size]
  | .domWindowSel => [s.domain.windowSel.toNat]
  | .domWindowPort k =>
    [((Store.get windowReset s.domain.windows (field s.domain.windowSel 0 16) >>> (64 * k.val)).setWidth 64 : W64).toNat]
  | .domLinkSet => (List.range 256).map fun i => ((Store.get [] s.domain.linkSets i).map fun l => 2 ^ l.val).sum
  | .domFwd => (List.range 256).flatMap fun i => optField ((Store.get none s.domain.forward i).map fun b => b.toNat)
  | .domGroup => (List.range 64).map fun i =>
    let g := Store.get Group.reset s.domain.groups i
    g.rank.toNat + ((g.members.map fun m => 2 ^ m.toNat).sum) * 256
  | .domPeerReset => [s.domain.peerReset.toNat]
  | .domGenRecord => s.domain.genRecord.flatMap fun p => match p.2 with | some g => [p.1, g.toNat] | none => []
  | _ => []

/-! ### Faults, power, calibration and security (chapters 12 to 15) -/

/-- Registers of the FLT block (Table 12.12). -/
def State.fltFields (s : State) : Reg → List Nat
  | .fltQueueHead => [(s.faults.queue.headD s.faults.nextSeq).toNat]
  | .fltQueueTail => [s.faults.nextSeq.toNat]
  | .fltFatal => match s.faults.fatal with | some r => [(causeCode r.cause).toNat, r.suspect.toNat] | none => [0, 0]
  | .fltPolicy => [s.faults.policy.val]
  | .fltFaultN =>
    let x := s.faults.faultN
    [(!(x.pulsing || x.held)).toNat, x.pulses, s.measured 0, x.withheld]
  | .fltOpen d => [(s.faults.openRecs.filter fun r => r.collector = d).length]
  | .fltResetCause => [(s.faults.resetCause.map resetCode).getD 0, s.faults.resetEscalated.toNat, (s.faults.resetMissed.map unitBit).sum]
  | .fltCapacity => [s.faults.capacity.seq.toNat]
  | .fltThreshold => [0x01, 0x02, 0x11, 0x18, 0x19, 0x1C, 0x30, 0x04, 0x08].map fun k => (threshold (mkChan k 0) s.tel.interval).getD 0
  | _ => []

/-- A diode: reading, its node's value, and its state (0 good, 1 diverging, 2 padlocked). -/
def State.diodeFields (s : State) (die : Nat) (sel : W64) : List Nat :=
  let t := field sel 4 5
  let k := field sel 0 4
  let d := s.diode (12 * t + k)
  [signed d.reading, signed (s.diodeModel die t k), if d.padlocked then 2 else (decide (0 < d.diverging)).toNat]

/-- PWR_RAIL: voltage, power (both measured), phases in use, padlocked and available, limit in force in A (R395). -/
def State.railFields (s : State) (rail : Nat) : List Nat :=
  let r := s.rail rail
  match railSpec rail with
  | some (n, rating, _) =>
    [s.measured 0, s.measured 1, n - r.padlocked.length - r.tripped.length, r.padlocked.length, s.phasesLeft rail, min (n - 2) (s.phasesLeft rail) * rating]
  | none => [0]

/-- PWR_PHASE: current in 10 mA and sense element of each phase of the selected rail. -/
def State.phaseFields (s : State) (rail : Nat) : List Nat :=
  match railSpec rail with
  | some (n, _, _) => (List.range n).flatMap fun ph => [Store.get 0 (s.rail rail).current ph, Store.get 0 (s.rail rail).element ph]
  | none => [0]

/-- State of the power stage: 0 off, 1 running, 2 stopped by overvoltage, 3 stopped, 4 kept off. -/
def psCode : PsState → Nat
  | .off => 0 | .running => 1 | .overvoltage => 2 | .stopped => 3 | .keptOff => 4

/-- The number of a power-stage stop cause. -/
def stopNumber : PsStopCause → Nat
  | .undervoltage => 1 | .overvoltage => 2 | .outputOver => 3 | .overcurrent => 4 | .hotspot => 5 | .busUnder => 6

/-- Registers of the PWR, THM and GOV blocks (Table 13.10). -/
def State.pwrFields (s : State) : Reg → List Nat
  | .pwrInput => [s.power.inputMv, s.power.inputMw * 1000 / max 1 s.power.inputMv, s.power.inputMw, s.pCap, s.power.throttleN.toNat]
  | .pwrPsStatus => [psCode s.power.ps, s.power.bus12.toNat, s.measured 0, (Store.get 0 s.keeper.serials 1).toNat,
      (s.power.lastStop.map stopNumber).getD 0]
  | .pwrRailSel d => [(Store.get 0 s.power.railSel d.val).toNat]
  | .pwrRail d => s.railFields (field (Store.get 0 s.power.railSel d.val) 0 8)
  | .pwrPhase d => s.phaseFields (field (Store.get 0 s.power.railSel d.val) 0 8)
  | .thmHotspot d => (partsOf d.val).flatMap fun p => [signed (Store.get 0 s.thermal.hotspot p), s.bandOfPart p]
  | .thmCoolant => [signed s.thermal.inlet, signed s.thermal.outlet, signed s.thermal.predictedRise]
  | .thmDiodeSel d => [(Store.get 0 s.thermal.diodeSel d.val).toNat]
  | .thmDiode d => s.diodeFields d.val (Store.get 0 s.thermal.diodeSel d.val)
  | .thmNode d => (List.range 448).map fun k => signed (s.node d.val k)
  | .govLevel c =>
    let g := s.governor c.val
    [g.level, g.thermal, g.rate, g.diode, g.rail, g.ramp, g.cap, (if s.power.fastLimit then 4 else 0), if s.power.throttleHold then 4 else 0]
  | .govPower c => [(s.governor c.val).power.headD 0, (s.governor c.val).power.getD 9 0]
  | .govRamp c => [(s.rampLimited c.val).toNat, ((s.governor c.val).stale.map fun e => 2 ^ e).sum]
  | .govFiring c => (List.range 24).map fun w => Store.get 0 (s.governor c.val).firing w
  | _ => []

/-- The words of a calibration item: stored word, target, applied value over its denominator, copy of origin (0 A, 1 B, 2 neither),
plausible flag (CAL_WORD). -/
def State.calFields (s : State) (key : Nat) : List Nat :=
  let w := s.cal.wordAt key
  let applied := match Store.get none s.cal.moving key with | some m => m.applied | none => (calValue w, 1)
  let serial := Store.get 0 s.keeper.serials 0
  let inB : Bool := match s.cal.readCopies serial with | some (x, _) => decide (x = s.cal.copyB) && decide (x ≠ s.cal.copyA) | none => false
  [w.toNat, signed (calValue w), signed applied.1, applied.2, if (s.cal.readCopies serial).isNone then 2 else inB.toNat, (calWordOk w).toNat]

/-- Registers of the CAL block (Table 14.5). -/
def State.calRegFields (s : State) : Reg → List Nat
  | .calStore _ =>
    let serial := Store.get 0 s.keeper.serials 0
    [s.cal.copyA.generation, s.cal.copyB.generation, (decide (s.cal.generation = s.cal.copyB.generation ∧ s.cal.generation ≠ s.cal.copyA.generation)).toNat,
      (s.cal.copyA.present serial).toNat, (s.cal.copyB.present serial).toNat, serial.toNat]
  | .calRef _ => (List.range 18).map s.measured
  | .calSel d => [(Store.get 0 s.cal.sel d.val).toNat]
  | .calWord d => s.calFields (field (Store.get 0 s.cal.sel d.val) 16 8 * 65536 + field (Store.get 0 s.cal.sel d.val) 0 16)
  | .calRun _ => [match s.keeper.longOps.find? fun o => isCalRun o.kind with
      | some o => (match o.kind with | .calRun q _ _ => calCode q | _ => 0)
      | none => 0, s.cal.passed, s.cal.failed]
  | _ => []

/-- Presence of each fuse field (Table 15.1). -/
def Security.presence (x : Security) : List Nat :=
  [x.vendorRootHash.isSome.toNat, x.uds.isSome.toNat, x.ownerHash.isSome.toNat, x.ownerState.isSome.toNat, x.vendorDebugOff.isSome.toNat]

/-- Registers of the SEC block (Table 15.5). -/
def State.secFields (s : State) : Reg → List Nat
  | .secFuseState => s.sec.presence ++ [(s.sec.ownerState.getD 0).toNat, (s.sec.vendorDebugOff.getD false).toNat]
  | .secSvn => [s.sec.svn, pkgSvn s.flash.partA.package, pkgSvn s.flash.partB.package]
  | .secOwnerHash => [(s.sec.ownerHash.getD 0).toNat]
  | .secDebugState => [s.sec.scopes.toNat, s.sec.token.isSome.toNat]
  | .secDebugNonce => [s.sec.nonce.toNat]
  | .secMeasure => (List.range 8).map fun i => (s.measurement (i + 1)).toNat
  | _ => []

/-- A core's interrupt file (Table 2.9). -/
def State.coreFields (s : State) : Reg → List Nat
  | .coreRingPending c => [(s.core c.val).ringPending.toNat]
  | .coreKeeperPending c => [(s.core c.val).keeperPending.toNat]
  | .coreRingEnable c => [(s.core c.val).ringEnable.toNat]
  | .coreKeeperEnable c => [(s.core c.val).keeperEnable.toNat]
  | _ => []

/-- What a register that is not RC reads; an offset that no register has reads 0 (R307). Log: DESIGN CHOICE 177. -/
def State.regFields (s : State) (reg : Reg) : List Nat :=
  let v := s.telFields reg ++ s.mbxFields reg ++ s.hbmFields reg ++ s.d2dFields reg ++ s.optFields reg ++ s.lnkFields reg ++ s.domFields reg
    ++ s.fltFields reg ++ s.pwrFields reg ++ s.calRegFields reg ++ s.secFields reg ++ s.coreFields reg
  if v.isEmpty then [0] else v

/-! ### The read -/

/-- A register of a block that BAR0 shows the host (Table 10.3): MBX and DBL, TEL, and the rings of P0. -/
def hostVisible : Reg → Bool
  | .mbxCmd _ | .mbxBuf _ | .mbxArg _ _ | .mbxCstat _ | .mbxRes _ _ | .mbxStatus | .mbxStart => true
  | .dblMbxRing | .dblMbxBusy | .dblMbxLost | .dblFwcTail | .dblFwcHead | .dblFwrTail | .dblFwrHead | .dblEvtTail | .dblEvtHead
  | .dblEvtMask => true
  | .telTimestamp | .telInterval | .telCtrl | .telStat | .telPortMode | .telPortA | .telPortB | .telMctp | .telBar2Seg _ => true
  | .opxRingCtrl d _ | .opxRingBase d _ | .opxRingHead d _ | .opxCplTail d _ | .opxCplHead d _ | .opxRingStat d _ => d = 0
  | _ => false

/-- A register that a read clears (R10): the counters of the last interval, and DBL_MBX_LOST. -/
def isRc (reg : Reg) : Bool := reg = .dblMbxLost || !(rcKeys reg).isEmpty

/-- Clear latched counters. -/
def clearLatched (m : Store Nat) (ks : List Nat) : Store Nat := ks.foldl (fun t k => Store.put 0 t k 0) m

/-- The most values that one read takes from the hardware's own measuring: CAL_REF's reading, presence, and the reference and error of each
engine. -/
abbrev readFree : Nat := 18

/-- RC_REGISTER_READ: the latched copy of the last interval, which the read clears; DBL_MBX_LOST reports since its last read
(R10, R325); another register reads its present value. A register of no block in BAR0 reads 0 from the host (R307). An application core reads
its interrupt file by loads (R60). Log: DESIGN CHOICE 177. -/
def execRcRegisterRead (agent : Agent) (reg : Reg) (s : State) : Host.Outcome State Fault Refusal :=
  if !s.reads agent then .next s
  else if isHost agent && !hostVisible reg then .next (s.emit (.registerRead agent reg [0]))
  else if reg = .dblMbxLost then
    let s' := { s with keeper := { s.keeper with lost := 0 } }
    .next (s'.emit (.registerRead agent reg [s.keeper.lost.toNat]))
  else if isRc reg then
    let ks := rcKeys reg
    let vs := ks.map fun k => Store.get 0 s.tel.latched k
    let s := { s with tel := { s.tel with latched := clearLatched s.tel.latched ks } }
    .next (s.emit (.registerRead agent reg vs))
  else .next ({ s with freeIx := s.freeIx + readFree }.emit (.registerRead agent reg (s.regFields reg)))

end Sys2Proof.Machine
end

