-- ==== Sys2Proof/Machine/Dispatch.lean ====
section
/-! DEFINITION. The meaning of each command, arm by arm. -/

namespace Sys2Proof.Machine

def exec (i : Instr) (s : State) : Host.Outcome State Fault Refusal :=
  match i with
  | .inputPowerApplied mv serial calibrated => Sys2Proof.Machine.execInputPowerApplied mv serial calibrated s
  | .inputUndervoltage => Sys2Proof.Machine.execInputUndervoltage s
  | .inputOvervoltage => Sys2Proof.Machine.execInputOvervoltage s
  | .overvoltageRestart mv => Sys2Proof.Machine.execOvervoltageRestart mv s
  | .inputBandChange mv => Sys2Proof.Machine.execInputBandChange mv s
  | .psStop cause sinceFirstStopS => Sys2Proof.Machine.execPsStop cause sinceFirstStopS s
  | .psRestartTimer => Sys2Proof.Machine.execPsRestartTimer s
  | .liveInputMate => Sys2Proof.Machine.execLiveInputMate s
  | .railSequence => Sys2Proof.Machine.execRailSequence s
  | .railRegulationTimeout rail => Sys2Proof.Machine.execRailRegulationTimeout rail s
  | .moduleStart straps => Sys2Proof.Machine.execModuleStart straps s
  | .pllLock die => Sys2Proof.Machine.execPllLock die s
  | .bootImageVerified => Sys2Proof.Machine.execBootImageVerified s
  | .latchImageDelivery die image digest => Sys2Proof.Machine.execLatchImageDelivery die image digest s
  | .stackTrainingComplete stack failedStep => Sys2Proof.Machine.execStackTrainingComplete stack failedStep s
  | .hbmClearComplete stack => Sys2Proof.Machine.execHbmClearComplete stack s
  | .dumpCopyComplete => Sys2Proof.Machine.execDumpCopyComplete s
  | .readyEntry => Sys2Proof.Machine.execReadyEntry s
  | .posMessage die port pos expects => Sys2Proof.Machine.execPosMessage die port pos expects s
  | .edgePrbsComplete edge failUp failDown => Sys2Proof.Machine.execEdgePrbsComplete edge failUp failDown s
  | .edgeOpenTimeout edge => Sys2Proof.Machine.execEdgeOpenTimeout edge s
  | .maskMessage edge fromLow tx rx round ok => Sys2Proof.Machine.execMaskMessage edge fromLow tx rx round ok s
  | .planMessage edge fromLow plan ok => Sys2Proof.Machine.execPlanMessage edge fromLow plan ok s
  | .applyMessage edge seqUp seqDown ok => Sys2Proof.Machine.execApplyMessage edge seqUp seqDown ok s
  | .retrainReqMessage edge fromLow groups cause ok => Sys2Proof.Machine.execRetrainReqMessage edge fromLow groups cause ok s
  | .qtestMessage edge fromLow pass ok => Sys2Proof.Machine.execQtestMessage edge fromLow pass ok s
  | .timeMessage die time ok => Sys2Proof.Machine.execTimeMessage die time ok s
  | .sidebandRoundTimeout edge => Sys2Proof.Machine.execSidebandRoundTimeout edge s
  | .quarterTestComplete edge dir group quarter errors => Sys2Proof.Machine.execQuarterTestComplete edge dir group quarter errors s
  | .flitReceive edge dir group flit => Sys2Proof.Machine.execFlitReceive edge dir group flit s
  | .retryRequestReceive edge dir group seq => Sys2Proof.Machine.execRetryRequestReceive edge dir group seq s
  | .retryResendTimeout edge dir group => Sys2Proof.Machine.execRetryResendTimeout edge dir group s
  | .isolationTestComplete edge group errUp errDown lostUp lostDown lowest lowestDir => Sys2Proof.Machine.execIsolationTestComplete edge group errUp errDown lostUp lostDown lowest lowestDir s
  | .d2dRoleMapWrite die port value => Sys2Proof.Machine.execD2dRoleMapWrite die port value s
  | .clockInputLoss die => Sys2Proof.Machine.execClockInputLoss die s
  | .refclkLoss => Sys2Proof.Machine.execRefclkLoss s
  | .refclkRestored => Sys2Proof.Machine.execRefclkRestored s
  | .siteDescriptorReceive engine desc => Sys2Proof.Machine.execSiteDescriptorReceive engine desc s
  | .siteDescriptorTimeout engine => Sys2Proof.Machine.execSiteDescriptorTimeout engine s
  | .ucieMainbandTrained engine full half => Sys2Proof.Machine.execUcieMainbandTrained engine full half s
  | .startTokenArrival tok => Sys2Proof.Machine.execStartTokenArrival tok s
  | .operatorStartOnTumbler t => Sys2Proof.Machine.execOperatorStartOnTumbler t s
  | .imageLoadComplete t image tables => Sys2Proof.Machine.execImageLoadComplete t image tables s
  | .stepFire t step loads writes sramTouched => Sys2Proof.Machine.execStepFire t step loads writes sramTouched s
  | .stepEnd t work tags beats => Sys2Proof.Machine.execStepEnd t work tags beats s
  | .loadDataLand t load data => Sys2Proof.Machine.execLoadDataLand t load data s
  | .writeAck t write => Sys2Proof.Machine.execWriteAck t write s
  | .tokenForward t queue => Sys2Proof.Machine.execTokenForward t queue s
  | .tokenArrival tok => Sys2Proof.Machine.execTokenArrival tok s
  | .creditTokenArrival tok => Sys2Proof.Machine.execCreditTokenArrival tok s
  | .tokenWaitTimeout t => Sys2Proof.Machine.execTokenWaitTimeout t s
  | .wardCompletionSend die ward ctx opSerial => Sys2Proof.Machine.execWardCompletionSend die ward ctx opSerial s
  | .generationChangeArrival die ward ctx newGen arg => Sys2Proof.Machine.execGenerationChangeArrival die ward ctx newGen arg s
  | .wardDrainedSend die ward ctx => Sys2Proof.Machine.execWardDrainedSend die ward ctx s
  | .abortArrival die ward ctx opSerial => Sys2Proof.Machine.execAbortArrival die ward ctx opSerial s
  | .probeArrival die ward sender => Sys2Proof.Machine.execProbeArrival die ward sender s
  | .probeAnswerReceive suspect fired resident => Sys2Proof.Machine.execProbeAnswerReceive suspect fired resident s
  | .probeTimeout suspect => Sys2Proof.Machine.execProbeTimeout suspect s
  | .spareSelftestComplete spare failed => Sys2Proof.Machine.execSpareSelftestComplete spare failed s
  | .doorbellWrite agent ring value bytes => Sys2Proof.Machine.execDoorbellWrite agent ring value bytes s
  | .ringNop die ring => Sys2Proof.Machine.execRingNop die ring s
  | .ringDispatch die ring => Sys2Proof.Machine.execRingDispatch die ring s
  | .descriptorFetchComplete die ring => Sys2Proof.Machine.execDescriptorFetchComplete die ring s
  | .ringSignal die ring => Sys2Proof.Machine.execRingSignal die ring s
  | .ringWait die ring => Sys2Proof.Machine.execRingWait die ring s
  | .ringBarrier die ring => Sys2Proof.Machine.execRingBarrier die ring s
  | .ringReservedOpcode die ring => Sys2Proof.Machine.execRingReservedOpcode die ring s
  | .fenceWordWriteNotify addr => Sys2Proof.Machine.execFenceWordWriteNotify addr s
  | .startOrderLockAcquire die ring => Sys2Proof.Machine.execStartOrderLockAcquire die ring s
  | .startQueueCreditReturn t => Sys2Proof.Machine.execStartQueueCreditReturn t s
  | .regionTableFreed die ward ctx => Sys2Proof.Machine.execRegionTableFreed die ward ctx s
  | .completionTokenReceive disp die ward ctx opSerial status => Sys2Proof.Machine.execCompletionTokenReceive disp die ward ctx opSerial status s
  | .opxCplHeadWrite agent die ring value => Sys2Proof.Machine.execOpxCplHeadWrite agent die ring value s
  | .appcoreRingSlotStore core addr data => Sys2Proof.Machine.execAppcoreRingSlotStore core addr data s
  | .interruptClaimRead core => Sys2Proof.Machine.execInterruptClaimRead core s
  | .dispatcherStopConfirm die ctx => Sys2Proof.Machine.execDispatcherStopConfirm die ctx s
  | .drainedTokenReceive disp die ward ctx => Sys2Proof.Machine.execDrainedTokenReceive disp die ward ctx s
  | .drainProbeTimer ctx => Sys2Proof.Machine.execDrainProbeTimer ctx s
  | .drainTimeExpiry ctx => Sys2Proof.Machine.execDrainTimeExpiry ctx s
  | .localDrainComplete ctx => Sys2Proof.Machine.execLocalDrainComplete ctx s
  | .scrubComplete ctx => Sys2Proof.Machine.execScrubComplete ctx s
  | .homeRead reader addr len => Sys2Proof.Machine.execHomeRead reader addr len s
  | .homeWrite writer addr data poison => Sys2Proof.Machine.execHomeWrite writer addr data poison s
  | .homeAtomic reader op addr operand compare wantOld => Sys2Proof.Machine.execHomeAtomic reader op addr operand compare wantOld s
  | .patrolScrubRead stack line corrected uncorrectable writtenSince => Sys2Proof.Machine.execPatrolScrubRead stack line corrected uncorrectable writtenSince s
  | .refreshRateFall stack => Sys2Proof.Machine.execRefreshRateFall stack s
  | .laneRemapApply stack pc => Sys2Proof.Machine.execLaneRemapApply stack pc s
  | .pageCopyComplete stack page => Sys2Proof.Machine.execPageCopyComplete stack page s
  | .hbmMapCtrlWrite agent value => Sys2Proof.Machine.execHbmMapCtrlWrite agent value s
  | .ringLockLoss ring => Sys2Proof.Machine.execRingLockLoss ring s
  | .resonanceToneMeasured ring tone => Sys2Proof.Machine.execResonanceToneMeasured ring tone s
  | .ringSearchTimeout ring light => Sys2Proof.Machine.execRingSearchTimeout ring light s
  | .dropRingResearch ring => Sys2Proof.Machine.execDropRingResearch ring s
  | .ringToneRecheck ring tone => Sys2Proof.Machine.execRingToneRecheck ring tone s
  | .heaterSegmentFault ring => Sys2Proof.Machine.execHeaterSegmentFault ring s
  | .ffWordPublish die power => Sys2Proof.Machine.execFfWordPublish die power s
  | .ffWordReceive engine word => Sys2Proof.Machine.execFfWordReceive engine word s
  | .ffFeedStale engine die => Sys2Proof.Machine.execFfFeedStale engine die s
  | .ffFeedRecovered engine die => Sys2Proof.Machine.execFfFeedRecovered engine die s
  | .statusMessageSend link margins => Sys2Proof.Machine.execStatusMessageSend link margins s
  | .statusMessageReceive link msg => Sys2Proof.Machine.execStatusMessageReceive link msg s
  | .laserFadeThreshold engine laser cls => Sys2Proof.Machine.execLaserFadeThreshold engine laser cls s
  | .migrationBegin engine laser => Sys2Proof.Machine.execMigrationBegin engine laser s
  | .tunableLaserTuned engine laser freqErrGHz toneOk => Sys2Proof.Machine.execTunableLaserTuned engine laser freqErrGHz toneOk s
  | .migOfferReceive link lane oldSlot newSlot ok => Sys2Proof.Machine.execMigOfferReceive link lane oldSlot newSlot ok s
  | .migrationCompareComplete link lane pairs newMargin oldMargin urgent => Sys2Proof.Machine.execMigrationCompareComplete link lane pairs newMargin oldMargin urgent s
  | .migDoneReceive link lane newSlot accept q ok => Sys2Proof.Machine.execMigDoneReceive link lane newSlot accept q ok s
  | .migOfferTimeout link lane => Sys2Proof.Machine.execMigOfferTimeout link lane s
  | .migrationTimeout engine laser => Sys2Proof.Machine.execMigrationTimeout engine laser s
  | .laserFailure engine laser => Sys2Proof.Machine.execLaserFailure engine laser s
  | .laneReqReceive link lane ok => Sys2Proof.Machine.execLaneReqReceive link lane ok s
  | .marginTestComplete link tx rx => Sys2Proof.Machine.execMarginTestComplete link tx rx s
  | .fiberDark engine fiber darkLanes spareLight => Sys2Proof.Machine.execFiberDark engine fiber darkLanes spareLight s
  | .attenuatorShut engine fiber => Sys2Proof.Machine.execAttenuatorShut engine fiber s
  | .attenuatorProbe engine fiber => Sys2Proof.Machine.execAttenuatorProbe engine fiber s
  | .fiberLightReturn engine fiber => Sys2Proof.Machine.execFiberLightReturn engine fiber s
  | .cartridgePresenceLoss cart => Sys2Proof.Machine.execCartridgePresenceLoss cart s
  | .cartridgeBlockOvertemp cart => Sys2Proof.Machine.execCartridgeBlockOvertemp cart s
  | .flowUnitReceive link unit tagOk => Sys2Proof.Machine.execFlowUnitReceive link unit tagOk s
  | .nakReceive link seq withinRtt => Sys2Proof.Machine.execNakReceive link seq withinRtt s
  | .nakResendTimeout link => Sys2Proof.Machine.execNakResendTimeout link s
  | .ackTimer link => Sys2Proof.Machine.execAckTimer link s
  | .noAcceptTimeout link => Sys2Proof.Machine.execNoAcceptTimeout link s
  | .encryptedKeepalive link => Sys2Proof.Machine.execEncryptedKeepalive link s
  | .linkIdleTimeout link => Sys2Proof.Machine.execLinkIdleTimeout link s
  | .linkWidthChange link txMask rxMask => Sys2Proof.Machine.execLinkWidthChange link txMask rxMask s
  | .retrainMessage link kind peer peerLink round ok => Sys2Proof.Machine.execRetrainMessage link kind peer peerLink round ok s
  | .trainMessage link msg => Sys2Proof.Machine.execTrainMessage link msg s
  | .openMessage link msg => Sys2Proof.Machine.execOpenMessage link msg s
  | .openEchoMessage link msg => Sys2Proof.Machine.execOpenEchoMessage link msg s
  | .trainRoundTimeout link => Sys2Proof.Machine.execTrainRoundTimeout link s
  | .trainRepeat link => Sys2Proof.Machine.execTrainRepeat link s
  | .retrainLimitMiss link => Sys2Proof.Machine.execRetrainLimitMiss link s
  | .activeStableTimer link => Sys2Proof.Machine.execActiveStableTimer link s
  | .linkLostReceive link expect => Sys2Proof.Machine.execLinkLostReceive link expect s
  | .linkLostTimeout link => Sys2Proof.Machine.execLinkLostTimeout link s
  | .downTrainingAttempt link light => Sys2Proof.Machine.execDownTrainingAttempt link light s
  | .keySlotSwitch link tx => Sys2Proof.Machine.execKeySlotSwitch link tx s
  | .keyUseThreshold link => Sys2Proof.Machine.execKeyUseThreshold link s
  | .unitForward arrival msg => Sys2Proof.Machine.execUnitForward arrival msg s
  | .readMessage link msg => Sys2Proof.Machine.execReadMessage link msg s
  | .readDataMessage link msg => Sys2Proof.Machine.execReadDataMessage link msg s
  | .writeMessage link msg => Sys2Proof.Machine.execWriteMessage link msg s
  | .writeAckMessage link msg => Sys2Proof.Machine.execWriteAckMessage link msg s
  | .atomicMessage link msg => Sys2Proof.Machine.execAtomicMessage link msg s
  | .atomicRespMessage link msg => Sys2Proof.Machine.execAtomicRespMessage link msg s
  | .redOperandMessage link msg => Sys2Proof.Machine.execRedOperandMessage link msg s
  | .redResultMessage link msg => Sys2Proof.Machine.execRedResultMessage link msg s
  | .fenceMessage link msg => Sys2Proof.Machine.execFenceMessage link msg s
  | .fenceRequestsAnswered src ctx => Sys2Proof.Machine.execFenceRequestsAnswered src ctx s
  | .fenceDoneMessage link msg => Sys2Proof.Machine.execFenceDoneMessage link msg s
  | .bar2Read port offset len => Sys2Proof.Machine.execBar2Read port offset len s
  | .bar2Write port offset data ep => Sys2Proof.Machine.execBar2Write port offset data ep s
  | .bar2Atomic port op offset bytes operand compare => Sys2Proof.Machine.execBar2Atomic port op offset bytes operand compare s
  | .bar0WindowWrite port offset data => Sys2Proof.Machine.execBar0WindowWrite port offset data s
  | .perstAssert port => Sys2Proof.Machine.execPerstAssert port s
  | .perstPairAssert => Sys2Proof.Machine.execPerstPairAssert s
  | .resetNAssert => Sys2Proof.Machine.execResetNAssert s
  | .portDown port => Sys2Proof.Machine.execPortDown port s
  | .portUp port rate width => Sys2Proof.Machine.execPortUp port rate width s
  | .vectorDelivery port vec => Sys2Proof.Machine.execVectorDelivery port vec s
  | .mctpControlMessage binding setEid => Sys2Proof.Machine.execMctpControlMessage binding setEid s
  | .smbusLowTimeout => Sys2Proof.Machine.execSmbusLowTimeout s
  | .pldmBaseRequest binding eid command => Sys2Proof.Machine.execPldmBaseRequest binding eid command s
  | .pldmSensorRequest binding eid sensor => Sys2Proof.Machine.execPldmSensorRequest binding eid sensor s
  | .pldmFruRequest binding eid => Sys2Proof.Machine.execPldmFruRequest binding eid s
  | .pldmRequestUpdate binding eid => Sys2Proof.Machine.execPldmRequestUpdate binding eid s
  | .pldmFirmwareData binding eid offset data => Sys2Proof.Machine.execPldmFirmwareData binding eid offset data s
  | .pldmActivateFirmware binding eid => Sys2Proof.Machine.execPldmActivateFirmware binding eid s
  | .pldmCancelUpdate binding eid => Sys2Proof.Machine.execPldmCancelUpdate binding eid s
  | .updateIdleTimeout => Sys2Proof.Machine.execUpdateIdleTimeout s
  | .telemetryBoundary => Sys2Proof.Machine.execTelemetryBoundary s
  | .telIntervalWrite agent us => Sys2Proof.Machine.execTelIntervalWrite agent us s
  | .telTimestampRead agent bytes upper => Sys2Proof.Machine.execTelTimestampRead agent bytes upper s
  | .rcRegisterRead agent reg => Sys2Proof.Machine.execRcRegisterRead agent reg s
  | .registerWrite agent reg value bytes => Sys2Proof.Machine.execRegisterWrite agent reg value bytes s
  | .mailboxWriteWhileBusy mbx => Sys2Proof.Machine.execMailboxWriteWhileBusy mbx s
  | .fwrHeadWrite port count => Sys2Proof.Machine.execFwrHeadWrite port count s
  | .reservedCommandCode h code => Sys2Proof.Machine.execReservedCommandCode h code s
  | .cmdIdentify h => Sys2Proof.Machine.execCmdIdentify h s
  | .cmdStatusAck h failover capacityChanged => Sys2Proof.Machine.execCmdStatusAck h failover capacityChanged s
  | .cmdCancel h mbx => Sys2Proof.Machine.execCmdCancel h mbx s
  | .cancelSafePoint mbx done => Sys2Proof.Machine.execCancelSafePoint mbx done s
  | .cmdFmName h binding eid => Sys2Proof.Machine.execCmdFmName h binding eid s
  | .cmdPortRole h active => Sys2Proof.Machine.execCmdPortRole h active s
  | .cmdReset h cause => Sys2Proof.Machine.execCmdReset h cause s
  | .cmdServiceHoldEnter h => Sys2Proof.Machine.execCmdServiceHoldEnter h s
  | .cmdServiceHoldLeave h => Sys2Proof.Machine.execCmdServiceHoldLeave h s
  | .cmdCtxCreate h regions seed drainMs domain cores => Sys2Proof.Machine.execCmdCtxCreate h regions seed drainMs domain cores s
  | .cmdCtxTeardown h ctx => Sys2Proof.Machine.execCmdCtxTeardown h ctx s
  | .cmdCtxQuery h ctx => Sys2Proof.Machine.execCmdCtxQuery h ctx s
  | .cmdCtxRelease h ctx => Sys2Proof.Machine.execCmdCtxRelease h ctx s
  | .cmdRingCreate h ctx die entries owner => Sys2Proof.Machine.execCmdRingCreate h ctx die entries owner s
  | .cmdRingDelete h die ring => Sys2Proof.Machine.execCmdRingDelete h die ring s
  | .cmdBar2Map h segment ctx addr => Sys2Proof.Machine.execCmdBar2Map h segment ctx addr s
  | .cmdAppcoreStart h core image len ctxs => Sys2Proof.Machine.execCmdAppcoreStart h core image len ctxs s
  | .cmdAppcoreStop h core => Sys2Proof.Machine.execCmdAppcoreStop h core s
  | .cmdImageInstall h ctx addr len ownerKey => Sys2Proof.Machine.execCmdImageInstall h ctx addr len ownerKey s
  | .cmdImageRemove h image => Sys2Proof.Machine.execCmdImageRemove h image s
  | .cmdImageList h first => Sys2Proof.Machine.execCmdImageList h first s
  | .cmdDomainAssign h id size => Sys2Proof.Machine.execCmdDomainAssign h id size s
  | .cmdWindowWrite h index entry => Sys2Proof.Machine.execCmdWindowWrite h index entry s
  | .cmdWindowRemove h index => Sys2Proof.Machine.execCmdWindowRemove h index s
  | .cmdLinksetWrite h set members => Sys2Proof.Machine.execCmdLinksetWrite h set members s
  | .cmdFwdWrite h module set valid => Sys2Proof.Machine.execCmdFwdWrite h module set valid s
  | .cmdGroupWrite h group members rank => Sys2Proof.Machine.execCmdGroupWrite h group members rank s
  | .cmdTwinSet h link twin => Sys2Proof.Machine.execCmdTwinSet h link twin s
  | .cmdF8Mode h engine spare peer => Sys2Proof.Machine.execCmdF8Mode h engine spare peer s
  | .cmdLinkKey h link tx key salt keyId inSession => Sys2Proof.Machine.execCmdLinkKey h link tx key salt keyId inSession s
  | .cmdLinkRelease h link => Sys2Proof.Machine.execCmdLinkRelease h link s
  | .cmdPeerResetMark h module => Sys2Proof.Machine.execCmdPeerResetMark h module s
  | .cmdPeerResetClear h module => Sys2Proof.Machine.execCmdPeerResetClear h module s
  | .cmdFwWrite h ctx addr len => Sys2Proof.Machine.execCmdFwWrite h ctx addr len s
  | .cmdFwVerify h => Sys2Proof.Machine.execCmdFwVerify h s
  | .cmdFwActivate h => Sys2Proof.Machine.execCmdFwActivate h s
  | .cmdFwInfo h => Sys2Proof.Machine.execCmdFwInfo h s
  | .cmdProfileWrite h words bytes => Sys2Proof.Machine.execCmdProfileWrite h words bytes s
  | .cmdProfileRead h => Sys2Proof.Machine.execCmdProfileRead h s
  | .cmdFaultRead h seq => Sys2Proof.Machine.execCmdFaultRead h seq s
  | .cmdFaultNClear h => Sys2Proof.Machine.execCmdFaultNClear h s
  | .cmdLedgerRead h first => Sys2Proof.Machine.execCmdLedgerRead h first s
  | .cmdDumpRead h slot part offset len ctx addr => Sys2Proof.Machine.execCmdDumpRead h slot part offset len ctx addr s
  | .cmdDumpRelease h part slot => Sys2Proof.Machine.execCmdDumpRelease h part slot s
  | .cmdSelftest h chan failed total permanent => Sys2Proof.Machine.execCmdSelftest h chan failed total permanent s
  | .cmdLinkMargin h link => Sys2Proof.Machine.execCmdLinkMargin h link s
  | .cmdCalRun h quantity engine items => Sys2Proof.Machine.execCmdCalRun h quantity engine items s
  | .cmdOwnerKeyProgram h key => Sys2Proof.Machine.execCmdOwnerKeyProgram h key s
  | .cmdOwnerKeyRevoke h literal key sig => Sys2Proof.Machine.execCmdOwnerKeyRevoke h literal key sig s
  | .cmdVendorDebugOff h literal key sig => Sys2Proof.Machine.execCmdVendorDebugOff h literal key sig s
  | .cmdDebugUnlock h token => Sys2Proof.Machine.execCmdDebugUnlock h token s
  | .latchHeartbeat die => Sys2Proof.Machine.execLatchHeartbeat die s
  | .latchHeartbeatTimeout die => Sys2Proof.Machine.execLatchHeartbeatTimeout die s
  | .keeperAnswerTimeout die => Sys2Proof.Machine.execKeeperAnswerTimeout die s
  | .watchdogExpiry => Sys2Proof.Machine.execWatchdogExpiry s
  | .statusHeartbeatTick => Sys2Proof.Machine.execStatusHeartbeatTick s
  | .ledgerCommitComplete seq readBackA readBackB => Sys2Proof.Machine.execLedgerCommitComplete seq readBackA readBackB s
  | .faultReport die report => Sys2Proof.Machine.execFaultReport die report s
  | .faultRecordArrival die suspect cause => Sys2Proof.Machine.execFaultRecordArrival die suspect cause s
  | .faultRecordHandle => Sys2Proof.Machine.execFaultRecordHandle s
  | .faultRecordClose die suspect cause => Sys2Proof.Machine.execFaultRecordClose die suspect cause s
  | .wholeModuleReset cause => Sys2Proof.Machine.execWholeModuleReset cause s
  | .quiesceComplete => Sys2Proof.Machine.execQuiesceComplete s
  | .quiesceEscalation missed => Sys2Proof.Machine.execQuiesceEscalation missed s
  | .thermalModelStep die nodes diodes stackReadouts => Sys2Proof.Machine.execThermalModelStep die nodes diodes stackReadouts s
  | .thermalResetLimit part => Sys2Proof.Machine.execThermalResetLimit part s
  | .bandFallTimer part => Sys2Proof.Machine.execBandFallTimer part s
  | .governorLoop die powerMw => Sys2Proof.Machine.execGovernorLoop die powerMw s
  | .powerCapStep inputMw => Sys2Proof.Machine.execPowerCapStep inputMw s
  | .fastLimitAssert => Sys2Proof.Machine.execFastLimitAssert s
  | .fastLimitRelease => Sys2Proof.Machine.execFastLimitRelease s
  | .throttleNAssert => Sys2Proof.Machine.execThrottleNAssert s
  | .throttleNDeassert => Sys2Proof.Machine.execThrottleNDeassert s
  | .throttleHoldEnd => Sys2Proof.Machine.execThrottleHoldEnd s
  | .throttleNLongHold => Sys2Proof.Machine.execThrottleNLongHold s
  | .phaseOvercurrent rail phase => Sys2Proof.Machine.execPhaseOvercurrent rail phase s
  | .phaseRestart rail phase => Sys2Proof.Machine.execPhaseRestart rail phase s
  | .coolantFlowCheck inlet outlet predicted10 inputW => Sys2Proof.Machine.execCoolantFlowCheck inlet outlet predicted10 inputW s
  | .senseElementCompare rail phase readings => Sys2Proof.Machine.execSenseElementCompare rail phase readings s
  | .spdmGetVersion c => Sys2Proof.Machine.execSpdmGetVersion c s
  | .spdmGetCapabilities c => Sys2Proof.Machine.execSpdmGetCapabilities c s
  | .spdmNegotiateAlgorithms c supported => Sys2Proof.Machine.execSpdmNegotiateAlgorithms c supported s
  | .spdmGetDigests c => Sys2Proof.Machine.execSpdmGetDigests c s
  | .spdmGetCertificate c slot => Sys2Proof.Machine.execSpdmGetCertificate c slot s
  | .spdmChallenge c slot nonce => Sys2Proof.Machine.execSpdmChallenge c slot nonce s
  | .spdmGetMeasurements c indices signed nonce => Sys2Proof.Machine.execSpdmGetMeasurements c indices signed nonce s
  | .spdmKeyExchange c => Sys2Proof.Machine.execSpdmKeyExchange c s
  | .spdmFinish c session verified => Sys2Proof.Machine.execSpdmFinish c session verified s
  | .spdmEndSession c session => Sys2Proof.Machine.execSpdmEndSession c session s
  | .spdmKeyUpdate c session => Sys2Proof.Machine.execSpdmKeyUpdate c session s
  | .spdmHeartbeat c session => Sys2Proof.Machine.execSpdmHeartbeat c session s
  | .spdmUnsupportedRequest c code => Sys2Proof.Machine.execSpdmUnsupportedRequest c code s
  | .consoleLine chars cmd overrun => Sys2Proof.Machine.execConsoleLine chars cmd overrun s
  | .consoleCtrlC => Sys2Proof.Machine.execConsoleCtrlC s
  | .uartBreak => Sys2Proof.Machine.execUartBreak s
  | .consoleTest chan hold linkState anyState failed total permanent => Sys2Proof.Machine.execConsoleTest chan hold linkState anyState failed total permanent s
  | .consoleReadRail rail mv mw => Sys2Proof.Machine.execConsoleReadRail rail mv mw s
  | .flashFormat part => Sys2Proof.Machine.execFlashFormat part s
  | .romInfo => Sys2Proof.Machine.execRomInfo s
  | .romLoad part image crcOk => Sys2Proof.Machine.execRomLoad part image crcOk s
  | .romBoot => Sys2Proof.Machine.execRomBoot s
  | .escalationRailReapply => Sys2Proof.Machine.execEscalationRailReapply s
  | .longOperationEnd mbx => Sys2Proof.Machine.execLongOperationEnd mbx s
  | .hbmEyeTestComplete stack pc failed => Sys2Proof.Machine.execHbmEyeTestComplete stack pc failed s
  | .cartridgePresenceGain cart serial wordsOk => Sys2Proof.Machine.execCartridgePresenceGain cart serial wordsOk s
  | .perstDeassert port => Sys2Proof.Machine.execPerstDeassert port s
  | .appcoreMemoryAccess core addr len write => Sys2Proof.Machine.execAppcoreMemoryAccess core addr len write s
  | .pcieConfigWrite port dstate3 barGiBLog vecMask => Sys2Proof.Machine.execPcieConfigWrite port dstate3 barGiBLog vecMask s
  | .doeDiscoveryRequest port index => Sys2Proof.Machine.execDoeDiscoveryRequest port index s
  | .mctpUnsupportedType binding type => Sys2Proof.Machine.execMctpUnsupportedType binding type s
  | .mbxHeaderAbsent mbx => Sys2Proof.Machine.execMbxHeaderAbsent mbx s
  | .faultNPulseEnd => Sys2Proof.Machine.execFaultNPulseEnd s
  | .dumpSlotEraseComplete part slot => Sys2Proof.Machine.execDumpSlotEraseComplete part slot s
  | .ucieSidebandTrained engine => Sys2Proof.Machine.execUcieSidebandTrained engine s
  | .linkWaitReportTimeout link => Sys2Proof.Machine.execLinkWaitReportTimeout link s

end Sys2Proof.Machine
end

