-- ==== Sys2Proof/Machine/Tick.lean ====
section
/-! DEFINITION. The one effect of the clock that no command of the table carries: the timestamp counter (R192, R322). -/

namespace Sys2Proof.Machine

/-- One tick of MESHCLK: the module timestamp counter, which runs from P0's PLL lock, advances by 1 (R192, R322).
Log: DESIGN CHOICE 2, 146. -/
def State.tick (s : State) : State :=
  if (s.base 0).pllLocked then { s with tel := { s.tel with timestamp := s.tel.timestamp + 1 } } else s

end Sys2Proof.Machine
end

