-- ==== Sys2Proof/Machine/Step.lean ====
section
/-! DEFINITION. One step: the command at the front of the queue acts; with no command waiting, one tick of the module
clock passes. -/

namespace Sys2Proof.Machine

/-- Take the command at the front of the queue; on an empty queue the timestamp counter counts (R322; log entry 2).
Log: DESIGN CHOICE 2, 8. -/
def step (s : State) : Host.Outcome State Fault Refusal :=
  match s.pending with
  | c :: rest => exec c { s with pending := rest }
  | [] => .next s.tick

/-- The state with the command that a word spells at the front of the queue; no word spells one. Log: DESIGN CHOICE 1. -/
def State.withFetchWord (s : State) (nbits w : Nat) : State :=
  match Sys2Proof.decodeTableWord nbits w with
  | some c => { s with pending := c :: s.pending }
  | none => s

end Sys2Proof.Machine
end

