-- ==== Sys2Proof/Safety.lean ====
section
/-! DEFINITION. What counts as a safe run of the block, and the conditions on states that statements name. -/

namespace Sys2Proof.Machine

/-- A step is safe when it answers a next state: no command stops the block. -/
def stepSafe (s : State) : Prop := ∃ t, step s = .next t

/-- The homes' cells and their poison marks are in canonical form: one list for one content. -/
def State.canonical (s : State) : Bool := Store.wf 0 s.mem.cells && Store.wf false s.mem.poison

/-- Two states with the same memory: every byte of every home reads the same, and every line's poison. -/
def sameMemory (s t : State) : Prop :=
  (∀ home off, t.byte home off = s.byte home off) ∧ ∀ home off, t.poisoned home off = s.poisoned home off

/-- Within the module's bounds: long operations (R356), SPDM sessions (Table 15.3), queued and logged faults (R372, Table 12.11), events
held before the ring exists (R482), the telemetry interval (R323), and the vectors of Table 10.4. -/
def State.bounded (s : State) : Prop :=
  s.keeper.longOps.length ≤ 4 ∧ s.sec.sessions.length ≤ 4 ∧ s.faults.queue.length ≤ 256 ∧ s.faults.log.length ≤ 4096 ∧
    s.keeper.held.length ≤ 4096 ∧ 100 ≤ s.tel.interval ∧ s.tel.interval ≤ 1000000 ∧ 100 ≤ s.tel.nextInterval ∧
    s.tel.nextInterval ≤ 1000000 ∧ ∀ v, 70 ≤ v → s.host.portA.pending.getLsbD v = false ∧ s.host.portB.pending.getLsbD v = false

/-- No two valid windows of different indices overlap in one local context and target module (R284); every link set names at most 8
links, none twice (R288). -/
def State.windowsApart (s : State) : Prop :=
  (∀ p ∈ s.domain.windows, ∀ q ∈ s.domain.windows, p.1 ≠ q.1 → winValid p.2 = true → winValid q.2 = true →
    winOverlap p.2 q.2 = false) ∧ ∀ p ∈ s.domain.linkSets, p.2.length ≤ 8 ∧ p.2.Nodup

/-- A firmware command has ended with a status and result words, as its caller reads it: in its mailbox, or in the next
response record of the firmware ring (R349, R352, R354). -/
def answeredAt (s t : State) (h : CmdHdr) (phase : Phase) (st : FwStatus) (results : List W64) : Prop :=
  let word := cstat phase h.seq st.code (if phase = .done then 4095 else 0)
  match callerMbx h.caller with
  | some m => (t.mailbox m.val).cstat = word ∧ (t.mailbox m.val).res = fiveWords results
  | none => t.keeper.fwcHead = s.keeper.fwcHead + 1 ∧ t.keeper.fwrTail = s.keeper.fwrTail + 1 ∧
      t.bytes 12 (offFwRspRing + 64 * (s.keeper.fwrTail.toNat % 4096)) 8 = leBytes 8 word.toNat

/-- A long operation of the command runs, and its mailbox reads RUNNING (R349, R356). -/
def longStarted (t : State) (h : CmdHdr) (kind : LongKind) (total : Nat) : Prop :=
  ∃ m, callerMbx h.caller = some m ∧ cstatPhase (t.mailbox m.val).cstat = 2 ∧
    ∃ o ∈ t.keeper.longOps, o.mbx = m ∧ o.kind = kind ∧ o.seq = h.seq ∧ o.caller = h.caller ∧ o.total = total ∧ o.cancelling = false

/-- The long operation of a mailbox has ended with a status and result words, as its caller reads it (R356). -/
def longEnded (t : State) (o : LongOp) (phase : Phase) (st : FwStatus) (words : List W64) : Prop :=
  t.longIn o.mbx = none ∧ ∀ m, callerMbx o.caller = some m → (t.mailbox m.val).res = fiveWords words ∧
    (t.mailbox m.val).cstat = cstat phase o.seq st.code (if phase = .done then 4095 else progressOf o.done o.total)

end Sys2Proof.Machine
end

