-- ==== Sys2Proof/Certificates/Slice0/Obligations.lean ====
section
/-! DEFINITION. The statements for the provers. Each says what its title says, from the rules of spec/ that it cites. A clause on a
command concludes that `exec` answers a next state, and says what that state holds. -/

open Sys2Proof Sys2Proof.Machine

/-- For the eight commands of the 64 V input: an idle stage starts between 52 and 72 V; below 48 V it stops and the module loses
its memories; above 76 V it stops until the input has stayed at or below 72 V; while it runs between 48 and 76 V the cap
follows the input as min(5,400 W, 100 A x V_in), or at most 2,700 W under THROTTLE_N; a stop records its cause and a second
within 60 s keeps the stage off; the restart timer starts a stage stopped once and no other; mating limits inrush. Each
answers a next state. (R390, R391, R392, R470.) -/
def Obligations.InputStageFollowsInputVoltage : Prop :=
  (∀ (s : State) (mv : Nat) (serial : W64) (cal : Bool), s.power.ps = .off → 52000 ≤ mv → mv ≤ 72000 →
    ∃ t, exec (.inputPowerApplied mv serial cal) s = .next t ∧ t.power.ps = .running ∧ t.power.bus12 = true ∧
      t.power.inputMv = mv ∧ t.mem = s.mem) ∧
  (∀ s : State, ∃ t, exec .inputUndervoltage s = .next t ∧ t.power.ps = .off ∧ t.power.bus12 = false ∧
    t.power.railsUp = false ∧ t.mem.cells = [] ∧ t.mem.poison = [] ∧ t.ops = Operators.reset ∧ t.flash = s.flash) ∧
  (∀ s : State, s.power.ps = .running → ∃ t, exec .inputOvervoltage s = .next t ∧ t.power.ps = .overvoltage ∧
    t.power.bus12 = false ∧ t.mem.cells = [] ∧ t.mem.poison = [] ∧ t.flash = s.flash) ∧
  (∀ (s : State) (mv : Nat), s.power.ps = .overvoltage → 52000 ≤ mv → mv ≤ 72000 →
    ∃ t, exec (.overvoltageRestart mv) s = .next t ∧ t.power.ps = .running ∧ t.power.bus12 = true) ∧
  (∀ (s : State) (mv : Nat), s.power.ps = .running → 48000 ≤ mv → mv ≤ 76000 →
    ∃ t, exec (.inputBandChange mv) s = .next t ∧ t.power.ps = .running ∧
      t.pCap = min (min 5400000 (100 * mv)) (if s.power.throttleN then 2700000 else 5400000)) ∧
  (∀ (s : State) (c : PsStopCause) (since : Nat), s.power.ps = .running →
    ∃ t, exec (.psStop c since) s = .next t ∧ t.power.bus12 = false ∧ t.mem.cells = [] ∧ t.power.lastStop = some c ∧
      t.power.eeprom = s.power.eeprom ++ [c] ∧
      t.power.ps = if s.power.stoppedOnce = true ∧ since < 60 then .keptOff else .stopped) ∧
  (∀ s : State, ∃ t, exec .psRestartTimer s = .next t ∧
    t.power.ps = (if s.power.ps = .stopped then .running else s.power.ps) ∧ t.mem = s.mem) ∧
  (∀ s : State, s.power.ps = .off → ∃ t, exec .liveInputMate s = .next t ∧ t.power.inrush = true ∧ t.power.ps = .off ∧
    t.mem = s.mem)

/-- RAIL_SEQUENCE brings every rail up when the 12 V bus is in regulation; RAIL_REGULATION_TIMEOUT of VAUX, VIO, VCTL_P0 or
VBASE_P0 leaves the module without a start; PHASE_OVERCURRENT below the count that makes a phase permanent turns the phase off
and counts one trip; PHASE_RESTART turns it on again and no other; SENSE_ELEMENT_COMPARE takes the chosen element's reading,
with the offset in force, as the phase's current and keeps the chosen element while it does not diverge. A change of element
leaves a phase's reading as it was, and no other phase's offset changes. (R395, R396, R419, R424, Table 13.3, Table 12.2.) -/
def Obligations.RailsAndPhasesFollowTable : Prop :=
  (∀ s : State, s.power.bus12 = true → s.power.railsUp = false → s.power.escalated = false →
    ∃ t, exec .railSequence s = .next t ∧ t.power.railsUp = true ∧ t.power.retained = true ∧ (∀ k, (t.rail k).up = true) ∧
      t.mem = s.mem) ∧
  (∀ (s : State) (r : Byte), r = 0x78 ∨ r = 0x79 ∨ r = 0x28 ∨ r = 0x20 →
    ∃ t, exec (.railRegulationTimeout r) s = .next t ∧ t.power.railsUp = false ∧ (t.rail r.toNat).up = false ∧ t.mem = s.mem) ∧
  (∀ (s : State) (r : Byte) (p : Nat), p < 32 → (s.rail r.toNat).padlocked.contains p = false →
    Store.get 0 s.faults.transients (phaseChan r.toNat p).toNat < 2 → s.isPadlocked (phaseChan r.toNat p) = false →
    ∃ t, exec (.phaseOvercurrent r p) s = .next t ∧ (t.rail r.toNat).tripped = (s.rail r.toNat).tripped ++ [p] ∧
      (t.rail r.toNat).padlocked = (s.rail r.toNat).padlocked ∧ t.mem = s.mem) ∧
  (∀ (s : State) (r : Byte) (p : Nat), ∃ t, exec (.phaseRestart r p) s = .next t ∧ p ∉ (t.rail r.toNat).tripped ∧
    (∀ q, q ≠ p → (q ∈ (t.rail r.toNat).tripped ↔ q ∈ (s.rail r.toNat).tripped)) ∧
    (t.rail r.toNat).padlocked = (s.rail r.toNat).padlocked ∧ t.mem = s.mem) ∧
  (∀ (s : State) (r : Byte) (p x y z : Nat), Store.get 0 (s.rail r.toNat).element p = 0 → agree 3 x y = true →
    agree 3 x z = true → agree 2 y z = false →
    ∃ t, exec (.senseElementCompare r p [x, y, z]) s = .next t ∧
      Store.get 0 (t.rail r.toNat).current p = s.cal.sensed r.toNat p x ∧
      (s.cal.offset r.toNat p = (0, 1) → Store.get 0 (t.rail r.toNat).current p = x) ∧
      Store.get 0 (t.rail r.toNat).element p = 0 ∧ t.mem = s.mem) ∧
  (∀ (s : State) (r p e : Nat) (seen : List Nat), seen = Store.get [] (s.rail r).readings p → 0 < (s.cal.offset r p).2 →
    (s.switchElement r p e).cal.sensed r p (seen.getD e 0) =
        s.cal.sensed r p (seen.getD (Store.get 0 (s.rail r).element p) 0) ∧
      Store.get 0 ((s.switchElement r p e).rail r).element p = e ∧ (s.switchElement r p e).mem = s.mem ∧
      (s.switchElement r p e).cal.words = s.cal.words ∧ (∀ k, k ≠ offsetKey r p →
        Store.get none (s.switchElement r p e).cal.moving k = Store.get none s.cal.moving k))

/-- GOVERNOR_LOOP and the fast-limit commands answer a next state in which a die's level is one of the requests in force for it or
0 and is at least every one of them, the fast limit and the THROTTLE_N hold counting as requests for level 4; the ramp request
rises by one step when the rise over 10 us reaches 25 W under the ramp limit. The loop throttles the issue rate of the stack
of the same number by one step more while VBASE is over what its phases left allow, and leaves every other die's governor and
every other stack as it was. That this loop paces the stack is the model's choice (log entry 18). (R395, R404, R406, R407,
Table 13.7.) -/
def Obligations.GovernorTakesHighestRequest : Prop :=
  (∀ (s : State) (d : Die) (mw : Nat), ∃ t, exec (.governorLoop d mw) s = .next t ∧
    (t.governor d.val).level = govLevel s.power.fastLimit s.power.throttleHold (t.governor d.val) ∧
    (∀ r ∈ [(t.governor d.val).thermal, (t.governor d.val).rate, (t.governor d.val).diode, (t.governor d.val).rail,
      (t.governor d.val).ramp, (t.governor d.val).cap], r ≤ (t.governor d.val).level) ∧
    (s.power.fastLimit = true ∨ s.power.throttleHold = true → 4 ≤ (t.governor d.val).level) ∧
    (s.rampLimited d.val = true → (s.governor d.val).power.getD 9 mw + 25000 ≤ mw →
      (t.governor d.val).ramp = min 7 ((s.governor d.val).ramp + 1)) ∧
    (s.baseOver (d.val / 2) = true → (t.stack d.val).issueRail = min 7 ((s.stack d.val).issueRail + 1)) ∧
    (∀ k, k ≠ d.val → t.governor k = s.governor k ∧ t.stack k = s.stack k) ∧ t.mem.cells = s.mem.cells ∧
    t.mem.poison = s.mem.poison) ∧
  (∀ s : State, ∃ t, exec .fastLimitAssert s = .next t ∧ t.power.fastLimit = true ∧ t.mem = s.mem ∧
    ∀ d < 12, 4 ≤ (t.governor d).level ∧ (t.governor d).cap = (s.governor d).cap) ∧
  (∀ s : State, ∃ t, exec .fastLimitRelease s = .next t ∧ t.power.fastLimit = false ∧ t.mem = s.mem ∧
    ∀ d < 12, (t.governor d).level = govLevel false s.power.throttleHold (s.governor d))

/-- THROTTLE_N_ASSERT sets P_cap to at most 2,700 W and every governor to at least level 4; THROTTLE_HOLD_END leaves the
sequencer's request standing while the keeper has not acted on the assertion and ends it once the keeper has; the keeper's
POWER_CAP_STEP above P_cap raises every die's cap request by one step, up to 7, its first step after an assertion first
raising it to 4; THROTTLE_N_DEASSERT returns the cap and ends the request; a long hold changes neither. None stops. (R405,
R408, R409.) -/
def Obligations.ThrottleHoldAndPowerCap : Prop :=
  (∀ s : State, s.power.throttleN = false → ∃ t, exec .throttleNAssert s = .next t ∧ t.power.throttleN = true ∧
    t.pCap ≤ 2700000 ∧ ∀ d < 12, 4 ≤ (t.governor d).level) ∧
  (∀ s : State, s.power.throttleN = true → ∃ t, exec .throttleHoldEnd s = .next t ∧
    t.power.throttleHold = (s.power.throttleHold && s.power.throttleUnseen) ∧ t.power.throttleN = true ∧ t.mem = s.mem) ∧
  (∀ (s : State) (mw : Nat), s.keeper.idore = true → s.pCap < mw →
    ∃ t, exec (.powerCapStep mw) s = .next t ∧ t.power.inputMw = mw ∧ t.mem = s.mem ∧
      ∀ d < 12, (t.governor d).cap = min 7 ((if s.power.throttleN = true ∧ s.power.throttleUnseen = true then
        max 4 (s.governor d).cap else (s.governor d).cap) + 1)) ∧
  (∀ s : State, s.power.throttleN = true → ∃ t, exec .throttleNDeassert s = .next t ∧ t.power.throttleN = false ∧
    t.power.throttleHold = false ∧ t.pCap = min 5400000 (100 * s.power.inputMv)) ∧
  (∀ s : State, s.power.throttleN = true → ∃ t, exec .throttleNLongHold s = .next t ∧ t.power = s.power ∧
    t.faults = s.faults)

/-- THERMAL_MODEL_STEP takes the given temperature of a node of its partition and lowers no part's band; BAND_FALL_TIMER lowers
the band of a part to that of its hotspot 2 C higher and never raises it; THERMAL_RESET_LIMIT of an unpadlocked compute die at
115 C or above with no reset under way starts the reset with the code of THERMAL; COOLANT_FLOW_CHECK takes the two
temperatures, an inlet that gives no reading as 45 C. Each answers a next state. (R397, R398, R400, R402, Table 13.5, Table
13.6.) -/
def Obligations.ThermalLimitsAndBands : Prop :=
  (∀ (s : State) (d : BaseDie) (k : Nat) (x : Int), k < 448 →
    ∃ t, exec (.thermalModelStep d [(k, x)] [] []) s = .next t ∧ Store.get 0 t.thermal.nodes (1024 * d.val + k) = x ∧
      ∀ p, s.bandOfPart p ≤ t.bandOfPart p) ∧
  (∀ (s : State) (c : Chan) (p : Nat), chanPart c = some p → banded p = true →
    ∃ t, exec (.bandFallTimer c) s = .next t ∧
      t.bandOfPart p = min (s.bandOfPart p) (bandOfTemp (Store.get 0 s.thermal.hotspot p + 199)) ∧
      (∀ q, q ≠ p → t.bandOfPart q = s.bandOfPart q) ∧ t.mem = s.mem) ∧
  (∀ (s : State) (d : Die), 11500 ≤ Store.get 0 s.thermal.hotspot d.val → s.faults.seqr.active = none →
    s.isPadlocked (dieChan d.val) = false → s.faults.log = [] → s.faults.openRecs = [] → d.val < 2 →
    ∃ t, exec (.thermalResetLimit (dieChan d.val)) s = .next t ∧ t.faults.seqr.active = some (.fatal 0x60)) ∧
  (∀ (s : State) (i : Option Int) (o p : Int) (w : Nat), ∃ t, exec (.coolantFlowCheck i o p w) s = .next t ∧
    (s.cal.inletAbsent = false → t.thermal.inlet = i.getD 4500) ∧ t.thermal.outlet = o ∧ t.power = s.power ∧
    t.faults = s.faults)

/-- MODULE_START with the rails up, REFCLK present and no reset under way starts the module; a die without a sampled position
takes its straps and one with a position keeps it. PLL_LOCK of P0 at position 0 starts its boot ROM and the timestamp counter
at 0, and shows BOOTING; of another die with its own position beneath a locked parent it locks that die. BOOT_IMAGE_VERIFIED
starts Idore with the image that verifies and the next boot count, or shows FAILED with FAULT_N held when none does.
TIME_MESSAGE aligns a die's copy of the counter. (R166, R192, R322, R336, R340, R349, Table 11.4.) -/
def Obligations.StartFromRailsToIdore : Prop :=
  (∀ (s : State) (x : Straps), s.power.railsUp = true → s.power.refclk = true → s.faults.seqr.active = none →
    s.keeper.started = false → ∃ t, exec (.moduleStart x) s = .next t ∧ t.keeper.started = true ∧ t.mem = s.mem ∧
      (t.base 0).position = some ((s.base 0).position.getD x.p0) ∧ (t.base 1).position = some ((s.base 1).position.getD x.p1) ∧
      (t.base 2).position = some ((s.base 2).position.getD x.p2) ∧ (t.base 3).position = some ((s.base 3).position.getD x.p3) ∧
      (t.base 4).position = some ((s.base 4).position.getD x.p4) ∧ (t.base 5).position = some ((s.base 5).position.getD x.p5)) ∧
  (∀ s : State, s.keeper.started = true → (s.base 0).pllLocked = false → (s.base 0).position = some 0 →
    s.keeper.idore = false → ∃ t, exec (.pllLock 0) s = .next t ∧ (t.base 0).pllLocked = true ∧ t.tel.timestamp = 0 ∧
      t.keeper.rom = true ∧ t.modState = .booting ∧ t.mem = s.mem) ∧
  (∀ (s : State) (d : BaseDie) (p : Port4), d ≠ 0 → s.keeper.started = true → (s.base d.val).pllLocked = false →
    (s.base d.val).position = some (Fin.ofNat 8 d.val) → s.clockInput d.val = some p →
    (s.base (neighbour d.val p)).pllLocked = true → ∃ t, exec (.pllLock d) s = .next t ∧ (t.base d.val).pllLocked = true ∧
      (t.base d.val).clockIn = some p ∧ t.mem = s.mem ∧ t.keeper = s.keeper) ∧
  (∀ s : State, s.keeper.rom = true → s.keeper.idore = false → s.modState = .booting →
    s.flash.partA.journal = [] → s.flash.partB.journal = [] → (s.cal.load (Store.get 0 s.keeper.serials 0)).absent = [] →
    ∃ t, exec .bootImageVerified s = .next t ∧ match s.chooseImage with
      | none => t.keeper.idore = false ∧ t.faults.faultN.held = true
      | some b => t.keeper.idore = true ∧ t.keeper.imageB = b ∧ t.keeper.bootCount = s.bootRecord.count + 1 ∧
          t.sec.udsClosed = true) ∧
  (∀ (s : State) (d : BaseDie) (w : W64), (s.base d.val).pllLocked = true →
    ∃ t, exec (.timeMessage d w true) s = .next t ∧ s.tel.timestamp + (t.base d.val).timeSkew = w ∧ t.mem = s.mem)

/-- LATCH_IMAGE_DELIVERY of an image with its own digest to a locked die with good cores runs the latch, and one with another
digest does not. STACK_TRAINING_COMPLETE trains a stack that its base die serves, or on a failed step leaves it untrained and
out of the interleave. HBM_CLEAR_COMPLETE leaves every byte of a trained stack 0 with no poison, and every byte of the other
homes as it was. DUMP_COPY_COMPLETE clears shelf SRAM and brings the event ring. READY_ENTRY with every stack done ends the
start and sends MODULE_READY with the boot count. (R147, R161, R299, R338, R342, R387, R428, Table 11.4.) -/
def Obligations.StacksClearedThenReady : Prop :=
  (∀ (s : State) (d : BaseDie) (image : List Byte), s.keeper.idore = true → d ≠ 0 → (s.base d.val).pllLocked = true →
    3 ≤ s.controlCores d.val → ∃ t, exec (.latchImageDelivery d image (Config.sha384 image)) s = .next t ∧
      (t.latch d.val).running = true ∧ (t.latch d.val).loaded = true) ∧
  (∀ (s : State) (d : BaseDie) (image : List Byte) (digest : BitVec 384), Config.sha384 image ≠ digest →
    exec (.latchImageDelivery d image digest) s = .next s) ∧
  (∀ (s : State) (k : StackIx), (s.stack k.val).padlocked = false → (s.stack k.val).trained = false → s.stackOn k.val = true →
    ∃ t, exec (.stackTrainingComplete k none) s = .next t ∧ (t.stack k.val).trained = true ∧
      (t.stack k.val).padlocked = false ∧ t.mem.cells = s.mem.cells) ∧
  (∀ (s : State) (k : StackIx) (f : Fin 6), (s.stack k.val).padlocked = false → (s.stack k.val).trained = false →
    s.stackOn k.val = true → ∃ t, exec (.stackTrainingComplete k (some f)) s = .next t ∧ (t.stack k.val).trained = false ∧
      (t.stack k.val).failedStep = some f ∧ k.val ∉ t.mem.interleave) ∧
  (∀ (s : State) (k : StackIx), (s.stack k.val).trained = true →
    ∃ t, exec (.hbmClearComplete k) s = .next t ∧ (t.stack k.val).cleared = true ∧
      (∀ off < 0x10000000000, t.byte k.val off = 0) ∧
      (∀ home off, home ≠ k.val → off < 0x10000000000 → t.byte home off = s.byte home off)) ∧
  (∀ s : State, s.keeper.idore = true → s.keeper.shelfCleared = false →
    ∃ t, exec .dumpCopyComplete s = .next t ∧ t.keeper.shelfCleared = true ∧ t.keeper.eventRing = true ∧
      t.keeper.dumpCopying = none ∧ t.keeper.held = [] ∧
      ∀ k < 12, ∀ off < 0x10000000000, t.byte k off = s.byte k off) ∧
  (∀ s : State, s.keeper.idore = true → s.keeper.shelfCleared = true → s.stacksDone = true → s.modState = .booting →
    ∃ t, exec .readyEntry s = .next t ∧ t.host.everReady = true ∧
      t.out.getLast? = some (.notice (.moduleReady s.keeper.bootCount)))

/-- POS_MESSAGE at a locked die in its own place, with the position that its hinge map names and its own as the expected one,
takes that end's announcement, and with any other position or expected one closes the edge. EDGE_PRBS_COMPLETE between locked
dies forms the receivers' masks from the lanes that passed. MASK_MESSAGE of the present round takes the sender's masks and
answers PLAN. PLAN_MESSAGE from the follower that equals the leader's own plan makes the leader send APPLY. APPLY_MESSAGE
opens the edge with the plans of the agreed masks. RETRAIN_REQ_MESSAGE starts a retrain of an open edge. A message missing in
a round whose masks were sent makes the round disagree, and the third disagreement begins the fallback. EDGE_OPEN_TIMEOUT
closes an edge that is not open. (R168, R181, R184, R187, R188, R189, Table 6.6, Table 6.7.) -/
def Obligations.EdgesTrainOpenAndClose : Prop :=
  (∀ (s : State) (d : BaseDie) (p : Port4) (e : Nat), portEdge d.val p = some e → (s.edge e).state = .sideband →
    (s.base d.val).position = some (Fin.ofNat 8 d.val) → (s.base d.val).pllLocked = true → s.latchShort d.val = false →
    (∃ t, exec (.posMessage d p (critWord (BitVec.ofNat 32 (neighbour d.val p))) (critWord (BitVec.ofNat 32 d.val))) s = .next t ∧
      t.mem = s.mem ∧
      (if (edgeEnds e).1 = d.val then (t.edge e).posLow else (t.edge e).posHigh) = true ∧
      ((t.edge e).state = .testing ↔ (t.edge e).posLow = true ∧ (t.edge e).posHigh = true)) ∧
    ∀ v w : W32, v.toNat ≠ neighbour d.val p ∨ w.toNat ≠ d.val →
      ∃ t, exec (.posMessage d p (critWord v) (critWord w)) s = .next t ∧ (t.edge e).state = .closed) ∧
  (∀ (s : State) (e : EdgeIx) (fu fd : BitVec 136), (s.edge e.val).state = .testing →
    (s.base (edgeEnds e.val).1).pllLocked = true → (s.base (edgeEnds e.val).2).pllLocked = true →
    ∃ t, exec (.edgePrbsComplete e fu fd) s = .next t ∧ (t.edge e.val).state = .masking ∧ (t.edge e.val).rxUp = ~~~fu ∧
      (t.edge e.val).rxDown = ~~~fd ∧ t.mem = s.mem) ∧
  (∀ (s : State) (e : EdgeIx), (s.edge e.val).state ≠ .opened → (s.edge e.val).state ≠ .closed →
    ∃ t, exec (.edgeOpenTimeout e) s = .next t ∧ (t.edge e.val).state = .closed) ∧
  (∀ (s : State) (e : EdgeIx) (tx rx : BitVec 136), (s.edge e.val).retraining = true →
    ∃ t, exec (.maskMessage e true tx rx (s.edge e.val).round true) s = .next t ∧ (t.edge e.val).txUp = tx ∧
      (t.edge e.val).rxDown = rx ∧ t.out = s.out ++ [.plan e false (t.planMsg e.val)] ∧ t.mem = s.mem) ∧
  (∀ (s : State) (e : EdgeIx), (s.edge e.val).retraining = true →
    ∃ t, exec (.planMessage e false (s.planMsg e.val) true) s = .next t ∧
      t.out = s.out ++ [.apply e true ((s.edge e.val).switchSeqs .up) ((s.edge e.val).switchSeqs .down)] ∧ t.mem = s.mem) ∧
  (∀ (s : State) (e : EdgeIx) (u d : List (BitVec 10)), (s.edge e.val).retraining = true → (s.edge e.val).state ≠ .closed →
    ∃ t, exec (.applyMessage e u d true) s = .next t ∧ (t.edge e.val).state = .opened ∧ (t.edge e.val).retraining = false ∧
      (t.edge e.val).up = s.newPlan e.val .up ∧
      (t.edge e.val).down = s.newPlan e.val .down) ∧
  (∀ (s : State) (e : EdgeIx) (low : Bool) (g : Byte) (c : Cause), (s.edge e.val).state = .opened → (s.edge e.val).fallback = false →
    (s.edge e.val).retraining = false → ∃ t, exec (.retrainReqMessage e low g c true) s = .next t ∧
      (t.edge e.val).retraining = true ∧ (t.edge e.val).round = 1 ∧ t.mem = s.mem) ∧
  (∀ (s : State) (e : EdgeIx), (s.edge e.val).retraining = true → (s.edge e.val).asked = true →
    ∃ t, exec (.sidebandRoundTimeout e) s = .next t ∧ (t.edge e.val).disagreed = (s.edge e.val).disagreed + 1 ∧
      if (s.edge e.val).disagreed < 2 then (t.edge e.val).round = (s.edge e.val).round + 1 ∧ (t.edge e.val).retraining = true
      else (t.edge e.val).fallback = true ∧ (t.edge e.val).retraining = false)

/-- QUARTER_TEST_COMPLETE in the fallback records a quarter as passed exactly when it shows no error. The first good QTEST_MESSAGE
of an end gives each group of its direction width 4 on the first quarter that passed, or width 0. D2D_ROLE_MAP_WRITE at the
nearer end of an edge before the lock writes the map, a map of express groups only with group 0 made mesh. A first clean
ISOLATION_TEST_COMPLETE lets the stopped group resume. (R172, R182, R188.) -/
def Obligations.NarrowestWidthOfFallback : Prop :=
  (∀ (s : State) (e : EdgeIx) (d : Dir) (g : Fin 8) (q : Fin 4) (n : Nat), (s.edge e.val).fallback = true →
    ∃ t, exec (.quarterTestComplete e d g q n) s = .next t ∧ t.mem = s.mem ∧
      (t.edge e.val).quarters.getLsbD ((if d = .up then 0 else 32) + 4 * g.val + q.val) = decide (n = 0)) ∧
  (∀ (s : State) (e : EdgeIx) (pass : BitVec 32) (g : Nat), (s.edge e.val).fallback = true → (s.edge e.val).qtestLow = false →
    g < 8 → ∃ t, exec (.qtestMessage e true pass true) s = .next t ∧ (t.edge e.val).down.spares = [] ∧
      (pass.getLsbD (4 * g) = true → (t.edge e.val).down.widths.getD g 0 = 4 ∧ (t.edge e.val).down.sets.getD g 0 = 0) ∧
      ((∀ i < 4, pass.getLsbD (4 * g + i) = false) → (t.edge e.val).down.widths.getD g 0 = 0)) ∧
  (∀ (s : State) (d : BaseDie) (p : Port4) (e : Nat) (v : Byte), portEdge d.val p = some e → (edgeEnds e).1 = d.val →
    (s.base d.val).locked = false → (s.edge e).state ≠ .opened →
    ∃ t, exec (.d2dRoleMapWrite d p v) s = .next t ∧ (t.edge e).roleLow = (if v = 0xFF then 0xFE else v) ∧
      (t.edge e).roleLowLocked = true) ∧
  (∀ (s : State) (e : EdgeIx) (g lo : Fin 8), ((s.edge e.val).groupState .up g.val).stopped = true →
    ((s.edge e.val).groupState .up g.val).clean = 0 →
    ∃ t, exec (.isolationTestComplete e g [] [] 0 0 (lo.castLE (by decide)) .up) s = .next t ∧
      ((t.edge e.val).groupState .up g.val).stopped = false ∧ ((t.edge e.val).groupState .down g.val).stopped = false ∧
      ((t.edge e.val).groupState .up g.val).clean = 1 ∧ t.mem = s.mem)

/-- FLIT_RECEIVE on an open group: a data flit with a good check and a class below 5 is delivered, acknowledged with its credit,
and the expected sequence advances when it bears that sequence, and nothing is delivered when it bears another; all else that
leaves is flits of the other direction; a flit with a bad check is discarded, and the expected sequence is asked for again.
RETRY_REQUEST_RECEIVE sends again every flit still held from the carried sequence on. RETRY_RESEND_TIMEOUT sends the
outstanding request again. Memory is unchanged by all three. A flit made from its fields passes its own check and reads back
as those fields, and a group never holds more than 256 unacknowledged flits. (R177, R178, R179, R180.) -/
def Obligations.FlitsAcceptedOnlyInSequence : Prop :=
  (∀ (s : State) (e : EdgeIx) (d : Dir) (g : Fin 8) (f : BitVec 576), (s.edge e.val).carries d g.val = true →
    flitCheck f = true → flitKind f = 0 → flitClass f ≤ 4 →
    ∃ t, exec (.flitReceive e d g f) s = .next t ∧ t.mem = s.mem ∧
      ∃ more, (∀ o ∈ more, ∃ x, o = .flit e (flipDir d) g x) ∧
      if flitSeq f = ((s.edge e.val).groupState d g.val).expected then
        t.out = s.out ++ ([.deliver e d (flitClass f) (flitSet f) (flitPayload f), .flit e (flipDir d) g
          (idleFlit (flitSeq f) (creditKey (flitClass f) (flitSet f), 1))] ++ more) ∧
        ((t.edge e.val).groupState d g.val).expected = flitSeq f + 1
      else t.out = s.out ++ more ∧ ((t.edge e.val).groupState d g.val).expected = ((s.edge e.val).groupState d g.val).expected) ∧
  (∀ (s : State) (e : EdgeIx) (d : Dir) (g : Fin 8) (f : BitVec 576), (s.edge e.val).carries d g.val = true →
    flitCheck f = false → ((s.edge e.val).groupState d g.val).retries < 4 →
    ∃ t, exec (.flitReceive e d g f) s = .next t ∧ t.mem = s.mem ∧
      t.out = s.out ++ [.retry e d g ((s.edge e.val).groupState d g.val).expected] ∧
      ((t.edge e.val).groupState d g.val).expected = ((s.edge e.val).groupState d g.val).expected) ∧
  (∀ (s : State) (e : EdgeIx) (d : Dir) (g : Fin 8) (q : BitVec 10), (s.edge e.val).carries d g.val = true →
    (s.edge e.val).fallback = false →
    ∃ t, exec (.retryRequestReceive e d g q) s = .next t ∧ t.mem = s.mem ∧
      ∀ f ∈ ackReplay ((s.edge e.val).groupState d g.val).replay (q - 1), .flit e d g f.2 ∈ t.out) ∧
  (∀ (s : State) (e : EdgeIx) (d : Dir) (g : Fin 8), (s.edge e.val).carries d g.val = true →
    ((s.edge e.val).groupState d g.val).retrying = true → ((s.edge e.val).groupState d g.val).retries < 4 →
    ∃ t, exec (.retryResendTimeout e d g) s = .next t ∧ t.mem = s.mem ∧
      t.out = s.out ++ [.retry e d g ((s.edge e.val).groupState d g.val).expected]) ∧
  (∀ (kind cls : Nat) (seq ack : BitVec 10) (set : Bool) (credit : Nat × Nat) (payload : BitVec 512), kind < 4 → cls < 8 →
    credit.1 < 16 → credit.2 < 4 →
    let f := mkFlit kind seq ack cls set credit payload
    flitCheck f = true ∧ flitKind f = kind ∧ flitSeq f = seq ∧ flitAck f = ack ∧ flitClass f = cls ∧ flitSet f = set ∧
      flitPayload f = payload) ∧
  (∀ (q : GroupState) (ack : BitVec 10) (n : Nat), q.replay.length ≤ 256 → (q.sendAll ack n).1.replay.length ≤ 256)

/-- UCIE_SIDEBAND_TRAINED of a site that its base die serves sends the base die's descriptor. SITE_DESCRIPTOR_RECEIVE with a good
check closes a site whose engine fails a required item and otherwise configures it with the wavelengths and fibers the engine
offers, at most 16 and 8; with a bad check it asks again, twice at most. SITE_DESCRIPTOR_TIMEOUT closes a site with no valid
descriptor, and its links are absent. UCIE_MAINBAND_TRAINED of a configured site gives it the largest number of links that its
working modules carry at the lower of the two ends' rates. (R196, R197, R198, R199, Table 6.9, Table 6.11.) -/
def Obligations.EngineSitesFollowDescriptors : Prop :=
  (∀ (s : State) (e : EngineIx), (s.site e.val).closed = false → s.siteOn e.val = true →
    ∃ t, exec (.ucieSidebandTrained e) s = .next t ∧ (t.site e.val).sideband = true ∧
      t.out = s.out ++ [.descriptor e baseDescriptor] ∧ t.mem = s.mem) ∧
  (∀ (s : State) (e : EngineIx) (d : BitVec 512), (s.site e.val).closed = false → (s.site e.val).configured = false →
    (s.site e.val).sideband = true →
    ∃ t, exec (.siteDescriptorReceive e d) s = .next t ∧
      if descCheck d = true then
        if (descClosing d).any (fun p => p.2) = false then (t.site e.val).configured = true ∧ (t.site e.val).closed = false ∧
          (t.site e.val).wlActive = min 16 (field d 84 5) ∧ (t.site e.val).fiberActive = min 8 (field d 72 8)
        else (t.site e.val).closed = true ∧ ∀ m < 8, (t.link (8 * e.val + m)).state = .absent
      else if (s.site e.val).resends < 2 then t.out = s.out ++ [.resend e] ∧
        (t.site e.val).resends = (s.site e.val).resends + 1
      else (t.site e.val).closed = true) ∧
  (∀ (s : State) (e : EngineIx), (s.site e.val).closed = false → (s.site e.val).configured = false →
    ∃ t, exec (.siteDescriptorTimeout e) s = .next t ∧ (t.site e.val).closed = true ∧
      ∀ m < 8, (t.link (8 * e.val + m)).state = .absent) ∧
  (∀ (s : State) (e : EngineIx) (full half : Nat), (s.site e.val).closed = false →
    (s.site e.val).configured = true → (s.site e.val).trained = false →
    ∃ t, exec (.ucieMainbandTrained e full half) s = .next t ∧ (t.site e.val).trained = true ∧
      (t.site e.val).links = linksServed full half (ucieRate (s.site e.val).mainbandRate.val) (min 8 (s.site e.val).fiberActive))

/-- WHOLE_MODULE_RESET with no reset under way makes its cause the active one, stops every ring and asks the units to stop; during
a reset the cause is recorded and the active one stays. QUIESCE_COMPLETE then ends the reset: the cause stands in the reset
record, the module is unstarted, contexts, rings, faults and links are as after reset, and flash is kept but for the ledger
commits that were in progress, which complete. QUIESCE_ESCALATION turns the rails off and records the units;
ESCALATION_RAIL_REAPPLY brings them up and leaves nothing in memory outside the retained region. (R383, R384, R386, R387,
Table 12.8, Table 12.9.) -/
def Obligations.ResetQuiescesThenStartsAfresh : Prop :=
  (∀ (s : State) (c : ResetCause), c ≠ .refclk → s.faults.seqr.active = none →
    ∃ t, exec (.wholeModuleReset c) s = .next t ∧ t.faults.seqr.active = some c ∧ .signal .quiesce ∈ t.out ∧
      (∀ p ∈ t.ops.rings, p.2.stopped = true) ∧ t.faults.faultN.held = false ∧ t.flash = s.flash ∧ t.domain = s.domain) ∧
  (∀ (s : State) (c a : ResetCause), c ≠ .refclk → s.faults.seqr.active = some a →
    ∃ t, exec (.wholeModuleReset c) s = .next t ∧ t.faults.seqr.active = some a ∧
      t.faults.seqr.also = s.faults.seqr.also ++ [c] ∧ t.mem = s.mem ∧ t.out = s.out) ∧
  (∀ (s : State) (c : ResetCause), s.faults.seqr.active = some c → s.faults.seqr.escalated = false →
    ∃ t, exec .quiesceComplete s = .next t ∧ t.faults.resetCause = some c ∧ t.faults.seqr.active = none ∧
      t.keeper.started = false ∧ t.keeper.status = 0 ∧ t.ops = Operators.reset ∧ t.domain = Domain.reset ∧
      t.faults.log = [] ∧ t.sec.svn = s.sec.svn ∧ (s.faults.seqr.commits = [] → t.flash = s.flash) ∧
      (∀ e, s.faults.seqr.commits = [e] → s.faults.uncommitted.contains e = true → s.flash.partA.out = false →
        s.flash.partA.formatted = true → t.flash.partA.journal.getLast? = some e) ∧
      (s.keeper.shelfCleared = false → t.mem.cells = s.mem.cells)) ∧
  (∀ (s : State) (c : ResetCause) (m : List QUnit), s.faults.seqr.active = some c →
    ∃ t, exec (.quiesceEscalation m) s = .next t ∧ t.power.escalated = true ∧ t.power.railsUp = false ∧
      t.faults.seqr.missed = m ∧ t.mem = s.mem) ∧
  (∀ (s : State) (c : ResetCause), s.power.escalated = true → s.faults.seqr.active = some c →
    s.faults.seqr.escalated = true → ∃ t, exec .escalationRailReapply s = .next t ∧ t.power.railsUp = true ∧
      t.faults.resetEscalated = true ∧ t.faults.resetCause = some c ∧ ∀ p ∈ t.mem.cells, retainedCell p.1 = true)

/-- With the rails up, RESET_N starts a reset under its own cause, and during a reset is only recorded. Both PERST inputs together
start one under their own cause, or under PERST0_N's in single mode, and take both ports down. An unserviced watchdog starts
one with a FAULT_N pulse, and during a reset is only recorded. The loss of REFCLK resets at once with no quiesce, and REFCLK
restored allows a start again and changes nothing else. The loss of another die's clock stops that die and the dies that it
clocks, counts it, and padlocks the lost pair. PERST on one port in a two-port mode resets that port's controller and link and
no more; in single mode PERST0_N resets the module and PERST1_N does not. Its deassertion lets the controller out of reset
once it may leave it. (R193, R314, R333, R383, R466, R467, Table 12.8.) -/
def Obligations.ResetInputsAndClockLosses : Prop :=
  (∀ s : State, s.power.railsUp = true → ∃ t, exec .resetNAssert s = .next t ∧ t.power.resetN = true ∧ t.flash = s.flash ∧
    (s.faults.seqr.active = none → t.faults.seqr.active = some .resetN) ∧
    (∀ a, s.faults.seqr.active = some a → t.faults.seqr.active = some a ∧ t.faults.seqr.also = s.faults.seqr.also ++ [.resetN])) ∧
  (∀ s : State, s.power.railsUp = true → s.faults.seqr.active = none →
    ∃ t, exec .perstPairAssert s = .next t ∧
      t.faults.seqr.active = some (if s.singleMode = true then .perst0Single else .perstPair) ∧ t.host.portA.perst = true ∧
      t.host.portB.perst = true ∧ t.host.portA.up = false ∧ t.host.portB.up = false ∧ t.flash = s.flash) ∧
  (∀ s : State, s.keeper.rom = true → ∃ t, exec .watchdogExpiry s = .next t ∧ t.flash = s.flash ∧
    (s.faults.seqr.active = none → t.faults.seqr.active = some .watchdog ∧ .faultPulse ∈ t.out) ∧
    (∀ a, s.faults.seqr.active = some a → t.faults.seqr.active = some a ∧
      t.faults.seqr.also = s.faults.seqr.also ++ [.watchdog] ∧ t.out = s.out)) ∧
  (∀ s : State, s.power.railsUp = true → ∃ t, exec .refclkLoss s = .next t ∧ t.power.refclk = false ∧
    t.faults.resetCause = some .refclk ∧ t.keeper.started = false ∧ t.faults.seqr.active = none ∧ t.flash = s.flash ∧
    t.ops = Operators.reset) ∧
  (∀ s : State, ∃ t, exec .refclkRestored s = .next t ∧ t.power.refclk = true ∧ t.mem = s.mem ∧ t.keeper = s.keeper ∧
    t.faults = s.faults ∧ t.d2d = s.d2d ∧ t.out = s.out) ∧
  (∀ (s : State) (d : BaseDie), d ≠ 0 → (s.base d.val).pllLocked = true →
    ∃ t, exec (.clockInputLoss d) s = .next t ∧ (t.base d.val).pllLocked = false ∧ (t.latch d.val).running = false ∧
      (t.base d.val).clockLosses = (s.base d.val).clockLosses + 1 ∧
      (∀ (k : BaseDie) (p : Port4), k ≠ 0 → (s.base k.val).clockIn = some p → neighbour k.val p = d.val →
        (t.base k.val).pllLocked = false) ∧
      (∀ (p : Port4) (c : Chan), (s.base d.val).clockIn = some p → clockPairOn d.val p = some c → c ∈ t.faults.padlocked)) ∧
  (∀ (s : State) (p : HostPort), s.singleMode = false → ∃ t, exec (.perstAssert p) s = .next t ∧ (t.port p).perst = true ∧
    (t.port p).up = false ∧ (t.port p).released = false ∧ t.faults.seqr = s.faults.seqr ∧ t.ops = s.ops ∧ t.power = s.power) ∧
  (∀ s : State, s.singleMode = true → s.power.railsUp = true → s.faults.seqr.active = none →
    (∃ t, exec (.perstAssert .a) s = .next t ∧ t.faults.seqr.active = some .perst0Single ∧ t.host.portA.perst = true) ∧
    ∃ t, exec (.perstAssert .b) s = .next t ∧ t.faults = s.faults ∧ t.host.portB.perst = true) ∧
  (∀ (s : State) (p : HostPort), ∃ t, exec (.perstDeassert p) s = .next t ∧ (t.port p).perst = false ∧
    (t.port p).released = ((s.port p).released || s.mayRelease p) ∧ t.mem = s.mem ∧ t.faults = s.faults)

/-- LATCH_HEARTBEAT of a running latch is answered and counted. LATCH_HEARTBEAT_TIMEOUT of a latch that has run declares it failed
and, with no reset under way and no record open, starts the reset with the code of LATCH_LOST. KEEPER_ANSWER_TIMEOUT holds the
die's power caps. STATUS_HEARTBEAT_TICK advances the heartbeat field modulo 256 and leaves bits [31:16] of the status word.
LEDGER_COMMIT_COMPLETE read back good from both parts, with no reset under way or of a commit that was in progress when one
began, puts the entry at the end of both journals. (R332, R337, R344, Table 11.6.) -/
def Obligations.HeartbeatsAndWatchedUnits : Prop :=
  (∀ (s : State) (d : BaseDie), d ≠ 0 → (s.latch d.val).running = true → s.keeper.idore = true →
    ∃ t, exec (.latchHeartbeat d) s = .next t ∧ t.out = s.out ++ [.signal (.heartbeatAnswer d)] ∧
      Store.get 0 t.keeper.heartbeats d.val = Store.get 0 s.keeper.heartbeats d.val + 1 ∧ t.mem = s.mem) ∧
  (∀ (s : State) (d : BaseDie), d ≠ 0 → (s.latch d.val).loaded = true →
    ∃ t, exec (.latchHeartbeatTimeout d) s = .next t ∧ (t.latch d.val).running = false ∧
      (s.keeper.idore = true → s.faults.openRecs = [] → s.faults.log = [] → s.isPadlocked (baseChan d.val) = false →
        s.faults.seqr.active = none → t.faults.seqr.active = some (.fatal 0x52))) ∧
  (∀ (s : State) (d : BaseDie), d ≠ 0 → (s.latch d.val).running = true →
    ∃ t, exec (.keeperAnswerTimeout d) s = .next t ∧ (t.latch d.val).capsHeld = true ∧ (t.latch d.val).running = true) ∧
  (∀ s : State, s.keeper.statusWritten = true → s.keeper.idore = true →
    ∃ t, exec .statusHeartbeatTick s = .next t ∧ field t.keeper.status 8 8 = (field s.keeper.status 8 8 + 1) % 256 ∧
      field t.keeper.status 16 16 = field s.keeper.status 16 16 ∧ t.mem = s.mem) ∧
  (∀ (s : State) (e : LedgerEntry), s.faults.uncommitted.find? (fun x => x.seq = e.seq) = some e →
    s.flash.partA.out = false → s.flash.partB.out = false → s.flash.partA.formatted = true → s.flash.partB.formatted = true →
    (s.faults.seqr.active = none ∨ s.faults.seqr.commits.contains e = true) →
    ∃ t, exec (.ledgerCommitComplete e.seq true true) s = .next t ∧ t.flash.partA.journal.getLast? = some e ∧
      t.flash.partB.journal.getLast? = some e ∧ t.faults.uncommitted = s.faults.uncommitted.erase e ∧ t.mem = s.mem)

/-- FAULT_REPORT counts transients against an unpadlocked channel below its threshold and padlocks nothing; of a critical word
whose halves agree it changes nothing; of a fault with the key of a record open at P0 it opens no second one.
FAULT_RECORD_ARRIVAL of a record with a new key gives it the keeper's next sequence. FAULT_RECORD_HANDLE takes the record at
the head of the queue. FAULT_RECORD_CLOSE closes a record whose action is done. FAULT_N_PULSE_END holds the pin under policy
1, leaves it under policy 0, and pulses once more when records came during the pulse. (R362, R365, R370, R371, R372, R373,
R381, Table 12.3.) -/
def Obligations.FaultRecordsFromUnitToKeeper : Prop :=
  (∀ (s : State) (d : BaseDie) (c : Chan) (n : Nat), s.isPadlocked c = false → (s.transient c n).2 = false →
    ∃ t, exec (.faultReport d (.transient c n)) s = .next t ∧ t.faults.padlocked = s.faults.padlocked ∧
      Store.get 0 t.faults.transients c.toNat = Store.get 0 s.faults.transients c.toNat + n ∧ t.mem = s.mem) ∧
  (∀ (s : State) (d : BaseDie) (c : Chan) (w detail : W64) (v : W32) (sub : Bool), critValue w = some v →
    exec (.faultReport d (.critical w c detail sub)) s = .next s) ∧
  (∀ (s : State) (r : FaultRecord), s.faults.openRecs = [r] → r.collector = 0 → r.closed = false → s.faults.log = [r] →
    r.cause = .critAbsent → s.isPadlocked r.suspect = false → ∀ detail,
    ∃ t, exec (.faultReport 0 (.critical 0 r.suspect detail false)) s = .next t ∧ t.faults.openRecs.length = 1 ∧
      t.faults.nextSeq = s.faults.nextSeq) ∧
  (∀ (s : State) (r : FaultRecord), s.faults.sent = [r] → s.keeper.idore = true → s.faults.log = [] →
    s.faults.openRecs = [r] → r.seq = none → r.cls.val < 3 → s.faults.queue = [] → s.ops.rings = [] →
    ∃ t, exec (.faultRecordArrival r.collector r.suspect r.cause) s = .next t ∧ t.faults.sent = [] ∧
      t.faults.queue = [s.faults.nextSeq] ∧ t.faults.nextSeq = s.faults.nextSeq + 1 ∧
      t.faults.log = [{ r with seq := some s.faults.nextSeq }]) ∧
  (∀ (s : State) (n : W32) (rest : List W32) (r : FaultRecord), s.keeper.idore = true → s.faults.queue = n :: rest →
    s.faults.log.find? (fun x => x.seq = some n) = some r → s.faults.probes.contains r.suspect = false →
    ∃ t, exec .faultRecordHandle s = .next t ∧ t.faults.queue = rest ∧ t.faults.nextSeq = s.faults.nextSeq) ∧
  (∀ (s : State) (r : FaultRecord), s.faults.openRecs.find? (fun q => q.isKey r.collector r.suspect r.cause && !q.closed) = some r →
    s.awaits r = false → s.faults.sent = [] →
    ∃ t, exec (.faultRecordClose r.collector r.suspect r.cause) s = .next t ∧ t.faults.openRecs = s.faults.openRecs.erase r) ∧
  (∀ s : State, s.faults.faultN.pulsing = true →
    ∃ t, exec .faultNPulseEnd s = .next t ∧ t.mem = s.mem ∧
      if s.faults.faultN.again = true then t.out = s.out ++ [.faultPulse] ∧ t.faults.faultN.pulsing = true
      else t.faults.faultN.pulsing = false ∧ (s.faults.policy = 1 → t.faults.faultN.held = true) ∧
        (s.faults.policy = 0 → t.faults.faultN.held = s.faults.faultN.held))

/-- START_TOKEN_ARRIVAL at a served tumbler of a generation that the module accepts, with a free place in the start queue, joins
the tail of the queue, and is one fewer on its way for the entry that sends it; one of a generation that is not accepted is a
straggler of the context's teardown, one of a generation whose change has reached the ward is discarded and counted, and each
gives its place back by a credit token. OPERATOR_START_ON_TUMBLER starts the head of the queue on an idle tumbler of a clocked
die and of a ward that awaits no insertion: the operator is resident with its initial credits, the data region reads 0 where
the context differs from the previous operator's and SRAM is kept where it does not, unless the allocation check of R36 over
its whole placement fails, which sends the ward's completion token with the check's status. IMAGE_LOAD_COMPLETE of what the
ward fetched puts installed code into the first of four slots of every tumbler that needs it, and tables into the table
region; that region's place is the model's choice (log entry 166). (R27, R36, R42, R43, R44, R47, R56, R138.) -/
def Obligations.StartTokensQueueThenStart : Prop :=
  (∀ (s : State) (k : StartTok) (i : Nat), s.physTum k.dest.die.val k.dest.ward.val k.dest.tum.val = .phys i →
    s.acceptsGen k.ctx k.gen = true → (s.ward (wkey k.dest)).stale k.ctx k.gen = false →
    (s.ward (wkey k.dest)).completed.contains (k.ctx, k.opSerial) = false → (s.tumbler (tkey k.dest)).startq.length < 4 →
    (s.findOp (serialDie k.opSerial).val k.ctx k.opSerial = none → ∃ t, exec (.startTokenArrival k) s = .next t ∧
      (t.tumbler (tkey k.dest)).startq = (s.tumbler (tkey k.dest)).startq ++ [k] ∧ t.mem = s.mem ∧ t.ops = s.ops ∧
      t.out = s.out ∧ ∀ j, j ≠ tkey k.dest → t.tumbler j = s.tumbler j) ∧
    (∀ (n : Nat) (e : RingEntry) (left : List TumId) (f : Nat),
      s.findOp (serialDie k.opSerial).val k.ctx k.opSerial = some (n, e) → e.phase = .starting left f → left ≠ [] ∨ 1 < f →
      ∃ t, exec (.startTokenArrival k) s = .next t ∧
        (t.tumbler (tkey k.dest)).startq = (s.tumbler (tkey k.dest)).startq ++ [k] ∧ t.mem = s.mem ∧
        t.ops = (s.modEntry n e.count fun x => { x with phase := .starting left (f - 1) }).ops)) ∧
  (∀ (s : State) (k : StartTok) (i : Nat), s.physTum k.dest.die.val k.dest.ward.val k.dest.tum.val = .phys i →
    s.findOp (serialDie k.opSerial).val k.ctx k.opSerial = none →
    (s.acceptsGen k.ctx k.gen = false → ∃ t, exec (.startTokenArrival k) s = .next t ∧
      (t.context k.ctx.val).teardown = (s.context k.ctx.val).teardown.map
        (fun td => { td with stragglers := td.stragglers + 1 }) ∧
      t.out = s.out ++ [startCredit k] ∧ t.mem = s.mem ∧ ∀ j, t.tumbler j = s.tumbler j) ∧
    (s.acceptsGen k.ctx k.gen = true → (s.ward (wkey k.dest)).stale k.ctx k.gen = true →
      ∃ t, exec (.startTokenArrival k) s = .next t ∧
        (t.ward (wkey k.dest)).discarded = (s.ward (wkey k.dest)).discarded + 1 ∧ t.out = s.out ++ [startCredit k] ∧
        t.mem = s.mem ∧ ∀ j, t.tumbler j = s.tumbler j)) ∧
  (∀ (s : State) (q : TumId) (k : StartTok) (rest : List StartTok), (s.tumbler (tkey q)).startq = k :: rest →
    (s.tumbler (tkey q)).resident = none → (s.ward (wkey q)).inserting = false → s.clocked (dieBase q.die.val) = true →
    (s.ward (wkey q)).completed.contains (k.ctx, k.opSerial) = false →
    s.written q.die.val q.ward.val k.ctx k.opSerial = true →
    ∃ t, exec (.operatorStartOnTumbler q) s = .next t ∧ t.mem = s.mem ∧ t.ops = s.ops ∧
      let code := s.codeFor (s.tumbler (tkey q)) k.image
      let tables := imageTables (s.imageBytes k.image)
      match operatorFault code tables k.word with
      | some st => t.out.getLast? = some (completionToken k.ctx k.gen q.die.val q.ward.val k.opSerial st)
      | none =>
        (t.tumbler (tkey q)).resident = some (startResident k (Config.program code tables k.index)) ∧
        (t.tumbler (tkey q)).startq = rest ∧ startCredit k ∈ t.out ∧
        (t.tumbler (tkey q)).credits = (Config.program code tables k.index).credits ∧
        (if (s.tumbler (tkey q)).lastCtx = some k.ctx then (t.tumbler (tkey q)).sram = (s.tumbler (tkey q)).sram
         else ∀ a < 245760, Store.get 0 (t.tumbler (tkey q)).sram a = 0)) ∧
  (∀ (s : State) (q : TumId) (image : W32) (r : Resident), (s.compute.images.any fun i => i.id = image) = true →
    (s.tumbler (tkey q)).resident = some r → r.image = image →
    ((s.ward (wkey q)).fetching.contains (image, false) = true →
      ((s.tumbler (tkey q)).slots.any fun x => x.1 = image) = false →
      ∃ t, exec (.imageLoadComplete q image false) s = .next t ∧
        (t.tumbler (tkey q)).slots = ((image, imageCode (s.imageBytes image)) :: (s.tumbler (tkey q)).slots).take 4 ∧
        (t.tumbler (tkey q)).resident = some r ∧ (t.ward (wkey q)).fetching = (s.ward (wkey q)).fetching.erase (image, false) ∧
        ∀ i < 64, t.tumbler (tumKey q.die.val q.ward.val i) =
          (s.tumbler (tumKey q.die.val q.ward.val i)).deliver image false (imageCode (s.imageBytes image))) ∧
    ((s.ward (wkey q)).fetching.contains (image, true) = true → (s.tumbler (tkey q)).tables ≠ some image →
      ∃ t, exec (.imageLoadComplete q image true) s = .next t ∧ (t.tumbler (tkey q)).tables = some image ∧
        (t.tumbler (tkey q)).slots = (s.tumbler (tkey q)).slots ∧
        ∀ j < 12288, Store.get 0 (t.tumbler (tkey q)).sram (tableAt + j) = (imageTables (s.imageBytes image)).getD j 0))

/-- STEP_FIRE of the first ready step on a clocked die, with no refused access and loads from this module, runs that step: the
credits it names are debited, its write slots reserved, the beats it names leave the input queues for its staging area, its
loads take read slots and one firing is counted; memory is unchanged. STEP_END of a running step whose writes go to this
module and find free slots leaves SRAM as its arithmetic computes it, puts its tokens into the output queues as far as they
have room and issues its writes, and the step ends unless tokens of it still wait. A first step of an operator that is
inconsistent ends it with the completion token of status 0x43, before any write. LOAD_DATA_LAND writes the data to SRAM and
frees the slot. WRITE_ACK frees the slot of the local write that is acknowledged. (R26, R31, R32, R33, R36, R37, R38, R124.) -/
def Obligations.StepsFireRunAndEnd : Prop :=
  (∀ (s : State) (q : TumId) (step : Fin 16) (loads : List LoadReq) (writes : List WriteReq) (touched : Option Nat)
    (r : Resident), (s.tumbler (tkey q)).resident = some r → (s.tumbler (tkey q)).evaluates = true →
    (s.tumbler (tkey q)).nextStep = some step.val → (r.step step.val).fits loads writes = true →
    (s.ward (wkey q)).stale r.ctx r.gen = false → s.clocked (dieBase q.die.val) = true →
    s.refusedIn q r (r.step step.val) loads writes touched = none →
    (∀ l ∈ loads, l.global = false) →
    ∃ t, exec (.stepFire q step loads writes touched) s = .next t ∧ t.mem = s.mem ∧ t.ops = s.ops ∧
      (t.tumbler (tkey q)).resident = some { r with last := step.val, running := some step.val, computing := true, reserved := min (r.step step.val).writeSlots 32, toIssue := (writes.map fun w => writePart w r.ctx r.gen r.opSerial) } ∧
      (t.tumbler (tkey q)).sram = putCells (s.tumbler (tkey q)).sram (r.step step.val).staging
        (((stagedBeats (r.step step.val) (s.tumbler (tkey q))).map fun b => leBytes 64 b.toNat).flatten) ∧
      (t.tumbler (tkey q)).inq = (popBeats q (r.step step.val) (s.tumbler (tkey q))).1 ∧
      (t.tumbler (tkey q)).credits = debit (r.step step.val) (s.tumbler (tkey q)).credits ∧
      (t.tumbler (tkey q)).loads = (s.tumbler (tkey q)).loads ++
        (loads.map fun l => loadParts l r.ctx r.gen s.domain.nextTag).flatten ∧
      Store.get 0 (t.governor q.die.val).firingNow q.ward.val = Store.get 0 (s.governor q.die.val).firingNow q.ward.val + 1) ∧
  (∀ (s : State) (q : TumId) (work : List ArithOp) (tags : List Byte) (beats : List Nat) (r : Resident) (i : Nat),
    (s.tumbler (tkey q)).resident = some r → r.running = some i → r.computing = true →
    s.clocked (dieBase q.die.val) = true → r.stepped = true ∨ s.inconsistent r = false →
    reservedTouch ((work.map fun w => ArithOp.touches r.tensors w).flatten ++ beats.map fun a => (a, 64)) = none →
    (∀ p ∈ r.toIssue, p.global = false) → (s.tumbler (tkey q)).writes.length + r.toIssue.length ≤ 32 →
    ∃ t rng, exec (.stepEnd q work tags beats) s = .next t ∧ t.mem = s.mem ∧
      let w := work.foldl Work.run { mem := (s.tumbler (tkey q)).sram, events := [], rng := (List.range 64).map fun k => Store.get 0 (s.tumbler (tkey q)).rng k, word := r.word, tensors := r.tensors }
      let made := madeTokens { s.tumbler (tkey q) with sram := w.mem, rng } r (r.step i) q beats tags
      let sent := fillQueues [] (s.tumbler (tkey q)).outq made
      (t.tumbler (tkey q)).resident = some { r with running := (if sent.2.isEmpty then none else some i), computing := false, stepped := true, reserved := 0, toIssue := [], toSend := sent.2 } ∧
      (t.tumbler (tkey q)).sram = w.mem ∧ (t.tumbler (tkey q)).rng = rng ∧ (t.tumbler (tkey q)).outq = sent.1 ∧
      (t.tumbler (tkey q)).writes.length = (s.tumbler (tkey q)).writes.length + r.toIssue.length) ∧
  (∀ (s : State) (q : TumId) (work : List ArithOp) (tags : List Byte) (beats : List Nat) (r : Resident) (i : Nat),
    (s.tumbler (tkey q)).resident = some r → r.running = some i → r.computing = true →
    s.clocked (dieBase q.die.val) = true → r.stepped = false → s.inconsistent r = true →
    (s.ward (wkey q)).completed.contains (r.ctx, r.opSerial) = false →
    s.written q.die.val q.ward.val r.ctx r.opSerial = true →
    ∃ t, exec (.stepEnd q work tags beats) s = .next t ∧ t.mem = s.mem ∧
      t.out.getLast? = some (completionToken r.ctx r.gen q.die.val q.ward.val r.opSerial 0x43)) ∧
  (∀ (s : State) (q : TumId) (n : Nat) (data : List Byte) (p : LoadPart), (s.tumbler (tkey q)).loads[n]? = some p →
    p.global = false → s.faults.insertions = [] → (s.ward (wkey q)).owed = [] →
    ∃ t, exec (.loadDataLand q n data) s = .next t ∧ t.mem = s.mem ∧ t.out = s.out ∧
      (t.tumbler (tkey q)).loads = (s.tumbler (tkey q)).loads.eraseIdx n ∧
      (t.tumbler (tkey q)).sram = putCells (s.tumbler (tkey q)).sram p.sram (data.take p.len)) ∧
  (∀ (s : State) (q : TumId) (n : Nat) (p : WritePart), ((s.tumbler (tkey q)).writes.filter fun w => !w.global)[n]? = some p →
    (∀ r, (s.tumbler (tkey q)).resident = some r → r.toIssue = []) → s.faults.insertions = [] →
    (s.ward (wkey q)).owed = [] →
    ∃ t, exec (.writeAck q n) s = .next t ∧ t.mem = s.mem ∧ t.out = s.out ∧
      (t.tumbler (tkey q)).writes = (s.tumbler (tkey q)).writes.erase p)

/-- TOKEN_FORWARD puts the head of an output queue at once into the input queue of a tumbler of its own ward, sends it on its way
to any other ward that is served, waiting tokens of the step taking its room, and counts and discards it where nothing stands
behind the destination. Where wards and bonds stand in the mesh is the model's choice (log entry 164). TOKEN_ARRIVAL of a data
token for an operator of its context and generation adds its beats to the tail of the input queue; one for no such operator is
discarded and counted and changes no queue. CREDIT_TOKEN_ARRIVAL adds the beats of credit to the output queue that it names.
(R28, R29, R30, R33, R41, R42.) -/
def Obligations.TokensTravelAndCreditReturns : Prop :=
  (∀ (s : State) (q : TumId) (n : Fin 4) (tok : Token) (rest : List Token) (d : TumId) (w : Nat),
    (s.tumbler (tkey q)).outQueue n.val = tok :: rest → tok.dst.tumbler? = some d → wkey d ≠ wkey q →
    s.wardRemap d.die.val d.ward.val = .phys w →
    ∃ t flits, exec (.tokenForward q n) s = .next t ∧ t.out = s.out ++ flits ++ [.routed tok (s.tokenPath q d w)] ∧
      t.mem = s.mem ∧ t.ops = s.ops ∧
      t.tumbler (tkey q) = Tumbler.refill { s.tumbler (tkey q) with outq := Store.put [] (s.tumbler (tkey q)).outq n.val rest } ∧
      ∀ j, j ≠ tkey q → t.tumbler j = s.tumbler j) ∧
  (∀ (s : State) (q : TumId) (n : Fin 4) (tok : Token) (rest : List Token) (d : TumId) (i : Nat),
    (s.tumbler (tkey q)).outQueue n.val = tok :: rest → tok.dst.tumbler? = some d → wkey d = wkey q →
    tok.beats.length = tok.beatCount → tok.beatCount ≤ 4 → s.physTum d.die.val d.ward.val d.tum.val = .phys i →
    (s.ward (wkey d)).stale tok.ctx tok.gen = false → (s.tumbler (tkey d)).expects tok.ctx tok.gen = true →
    ∃ t, exec (.tokenForward q n) s = .next t ∧ t.mem = s.mem ∧ t.ops = s.ops ∧ t.out = s.out ∧ t.d2d = s.d2d ∧
      (t.tumbler (tkey d)).inQueue tok.queue =
        (s.tumbler (tkey d)).inQueue tok.queue ++ tokenBeats tok q (s.sendingQueue q d tok.queue)) ∧
  (∀ (s : State) (q : TumId) (n : Fin 4) (tok : Token) (rest : List Token) (d : TumId),
    (s.tumbler (tkey q)).outQueue n.val = tok :: rest → tok.dst.tumbler? = some d → wkey d ≠ wkey q →
    s.wardRemap d.die.val d.ward.val = .unserved →
    ∃ t, exec (.tokenForward q n) s = .next t ∧ t.out = s.out ∧ t.mem = s.mem ∧
      (t.ward (wkey q)).misaddressed = (s.ward (wkey q)).misaddressed + 1) ∧
  (∀ (s : State) (tok : Token) (d src : TumId) (i : Nat), tok.kind = 0 → tok.dst.tumbler? = some d →
    tok.src.tumbler? = some src → tok.beats.length = tok.beatCount → tok.beatCount ≤ 4 →
    s.physTum d.die.val d.ward.val d.tum.val = .phys i → (s.ward (wkey d)).stale tok.ctx tok.gen = false →
    (s.tumbler (tkey d)).expects tok.ctx tok.gen = true →
    ∃ t, exec (.tokenArrival tok) s = .next t ∧ t.mem = s.mem ∧ t.out = s.out ∧
      (t.tumbler (tkey d)).inQueue tok.queue =
        (s.tumbler (tkey d)).inQueue tok.queue ++ tokenBeats tok src (s.sendingQueue src d tok.queue) ∧
      (∀ j, j ≠ tok.queue → (t.tumbler (tkey d)).inQueue j = (s.tumbler (tkey d)).inQueue j) ∧
      ∀ j, j ≠ tkey d → t.tumbler j = s.tumbler j) ∧
  (∀ (s : State) (tok : Token) (d src : TumId) (i : Nat), tok.kind = 0 → tok.dst.tumbler? = some d →
    tok.src.tumbler? = some src → tok.beats.length = tok.beatCount → tok.beatCount ≤ 4 →
    s.physTum d.die.val d.ward.val d.tum.val = .phys i → (s.tumbler (tkey d)).expects tok.ctx tok.gen = false →
    ∃ t, exec (.tokenArrival tok) s = .next t ∧ (t.ward (wkey d)).discarded = (s.ward (wkey d)).discarded + 1 ∧
      ∀ j, t.tumbler j = s.tumbler j) ∧
  (∀ (s : State) (tok : Token) (d : TumId) (r : Resident), tok.kind = 1 → tok.dst.tumbler? = some d →
    (s.tumbler (tkey d)).resident = some r → r.ctx = tok.ctx → r.gen = tok.gen → r.failed = none →
    ∃ t, exec (.creditTokenArrival tok) s = .next t ∧ t.mem = s.mem ∧ t.out = s.out ∧
      (t.tumbler (tkey d)).credit tok.queue = (s.tumbler (tkey d)).credit tok.queue + tok.beatCount ∧
      (∀ j, j ≠ tok.queue → (t.tumbler (tkey d)).credit j = (s.tumbler (tkey d)).credit j) ∧
      ∀ j, j ≠ tkey d → t.tumbler j = s.tumbler j)

/-- WARD_COMPLETION_SEND of an operator that has started and ended on every tumbler of its placement in the ward sends its
completion token with status 0 and leaves none of its tumblers occupied. GENERATION_CHANGE_ARRIVAL releases each tumbler of
the old generation that holds no slot, and empties start queues and input queues of that generation. WARD_DRAINED_SEND, with
no tumbler of the context left in an older generation, sends a drained token to each dispatcher that the change named.
ABORT_ARRIVAL releases the operator's tumblers that hold no slot and sends its completion token with status 0 once no write of
it is unacknowledged. (R21, R42, R126, R374, Table 2.2a.) -/
def Obligations.WardsCompleteDrainAndAbort : Prop :=
  (∀ (s : State) (d : Die) (w : LWard) (c : CtxId) (op : W32) (gen : Gen),
    ((s.wardOps d.val w.val).find? fun o => o.1 = c && o.2.2 = op) = some (c, gen, op) →
    (∀ x ∈ s.wardTums d.val w.val, ∀ r ∈ x.resident, x.runs op c = true →
      odPerWard r.word ≤ ((s.wardTums d.val w.val).filter fun y => y.runs op c).length) →
    ((s.wardTums d.val w.val).all fun x => !x.runs op c || (x.finished && x.outq.isEmpty)) = true →
    (s.ward (wardKey d.val w.val)).completed.contains (c, op) = false → s.faults.insertions = [] →
    (s.ward (wardKey d.val w.val)).owed = [] →
    ∃ t flits, exec (.wardCompletionSend d w c op) s = .next t ∧ t.mem = s.mem ∧
      t.out = s.out ++ flits ++ [completionToken c gen d.val w.val op 0] ∧
      ∀ i < 64, (t.tumbler (tumKey d.val w.val i)).runs op c = false) ∧
  (∀ (s : State) (d : Die) (w : LWard) (c : CtxId) (gen : Gen) (arg : BitVec 16), s.faults.insertions = [] →
    ∃ t, exec (.generationChangeArrival d w c gen arg) s = .next t ∧ t.mem = s.mem ∧
      (t.ward (wardKey d.val w.val)).stale c (gen - 1) = true ∧
      ∀ i < 64, ((t.tumbler (tumKey d.val w.val i)).startq.any fun k => k.ctx = c && k.gen = gen - 1) = false ∧
        (∀ n, ∀ b ∈ (t.tumbler (tumKey d.val w.val i)).inQueue n, staleBeat c (gen - 1) b = false) ∧
        ∀ r, (s.tumbler (tumKey d.val w.val i)).resident = some r → r.ctx = c → r.gen = gen - 1 →
          (s.tumbler (tumKey d.val w.val i)).loads = [] → (s.tumbler (tumKey d.val w.val i)).writes = [] →
          (t.tumbler (tumKey d.val w.val i)).resident = none) ∧
  (∀ (s : State) (d : Die) (w : LWard) (c : CtxId) (gen : Gen) (arg : BitVec 16),
    ((s.ward (wardKey d.val w.val)).draining.find? fun x => x.1 = c) = some (c, gen, arg) → arg ≠ 0 →
    (∀ i < 64, ∀ r, (s.tumbler (tumKey d.val w.val i)).resident = some r → r.ctx = c → r.gen = gen) →
    ∃ t flits, exec (.wardDrainedSend d w c) s = .next t ∧ t.mem = s.mem ∧ t.compute.tumblers = s.compute.tumblers ∧
      t.out = s.out ++ flits ++ drainedTokens c gen d.val w.val arg) ∧
  (∀ (s : State) (d : Die) (w : LWard) (c : CtxId) (op : W32), s.faults.insertions = [] →
    (s.ward (wardKey d.val w.val)).completed.contains (c, op) = false →
    ∃ t, exec (.abortArrival d w c op) s = .next t ∧ t.mem = s.mem ∧
      (s.written d.val w.val c op = true →
        t.out.getLast? = some (completionToken c (s.context c.val).gen d.val w.val op 0)) ∧
      (s.written d.val w.val c op = false →
        (t.ward (wardKey d.val w.val)).owed.contains (c, (s.context c.val).gen, op, 0) = true) ∧
      ∀ i < 64, (s.tumbler (tumKey d.val w.val i)).runs op c = true →
        (s.tumbler (tumKey d.val w.val i)).loads = [] → (s.tumbler (tumKey d.val w.val i)).writes = [] →
        (t.tumbler (tumKey d.val w.val i)).resident = none)

/-- TOKEN_WAIT_TIMEOUT of an operator with no ready step marks it as reported and leaves it resident. PROBE_ARRIVAL at a ward that
is not padlocked is answered with its firing and residency bits; the firing bit is a free value where only the last whole
model step fired. PROBE_ANSWER_RECEIVE ends the probe and gives every open token-wait record of the suspect action 6.
PROBE_TIMEOUT of a suspect that is already padlocked ends the probe; of a ward or a home whose entry the ledger has room for,
it leaves the suspect padlocked. SPARE_SELFTEST_COMPLETE of a spare tumbler that passes lets its ward resume. (R40, R47, R48,
R369, Table 2.2a.) -/
def Obligations.WaitsAreProbedAndSparesTested : Prop :=
  (∀ (s : State) (q : TumId) (r : Resident) (i : Nat) (why : Lack), (s.tumbler (tkey q)).resident = some r →
    r.waitReported = false → r.running = none → r.failed = none → (s.tumbler (tkey q)).nextStep = none →
    r.order.head? = some i → (s.tumbler (tkey q)).lack (r.step i) = some why →
    ∃ t, exec (.tokenWaitTimeout q) s = .next t ∧
      (t.tumbler (tkey q)).resident.map (fun x => (x.opSerial, x.waitReported, x.failed)) = some (r.opSerial, true, none)) ∧
  (∀ (s : State) (d : Die) (w : LWard) (b : BaseDie) (p : Nat), s.physWard d.val w.val = some p →
    s.isPadlocked (wardChan d.val p) = false →
    ∃ t flits, exec (.probeArrival d w b) s = .next t ∧ t.mem = s.mem ∧ t.compute = s.compute ∧
      t.out = s.out ++ flits ++ [.token (controlToken 0 0 (wardEnd d.val w.val) (agentEnd b 1)
        (controlWord 6 0 0 ((s.firedLately d.val w.val).toNat + 2 * (!s.wardIdle d.val w.val).toNat)))] ∧
      (0 < Store.get 0 (s.governor d.val).firingNow w.val → s.firedLately d.val w.val = true)) ∧
  (∀ (s : State) (c : Chan) (f r : Bool), s.faults.probes.contains c = true →
    ∃ t, exec (.probeAnswerReceive c f r) s = .next t ∧ t.faults.probes = s.faults.probes.erase c ∧
      ∀ q ∈ t.faults.openRecs, q.suspect = c → q.cause = .tokenWait → q.closed = false → q.action = .cleared) ∧
  (∀ (s : State) (c : Chan), s.faults.probes.contains c = true → s.isPadlocked c = true → s.ledgerTarget c = c →
    ∃ t, exec (.probeTimeout c) s = .next t ∧ t.faults.probes = s.faults.probes.erase c ∧ t.mem = s.mem) ∧
  (∀ (s : State) (c : Chan), s.faults.probes.contains c = true → s.ledgerTarget c = c →
    ((∃ d < 12, ∃ p < 25, c = wardChan d p) ∨ (∃ k < 12, c = stackChan k) ∨ (∃ h < 18, c = lineChan h)) →
    ∃ t, exec (.probeTimeout c) s = .next t ∧ t.isPadlocked c = true) ∧
  (∀ (s : State) (d : Die) (w : Fin 25) (p : Fin 68) (c : Chan) (l : Nat),
    (s.faults.spareTests.find? fun x => x.1 = tumblerChan d.val w.val p.val) = some (tumblerChan d.val w.val p.val, c) →
    s.logWard d.val w.val = some l →
    ∃ t, exec (.spareSelftestComplete (tumblerChan d.val w.val p.val) []) s = .next t ∧
      (t.ward (wardKey d.val l)).inserting = false ∧ t.mem = s.mem)

/-- DOORBELL_WRITE by the ring's owner, at least 32 bits wide, to an enabled ring that is not stopped, moves the tail forward
within the ring's size: at once when the module has been ready, and otherwise it is held; any other leaves the ring as it was
and counts. OPX_CPL_HEAD_WRITE by the owner moves the head up to the tail; any other value leaves it. APPCORE_RING_SLOT_STORE
is applied in the core's own slots, each part discarded at a poisoned line with the home's fault, and elsewhere opens or joins
a PROTECTED_WRITE record. INTERRUPT_CLAIM_READ answers the lowest pending enabled identity and clears it; the keeper's write
of an interrupt file sets keeper_pending, and interrupts the core where that is enabled and nothing was pending. (R24, R60,
R104, R118, R158, Table 2.9, Table 4.3.) -/
def Obligations.DoorbellsHeadsAndClaims : Prop :=
  (∀ (s : State) (a : Agent) (ring : RingIx) (v : W64) (n : Nat),
    ∃ t, exec (.doorbellWrite a ring v n) s = .next t ∧ t.mem = s.mem ∧ t.out = s.out ∧
      let k := ringKeyOf (doorbellDie a) ring
      let r := s.ring k
      if 4 ≤ n ∧ r.enabled = true ∧ ownedBy r.owner a = true ∧ r.stopped = false ∧
          (v.setWidth 32 - r.tail).toNat < 0x80000000 ∧ (v.setWidth 32 - r.head).toNat ≤ r.entries then
        if s.ready = true then t.ring k = { r with tail := v.setWidth 32 }
        else t.ring k = { r with heldTail := some (v.setWidth 32) }
      else t.ring k = r) ∧
  (∀ (s : State) (a : Agent) (d : BaseDie) (ring : RingIx) (v : W32),
    ∃ t, exec (.opxCplHeadWrite a d ring v) s = .next t ∧ t.mem = s.mem ∧ t.out = s.out ∧
      let r := s.ring (ringKeyOf d ring)
      t.ring (ringKeyOf d ring) = if r.enabled = true ∧ ownedBy r.owner a = true ∧
          (v - r.cplHead).toNat ≤ (r.cplTail - r.cplHead).toNat then { r with cplHead := v } else r) ∧
  (∀ (s : State) (c : CoreIx) (a : PAddr) (data : List Byte), s.coreSlot c a.toNat data.length = true →
    exec (.appcoreRingSlotStore c a data) s = .next ((s.storeAt a.toNat data false).2.foldl
      (fun t x => t.discardedPart x (coreChan c.val)) (s.storeAt a.toNat data false).1)) ∧
  (∀ (s : State) (c : CoreIx) (a : PAddr) (data : List Byte) (h o : Nat), s.coreSlot c a.toNat data.length = false →
    s.place a.toNat = .cell h o → s.isPadlocked (lineChan h) = false → s.faults.openRecs.length < 64 →
    ∃ t, exec (.appcoreRingSlotStore c a data) s = .next t ∧
      ∃ q ∈ t.faults.openRecs, q.cause = .protectedWrite ∧ q.suspect = lineChan h) ∧
  (∀ (s : State) (c : CoreIx), ∃ t, exec (.interruptClaimRead c) s = .next t ∧ t.mem = s.mem ∧ t.ops = s.ops ∧
    t.out = s.out ++ [.coreData c (leBytes 8 (s.core c.val).identity)] ∧
    (∀ r < 64, (t.core c.val).ringPending.getLsbD r =
      ((s.core c.val).ringPending.getLsbD r && decide (r + 1 ≠ (s.core c.val).identity))) ∧
    ((s.core c.val).identity = 65 → (t.core c.val).keeperPending = false)) ∧
  (∀ (s : State) (c : CoreIx) (v : W64) (n : Nat), v.getLsbD 0 = true →
    ∃ t, exec (.registerWrite .keeper (.coreKeeperPending c) v n) s = .next t ∧ (t.core c.val).keeperPending = true ∧
      t.mem = s.mem ∧ t.out = s.out ++
        (if (s.core c.val).identity = 0 ∧ (s.core c.val).keeperEnable = true then [.coreInterrupt c] else []))

/-- With a readable head entry whose checks pass, and no SIGNAL or BARRIER held: RING_NOP completes it with status 0;
RING_DISPATCH keeps it and reads its operator descriptor; RING_SIGNAL on a ring with nothing else outstanding stores the fence
value and completes; RING_WAIT completes once the fence word is at least the value and otherwise stays; RING_BARRIER completes
on a ring with nothing else outstanding and otherwise stays behind a started entry. RING_RESERVED_OPCODE completes with status
0x01. Every entry read moves the head by 1, and every completion the record's place by 1; NOP's record stands in its slot.
FENCE_WORD_WRITE_NOTIFY evaluates a WAIT on that word again. (R105, R109, R111, R115, R117, R476, Table 4.5.) -/
def Obligations.RingEntriesReadAndComplete : Prop :=
  (∀ (s : State) (d : BaseDie) (ring : RingIx), s.canRead (s.ring (ringKeyOf d ring)) = true →
    (∀ x ∈ (s.ring (ringKeyOf d ring)).live, x.phase ≠ .signal ∧ x.phase ≠ .barrier) →
    (s.headEntry (ringKeyOf d ring)).2 = false → enOpcode (s.headEntry (ringKeyOf d ring)).1 = 0 →
    firstFailed (s.checkStage1 (s.ring (ringKeyOf d ring)) (s.headEntry (ringKeyOf d ring)).1
      ((s.ring (ringKeyOf d ring)).slotAddr (ringKeyOf d ring) (s.ring (ringKeyOf d ring)).head.toNat)) = none →
    ∃ t, exec (.ringNop d ring) s = .next t ∧
      let r := s.ring (ringKeyOf d ring)
      let at_ := r.cplBase + 32 * (r.cplTail.toNat % r.entries)
      (t.ring (ringKeyOf d ring)).head = r.head + 1 ∧ (t.ring (ringKeyOf d ring)).cplTail = r.cplTail + 1 ∧
      (r.cplBase % 32 = 0 → at_ < 0x10000000 → s.poisoned (12 + d.val) (at_ / 64 * 64) = false →
        t.bytes (12 + d.val) at_ 32 =
          completionRecord (freshEntry r.head (s.headEntry (ringKeyOf d ring)).1 r.lastDispatch .checked) s.tel.timestamp 0 0)) ∧
  (∀ (s : State) (d : BaseDie) (ring : RingIx), s.canRead (s.ring (ringKeyOf d ring)) = true →
    (s.headEntry (ringKeyOf d ring)).2 = false → enOpcode (s.headEntry (ringKeyOf d ring)).1 = 1 →
    firstFailed (s.checkStage1 (s.ring (ringKeyOf d ring)) (s.headEntry (ringKeyOf d ring)).1
      ((s.ring (ringKeyOf d ring)).slotAddr (ringKeyOf d ring) (s.ring (ringKeyOf d ring)).head.toNat)) = none →
    ∃ t, exec (.ringDispatch d ring) s = .next t ∧ t.mem = s.mem ∧
      let r := s.ring (ringKeyOf d ring)
      t.out = s.out ++ [.homeRead (.dispatcher d) (enDesc (s.headEntry (ringKeyOf d ring)).1) 128] ∧
      t.ring (ringKeyOf d ring) = { r with head := r.head + 1, lastDispatch := some r.head, live := r.live ++ [freshEntry r.head (s.headEntry (ringKeyOf d ring)).1 r.lastDispatch .descriptor] }) ∧
  (∀ (s : State) (d : BaseDie) (ring : RingIx) (h o : Nat), s.canRead (s.ring (ringKeyOf d ring)) = true →
    (s.ring (ringKeyOf d ring)).live = [] →
    (s.headEntry (ringKeyOf d ring)).2 = false → enOpcode (s.headEntry (ringKeyOf d ring)).1 = 2 →
    firstFailed (s.checkStage1 (s.ring (ringKeyOf d ring)) (s.headEntry (ringKeyOf d ring)).1
      ((s.ring (ringKeyOf d ring)).slotAddr (ringKeyOf d ring) (s.ring (ringKeyOf d ring)).head.toNat)) = none →
    s.place (enFence (s.headEntry (ringKeyOf d ring)).1).toNat = .cell h o → s.poisoned h o = false → h ≠ 12 + d.val →
    o < 0x10000000000 - 8 →
    ∃ t, exec (.ringSignal d ring) s = .next t ∧
      let r := s.ring (ringKeyOf d ring)
      (t.ring (ringKeyOf d ring)).head = r.head + 1 ∧ (t.ring (ringKeyOf d ring)).cplTail = r.cplTail + 1 ∧
      (t.ring (ringKeyOf d ring)).live = [] ∧
      (r.cplBase + 32 * r.entries < 0x10000000000 → r.cplBase % 32 = 0 →
        s.poisoned (12 + d.val) ((r.cplBase + 32 * (r.cplTail.toNat % r.entries)) / 64 * 64) = false →
        t.bytes h o 8 = leBytes 8 (enFenceValue (s.headEntry (ringKeyOf d ring)).1).toNat)) ∧
  (∀ (s : State) (d : BaseDie) (ring : RingIx), s.canRead (s.ring (ringKeyOf d ring)) = true →
    (∀ x ∈ (s.ring (ringKeyOf d ring)).live, x.phase ≠ .signal ∧ x.phase ≠ .barrier) →
    (s.headEntry (ringKeyOf d ring)).2 = false → enOpcode (s.headEntry (ringKeyOf d ring)).1 = 3 →
    firstFailed (s.checkStage1 (s.ring (ringKeyOf d ring)) (s.headEntry (ringKeyOf d ring)).1
      ((s.ring (ringKeyOf d ring)).slotAddr (ringKeyOf d ring) (s.ring (ringKeyOf d ring)).head.toNat)) = none →
    (s.load (enFence (s.headEntry (ringKeyOf d ring)).1).toNat 8).2 = false →
    ∃ t, exec (.ringWait d ring) s = .next t ∧
      let r := s.ring (ringKeyOf d ring)
      let e := freshEntry r.head (s.headEntry (ringKeyOf d ring)).1 r.lastDispatch .wait
      (t.ring (ringKeyOf d ring)).head = r.head + 1 ∧
      if (enFenceValue e.word).toNat ≤ leNat (s.load (enFence e.word).toNat 8).1 then
        (t.ring (ringKeyOf d ring)).cplTail = r.cplTail + 1
      else t.ring (ringKeyOf d ring) = { r with head := r.head + 1, live := r.live ++ [e] } ∧ t.mem = s.mem ∧ t.out = s.out) ∧
  (∀ (s : State) (d : BaseDie) (ring : RingIx), s.canRead (s.ring (ringKeyOf d ring)) = true →
    (∀ x ∈ (s.ring (ringKeyOf d ring)).live, x.phase = .started) →
    (s.headEntry (ringKeyOf d ring)).2 = false → enOpcode (s.headEntry (ringKeyOf d ring)).1 = 4 →
    firstFailed (s.checkStage1 (s.ring (ringKeyOf d ring)) (s.headEntry (ringKeyOf d ring)).1
      ((s.ring (ringKeyOf d ring)).slotAddr (ringKeyOf d ring) (s.ring (ringKeyOf d ring)).head.toNat)) = none →
    ∃ t, exec (.ringBarrier d ring) s = .next t ∧
      let r := s.ring (ringKeyOf d ring)
      (t.ring (ringKeyOf d ring)).head = r.head + 1 ∧
      if r.live = [] then (t.ring (ringKeyOf d ring)).cplTail = r.cplTail + 1 ∧ (t.ring (ringKeyOf d ring)).live = []
      else (t.ring (ringKeyOf d ring)).cplTail = r.cplTail ∧ t.mem = s.mem ∧
        (t.ring (ringKeyOf d ring)).live = r.live ++ [freshEntry r.head (s.headEntry (ringKeyOf d ring)).1 r.lastDispatch .barrier]) ∧
  (∀ (s : State) (d : BaseDie) (ring : RingIx), s.canRead (s.ring (ringKeyOf d ring)) = true →
    (∀ x ∈ (s.ring (ringKeyOf d ring)).live, x.phase ≠ .signal ∧ x.phase ≠ .barrier) →
    (s.headEntry (ringKeyOf d ring)).2 = false → 4 < enOpcode (s.headEntry (ringKeyOf d ring)).1 →
    ∃ t, exec (.ringReservedOpcode d ring) s = .next t ∧
      let r := s.ring (ringKeyOf d ring)
      (t.ring (ringKeyOf d ring)).head = r.head + 1 ∧ (t.ring (ringKeyOf d ring)).cplTail = r.cplTail + 1 ∧
      Store.get 0 t.tel.live (counterKey 6 (ringKeyOf d ring) 0 1) =
        saturate (Store.get 0 s.tel.live (counterKey 6 (ringKeyOf d ring) 0 1) + 1)) ∧
  (∀ (s : State) (k : Nat) (r : Ring) (e : RingEntry), s.ops.rings = [(k, r)] → r.live = [e] → e.phase = .wait →
    (s.load (enFence e.word).toNat 8).2 = false →
    ∃ t, exec (.fenceWordWriteNotify (enFence e.word)) s = .next t ∧
      if (enFenceValue e.word).toNat ≤ leNat (s.load (enFence e.word).toNat 8).1 then
        (t.ring k).live = [] ∧ (t.ring k).cplTail = r.cplTail + 1
      else t = s)

/-- DESCRIPTOR_FETCH_COMPLETE of an operator descriptor that passes reads the tensor table, and of tensors that pass resolves the
placement; one that fails completes the entry. START_ORDER_LOCK_ACQUIRE with every lock free gives the operator its serial,
counts it on its context, and sends the first start token where a place and a region table are free; with a lock taken it
changes nothing. START_QUEUE_CREDIT_RETURN and REGION_TABLE_FREED free a place and a table. COMPLETION_TOKEN_RECEIVE of the
last ward completes the operator; an earlier one is held; a first fault status aborts the other wards. (R21, R29, R43, R106,
R108, R138, R374, R476.) -/
def Obligations.OperatorsCheckedStartedCompleted : Prop :=
  (∀ (s : State) (d : BaseDie) (ring : RingIx) (e : RingEntry),
    ((s.ring (ringKeyOf d ring)).live.find? fun x => x.phase = .descriptor || decide (x.phase = .tensors)) = some e →
    e.phase = .descriptor → s.poisonAt (enDesc e.word).toNat 128 = none →
    firstFailed (s.checkStage2 (s.ring (ringKeyOf d ring)) e.word
      (BitVec.ofNat 1024 (leNat (s.load (enDesc e.word).toNat 128).1)) (enDesc e.word).toNat) = none →
    ∃ t, exec (.descriptorFetchComplete d ring) s = .next t ∧ t.mem = s.mem ∧
      let od := BitVec.ofNat 1024 (leNat (s.load (enDesc e.word).toNat 128).1)
      t.out = s.out ++ [.homeRead (.dispatcher (ringDie (ringKeyOf d ring))) (odTable od) (64 * (odInputs od + odOutputs od))] ∧
      (t.ring (ringKeyOf d ring)).live = (s.ring (ringKeyOf d ring)).live.map fun x =>
        if x.count = e.count then { x with desc := od, phase := .tensors } else x) ∧
  (∀ (s : State) (d : BaseDie) (ring : RingIx) (e : RingEntry) (f : Failed), (s.ring (ringKeyOf d ring)).live = [e] →
    e.phase = .descriptor → s.poisonAt (enDesc e.word).toNat 128 = none →
    firstFailed (s.checkStage2 (s.ring (ringKeyOf d ring)) e.word
      (BitVec.ofNat 1024 (leNat (s.load (enDesc e.word).toNat 128).1)) (enDesc e.word).toNat) = some f →
    ∃ t, exec (.descriptorFetchComplete d ring) s = .next t ∧ (t.ring (ringKeyOf d ring)).live = [] ∧
      (t.ring (ringKeyOf d ring)).cplTail = (s.ring (ringKeyOf d ring)).cplTail + 1) ∧
  (∀ (s : State) (d : BaseDie) (ring : RingIx) (e : RingEntry),
    ((s.ring (ringKeyOf d ring)).live.find? fun x => x.phase = .descriptor || decide (x.phase = .tensors)) = some e →
    e.phase = .tensors → s.poisonAt (odTable e.desc).toNat (64 * (odInputs e.desc + odOutputs e.desc)) = none →
    ∃ t, exec (.descriptorFetchComplete d ring) s = .next t ∧
      let n := odInputs e.desc + odOutputs e.desc
      let bytes := (s.load (odTable e.desc).toNat (64 * n)).1
      let r := s.checkStage3 (ringKeyOf d ring) (s.ring (ringKeyOf d ring)) e.word e.desc
        ((List.range n).map fun i => BitVec.ofNat 512 (leNat ((bytes.drop (64 * i)).take 64))) (odTable e.desc).toNat
      (firstFailed r.1 = none → t.mem = s.mem ∧ t.out = s.out ∧
        (t.ring (ringKeyOf d ring)).live = (s.ring (ringKeyOf d ring)).live.map fun x =>
          if x.count = e.count then { x with tensors := ((List.range n).map fun i => BitVec.ofNat 512 (leNat ((bytes.drop (64 * i)).take 64))), placement := r.2, phase := .checked } else x)) ∧
  (∀ (s : State) (d : BaseDie) (ring : RingIx) (e : RingEntry) (q : TumId) (rest : List TumId),
    ((s.ring (ringKeyOf d ring)).live.find? fun x => decide (x.phase = .checked)) = some e →
    mayStart (s.ring (ringKeyOf d ring)).live e = true → s.startedOn d.val < 256 →
    ((s.ring (ringKeyOf d ring)).live.filter fun x => match x.phase with | .starting _ _ | .started => true | _ => false).length < 16 →
    (∀ x ∈ e.placement.dies, Store.get none s.ops.locks x.val = none) →
    e.placement.tumblers = q :: rest → Store.get 0 s.ops.startTaken (tkey q) < 4 →
    (s.ward (wkey q)).tableFree (enCtx e.word) (enGen e.word) = true →
    ∃ t, exec (.startOrderLockAcquire d ring) s = .next t ∧
      let n := Store.get 0 (s.context (enCtx e.word).val).started d.val
      Store.get 0 (t.context (enCtx e.word).val).started d.val = n + 1 ∧
      let tok := startTok { e with opSerial := opSerialOf d n } (enCtx e.word) (enGen e.word) q 0
      .startToken (startHeader (ringDie (ringKeyOf d ring)) tok) tok ∈ t.out) ∧
  (∀ (s : State) (d : BaseDie) (ring : RingIx) (e : RingEntry) (x : Die) (k : Nat),
    ((s.ring (ringKeyOf d ring)).live.find? fun x => decide (x.phase = .checked)) = some e →
    x ∈ e.placement.dies → Store.get none s.ops.locks x.val = some k → exec (.startOrderLockAcquire d ring) s = .next s) ∧
  (∀ (s : State) (q : TumId), (∀ p ∈ s.ops.rings, ∀ e ∈ p.2.live, ∀ l n, e.phase ≠ .starting l n) →
    ∃ t, exec (.startQueueCreditReturn q) s = .next t ∧ t.mem = s.mem ∧ t.out = s.out ∧ t.ops.rings = s.ops.rings ∧
      Store.get 0 t.ops.startTaken (tkey q) = Store.get 0 s.ops.startTaken (tkey q) - 1) ∧
  (∀ (s : State) (d : Die) (w : LWard) (c : CtxId), (∀ p ∈ s.ops.rings, ∀ e ∈ p.2.live, ∀ l n, e.phase ≠ .starting l n) →
    ((s.wardTums d.val w.val).any fun x => x.holds c) = false →
    ∃ t, exec (.regionTableFreed d w c) s = .next t ∧ t.mem = s.mem ∧ t.ops = s.ops ∧
      (t.ward (wardKey d.val w.val)).tables = (s.ward (wardKey d.val w.val)).tables.filter fun r => r.ctx ≠ c || decide (0 < r.coming)) ∧
  (∀ (s : State) (p : BaseDie) (d : Die) (w : LWard) (c : CtxId) (op : W32) (k : Nat) (e : RingEntry),
    s.findOp p.val c op = some (k, e) → (s.ring k).live = [e] → e.phase = .started → e.drainedFirst = [] → e.fault = none →
    e.tokens.contains (wardKey d.val w.val) = false →
    ∃ t, exec (.completionTokenReceive p d w c op 0) s = .next t ∧
      if (e.placement.wards.all fun x => (e.tokens ++ [wardKey d.val w.val]).contains x) = true then
        (t.ring k).live = [] ∧ (t.ring k).cplTail = (s.ring k).cplTail + 1
      else (t.ring k).live = [{ e with tokens := e.tokens ++ [wardKey d.val w.val] }] ∧ t.out = s.out ∧ t.mem = s.mem) ∧
  (∀ (s : State) (p : BaseDie) (d : Die) (w : LWard) (c : CtxId) (op : W32) (st : Byte) (k : Nat) (e : RingEntry),
    s.findOp p.val c op = some (k, e) → e.fault = none → e.tokens.contains (wardKey d.val w.val) = false → st ≠ 0 →
    ∃ t, exec (.completionTokenReceive p d w c op st) s = .next t ∧
      ∀ o ∈ aborts p e (wardKey d.val w.val), o ∈ t.out)

/-- DISPATCHER_STOP_CONFIRM of a named dispatcher that sends no start token is held; the last one advances the generation by 1 and
sends the change. DRAINED_TOKEN_RECEIVE is held, and the last active ward's makes the dispatcher report. DRAIN_PROBE_TIMER
leaves a probe out to every active ward whose drained token a named dispatcher lacks. DRAIN_TIME_EXPIRY forgets the context's
remote requests. LOCAL_DRAIN_COMPLETE deletes the rings and goes to Scrubbing, or to Quarantined with fences outstanding.
SCRUB_COMPLETE frees the context, keeps its generation, and leaves every cell of its regions, but P0's shelf SRAM that records
also use, reading 0, and every other cell as it was. (R100, R102, R125, R126, R127, R129, R162, R480, Table 4.11.) -/
def Obligations.TeardownDrainsThenScrubs : Prop :=
  (∀ (s : State) (d : BaseDie) (c : CtxId) (td : Teardown), (s.context c.val).teardown = some td →
    (s.context c.val).state = .draining → td.named.contains d = true → td.stopped.contains d = false →
    ((s.ringsOf c).any fun k => k / 64 = d.val &&
      (s.ring k).live.any fun e => match e.phase with | .starting _ _ => true | _ => false) = false →
    ∃ t, exec (.dispatcherStopConfirm d c) s = .next t ∧
      if (td.named.all fun x => (td.stopped ++ [d]).contains x) = true then
        (t.context c.val).gen = (s.context c.val).gen + 1 ∧
        ((t.context c.val).teardown.map fun x => (x.stopped, x.changed)) = some (td.stopped ++ [d], true)
      else (t.context c.val).gen = (s.context c.val).gen ∧
        ((t.context c.val).teardown.map fun x => (x.stopped, x.changed)) = some (td.stopped ++ [d], td.changed)) ∧
  (∀ (s : State) (p : BaseDie) (d : Die) (w : LWard) (c : CtxId) (td : Teardown), (s.context c.val).teardown = some td →
    td.changed = true → td.named.contains p = true → td.reported.contains p = false →
    (s.drainedAt p.val c).contains (wardKey d.val w.val) = false →
    ∃ t, exec (.drainedTokenReceive p d w c) s = .next t ∧
      t.ops.drained = s.ops.drained ++ [(p.val, c, wardKey d.val w.val)] ∧
      ((t.context c.val).teardown.map fun x => x.reported) =
        some (if (s.activeWards.all fun x => (s.drainedAt p.val c ++ [wardKey d.val w.val]).contains x) = true
          then td.reported ++ [p] else td.reported)) ∧
  (∀ (s : State) (c : CtxId) (td : Teardown), (s.context c.val).teardown = some td → td.changed = true →
    (∀ d, s.faults.capacity.wardCount d ≤ 24) →
    ∃ t, exec (.drainProbeTimer c) s = .next t ∧ t.mem = s.mem ∧ t.ops = s.ops ∧
      ∀ w ∈ s.activeWards, ∀ d ∈ td.named, (s.drainedAt d.val c).contains w = false →
        (∃ p < 25, s.physWard (w / 24) (w % 24) = some p) → t.faults.probes.contains (s.chanOfWard (w / 24) (w % 24)) = true) ∧
  (∀ (s : State) (c : CtxId) (td : Teardown), (s.context c.val).teardown = some td → td.changed = true →
    td.expired = false → ∃ t, exec (.drainTimeExpiry c) s = .next t ∧
      ((t.context c.val).teardown.map fun x => x.expired) = some true ∧
      t.domain.requests = s.domain.requests.filter fun q => q.ctx ≠ c) ∧
  (∀ (s : State) (c : CtxId) (td : Teardown), (s.context c.val).teardown = some td → (s.context c.val).state = .draining →
    td.changed = true → (td.named.all fun d => td.reported.contains d) = true → td.fences = [] →
    ∃ t, exec (.localDrainComplete c) s = .next t ∧ (t.context c.val).state = .scrubbing ∧
      ∀ k ∈ s.ringsOf c, (t.ring k).enabled = false) ∧
  (∀ (s : State) (c : CtxId) (td : Teardown), (s.context c.val).teardown = some td → (s.context c.val).state = .draining →
    td.changed = true → (td.named.all fun d => td.reported.contains d) = true → td.fences ≠ [] → td.expired = true →
    ∃ t, exec (.localDrainComplete c) s = .next t ∧ (t.context c.val).state = .quarantined) ∧
  (∀ (s : State) (c : CtxId), (s.context c.val).state = .scrubbing →
    ∃ t, exec (.scrubComplete c) s = .next t ∧ (t.context c.val).state = .free ∧
      (t.context c.val).gen = (s.context c.val).gen ∧ (t.context c.val).regions = [] ∧
      ∀ home off, home ≠ 12 → off < 0x10000000000 → t.byte home off =
        if s.scrubs (s.context c.val).regions (cellKey home off) = true then 0 else s.byte home off)

/-- HOME_READ of lines with no poison answers their bytes and changes no memory; of a poisoned line it answers poisoned with no
data, or faults a core. HOME_WRITE that its home accepts, within one line that is not poisoned or wholly covered, leaves those
bytes written and every other byte as it was, and is acknowledged; one of a generation that the home does not accept changes
no memory and has no acknowledgement. HOME_ATOMIC on an aligned word of an unpoisoned line stores what Table 5.4 gives and
returns the old value where it does; in an area that its agent may not write it stores nothing and a PROTECTED_WRITE record is
open. A home whose die's clock is not locked does none of these. APPCORE_MEMORY_ACCESS within the core's regions goes to the
home; elsewhere a read gets all ones and a write is discarded. (R15, R58, R135, R140, R144, R148, R149, Table 5.4, Table 5.6.) -/
def Obligations.HomesAnswerReadsWritesAtomics : Prop :=
  (∀ (s : State) (r : Reader) (a : PAddr) (n : Nat), s.poisonLines a.toNat n = [] → s.homesRun a.toNat n = true →
    ∃ t flits, exec (.homeRead r a n) s = .next t ∧ t.out = s.out ++ flits ++ [.homeAnswer r (s.load a.toNat n).1 false] ∧
      t.mem = s.mem ∧ t.compute = s.compute ∧ t.ops = s.ops ∧ (readerAt r = none → t.d2d = s.d2d ∧ flits = [])) ∧
  (∀ (s : State) (r : Reader) (a : PAddr) (n : Nat), s.homesRun a.toNat n = false → exec (.homeRead r a n) s = .next s) ∧
  (∀ (s : State) (w : Writer) (a : PAddr) (data : List Byte) (p : Bool), s.homesRun a.toNat data.length = false →
    exec (.homeWrite w a data p) s = .next s) ∧
  (∀ (s : State) (r : Reader) (op : AtomicOp) (a : PAddr) (x y : W64) (b : Bool), s.homesRun a.toNat (atomicBytes op) = false →
    exec (.homeAtomic r op a x y b) s = .next s) ∧
  (∀ (s : State) (r : Reader) (a : PAddr) (n : Nat), s.poisonLines a.toNat n ≠ [] → s.homesRun a.toNat n = true →
    ∃ t, exec (.homeRead r a n) s = .next t ∧ t.out.getLast? = some (match r with
      | .appCore c => .coreFault c
      | x => .homeAnswer x [] true)) ∧
  (∀ (s : State) (w : Writer) (a : PAddr) (data : List Byte) (p : Bool) (h o : Nat),
    (∀ x, writerGen w = some x → s.acceptsGen x.1 x.2 = true) → s.protectedAt w a.toNat data.length = none →
    s.homesRun a.toNat data.length = true →
    data ≠ [] → a.toNat % 64 + data.length ≤ 64 → s.place a.toNat = .cell h o → o + data.length ≤ 0x10000000000 →
    (data.length = 64 ∨ (p = false ∧ s.poisoned h o = false)) →
    ∃ t, exec (.homeWrite w a data p) s = .next t ∧ t.out = s.out ++ [.homeAck w] ∧ t.bytes h o data.length = data ∧
      (data.length = 64 → t.poisoned h o = p) ∧ t.ops = s.ops ∧ t.compute = s.compute ∧
      ∀ home off, off < 0x10000000000 → home ≠ h ∨ off < o ∨ o + data.length ≤ off → t.byte home off = s.byte home off) ∧
  (∀ (s : State) (w : Writer) (a : PAddr) (data : List Byte) (p : Bool) (c : CtxId) (g : Gen),
    writerGen w = some (c, g) → s.acceptsGen c g = false →
    ∃ t, exec (.homeWrite w a data p) s = .next t ∧ t.mem = s.mem ∧ t.out = s.out) ∧
  (∀ (s : State) (r : Reader) (op : AtomicOp) (a : PAddr) (x y : W64) (want : Bool) (h o : Nat),
    a.toNat % atomicBytes op = 0 → s.place a.toNat = .cell h o → s.poisoned h o = false → o + 8 ≤ 0x10000000000 →
    s.homesRun a.toNat (atomicBytes op) = true → s.protectedAt (s.atomicWriter r) a.toNat (atomicBytes op) = none →
    ∃ t, exec (.homeAtomic r op a x y want) s = .next t ∧
      let n := atomicBytes op
      let old := BitVec.ofNat 64 (leNat (s.bytes h o n))
      t.bytes h o n = leBytes n (atomicResult op old x y).toNat ∧
      t.out = s.out ++ [if atomicReturns op want = true then .homeOld r old false else .homeAnswer r [] false] ∧
      ∀ home off, off < 0x10000000000 → home ≠ h ∨ off < o ∨ o + n ≤ off → t.byte home off = s.byte home off) ∧
  (∀ (s : State) (r : Reader) (op : AtomicOp) (a : PAddr) (x y : W64) (want : Bool) (h b : Nat),
    a.toNat % atomicBytes op = 0 → s.poisonLines a.toNat (atomicBytes op) = [] → s.homesRun a.toNat (atomicBytes op) = true →
    s.protectedAt (s.atomicWriter r) a.toNat (atomicBytes op) = some (h, b) → s.isPadlocked (lineChan h) = false →
    s.faults.openRecs.length < 64 → ∃ t, exec (.homeAtomic r op a x y want) s = .next t ∧
      (∃ q ∈ t.faults.openRecs, q.cause = .protectedWrite ∧ q.suspect = lineChan h) ∧
      ∀ home off, home ≠ 12 → off < 0x10000000000 → t.byte home off = s.byte home off) ∧
  (∀ (s : State) (c : CoreIx) (a : PAddr) (n : Nat) (w : Option (List Byte)), (s.core c.val).running = true →
    coreLocal a.toNat = false →
    (s.core c.val).ctxs.any (fun x => inRegions (s.context x.val).regions a.toNat ((w.map List.length).getD n)) = true →
    s.badPlace a.toNat ((w.map List.length).getD n) = none →
    exec (.appcoreMemoryAccess c a n w) s = .next (s.emit (match w with
      | some d => .homeWrite (.appCore c) a d
      | none => .homeRead (.appCore c) a n))) ∧
  (∀ (s : State) (c : CoreIx) (a : PAddr) (n : Nat), (s.core c.val).running = true → coreLocal a.toNat = false →
    s.coreRing c a.toNat n = false →
    (s.core c.val).ctxs.any (fun x => inRegions (s.context x.val).regions a.toNat n) = false →
    ∃ t, exec (.appcoreMemoryAccess c a n none) s = .next t ∧ t.out.getLast? = some (.coreData c (List.replicate n 0xFF)))

/-- PATROL_SCRUB_READ of the next line of a trained stack whose patrol is on moves the patrol on by 1, modulo the stack's lines,
and changes no byte; an uncorrectable line of a data page that holds no later write is poisoned. A line that is poisoned
already is not covered here. REFRESH_RATE_FALL lowers the rate to what the temperature allows, and names that temperature.
LANE_REMAP_APPLY puts the waiting remaps of a pseudo-channel into effect. PAGE_COPY_COMPLETE enters the page in the retirement
map. HBM_MAP_CTRL_WRITE by the keeper before the lock sets the share, at most 47, and otherwise changes nothing.
HBM_EYE_TEST_COMPLETE ends the test. (R136, R150, R151, R153, R154, R164, R366, Table 5.8.) -/
def Obligations.StacksPatrolRefreshAndRepair : Prop :=
  (∀ (s : State) (k : StackIx) (n : Nat) (w : Bool), (s.stack k.val).trained = true → (s.stack k.val).padlocked = false →
    Store.get false s.mem.patrolOff (k.val / 2) = false →
    (∀ l, (s.stack k.val).dataLine (s.stack k.val).patrol = some l → s.poisoned k.val (64 * l) = false) →
    ∃ t, exec (.patrolScrubRead k (s.stack k.val).patrol n false w) s = .next t ∧ t.mem.cells = s.mem.cells ∧
      t.mem.poison = s.mem.poison ∧ t.out = s.out ∧
      t.stack k.val = { s.stack k.val with patrol := ((s.stack k.val).patrol + 1) % 805306368 }) ∧
  (∀ (s : State) (k : StackIx) (n : Nat), (s.stack k.val).trained = true → (s.stack k.val).padlocked = false →
    Store.get false s.mem.patrolOff (k.val / 2) = false → (s.stack k.val).patrol / 1024 < 770048 →
    Store.get none (s.stack k.val).retired ((s.stack k.val).patrol / 1024) = none →
    s.poisoned k.val (64 * (s.stack k.val).patrol) = false →
    ∃ t, exec (.patrolScrubRead k (s.stack k.val).patrol n true false) s = .next t ∧
      t.poisoned k.val (64 * (s.stack k.val).patrol) = true ∧
      (t.stack k.val).patrol = ((s.stack k.val).patrol + 1) % 805306368 ∧
      ∀ off < 0x10000000000, t.byte k.val off = s.byte k.val off) ∧
  (∀ (s : State) (k : StackIx), ∃ t, exec (.refreshRateFall k) s = .next t ∧ t.mem.cells = s.mem.cells ∧
    let c := Store.get 0 s.thermal.hotspot (18 + k.val)
    let rate := if c ≤ 8300 then 1 else if c ≤ 9300 then 2 else 4
    t.stack k.val = if rate < (s.stack k.val).refresh then { s.stack k.val with refresh := rate, refreshTemp := c }
      else s.stack k.val) ∧
  (∀ (s : State) (k : StackIx) (pc : Fin 64), ∃ t, exec (.laneRemapApply k pc) s = .next t ∧ t.mem.cells = s.mem.cells ∧
    (t.stack k.val).remapped = (s.stack k.val).remapped ++
      (Store.get [] (s.stack k.val).remapping pc.val).map (fun l => (pc.val, l)) ∧
    Store.get [] (t.stack k.val).remapping pc.val = []) ∧
  (∀ (s : State) (k : StackIx) (page : BitVec 20) (j : Nat), Store.get none (s.stack k.val).copying page.toNat = some j →
    ∃ t, exec (.pageCopyComplete k page) s = .next t ∧ t.mem.cells = s.mem.cells ∧
      Store.get none (t.stack k.val).retired page.toNat = some j ∧ Store.get none (t.stack k.val).copying page.toNat = none) ∧
  (∀ (s : State) (a : Agent) (v : Nat), exec (.hbmMapCtrlWrite a v) s =
    .next (if a = .keeper ∧ s.keeper.locked = false then { s with mem := { s.mem with share := min 47 v } } else s)) ∧
  (∀ (s : State) (k : StackIx) (pc : Fin 64) (f : Option (Fin 128)), (s.stack k.val).eyeTests.contains pc.val = true →
    ∃ t, exec (.hbmEyeTestComplete k pc f) s = .next t ∧ (t.stack k.val).eyeTests.contains pc.val = false)

/-- For a ring of any engine, fiber, slot and kind: RING_LOCK_LOSS releases a locked ring, which stops driving and searches, or
changes segment at its third release of the interval; RESONANCE_TONE_MEASURED locks a searching ring whose tone meets the
three conditions (an engine without key tones takes a receive training pattern for the first two; a modulator ring drives, and
needs its own laser lit), and counts a wrong lock otherwise; RING_SEARCH_TIMEOUT fails the search, but a drop ring without
light waits; DROP_RING_RESEARCH searches again, by a sweep from 0 before any link of the engine has opened and from the low
edge of its window afterwards; RING_TONE_RECHECK notes a first failure and releases at a second; HEATER_SEGMENT_FAULT goes on
to another good segment. Memory does not change where no record is raised. (R206, R207, R209, R210, R211, R212, R418, Table
6.11, Table 7.7.) -/
def Obligations.RingsLockReleaseAndSearch : Prop :=
  (∀ (s : State) (r : RingId), let d := decide (r.kind = .drop)
    let k := ringKey r.fiber.val r.slot.val d
    ((s.engine r.engine.val).ring k).state = .locked →
    ∃ t, exec (.ringLockLoss r) s = .next t ∧
      (((s.engine r.engine.val).ring k).releases < 2 → t.mem = s.mem ∧ t.out = s.out ∧
        ((t.engine r.engine.val).ring k).state = .searching ∧ ((t.engine r.engine.val).ring k).driving = false ∧
        ((t.engine r.engine.val).ring k).releases = ((s.engine r.engine.val).ring k).releases + 1) ∧
      (2 ≤ ((s.engine r.engine.val).ring k).releases → ((s.engine r.engine.val).ring k).badSegments = [] →
        ((s.engine r.engine.val).ring k).segment = 0 →
        (((t.engine r.engine.val).ring k).segment = 1 ∨ ((t.engine r.engine.val).ring k).segment = 2) ∧
        ((t.engine r.engine.val).ring k).state = .searching ∧ ((t.engine r.engine.val).ring k).badSegments = [0])) ∧
  (∀ (s : State) (r : RingId) (x : ToneReading), let d := decide (r.kind = .drop)
    let k := ringKey r.fiber.val r.slot.val d
    (((s.engine r.engine.val).ring k).state = .sweeping ∨ ((s.engine r.engine.val).ring k).state = .searching) →
    ∃ t, exec (.resonanceToneMeasured r x) s = .next t ∧ t.mem = s.mem ∧
      if (if (s.site r.engine.val).keyTone = true then 60 ≤ x.overOthers ∧ 100 ≤ x.overNoise else x.pattern = true) ∧
          x.heaterInWindow = true ∧ (d = true ∨ s.slotLit r.engine.val r.slot.val = true) then
        ((t.engine r.engine.val).ring k).state = .locked ∧ ((t.engine r.engine.val).ring k).driving = !d
      else ((t.engine r.engine.val).ring k).state = ((s.engine r.engine.val).ring k).state ∧
        ((t.engine r.engine.val).ring k).driving = ((s.engine r.engine.val).ring k).driving ∧
        t.tel = (s.countEngine r.engine.val enWrong).tel ∧ t.out = s.out) ∧
  (∀ (s : State) (r : RingId) (light : Bool), let d := decide (r.kind = .drop)
    let k := ringKey r.fiber.val r.slot.val d
    (((s.engine r.engine.val).ring k).state = .sweeping ∨ ((s.engine r.engine.val).ring k).state = .searching) →
    ∃ t, exec (.ringSearchTimeout r light) s = .next t ∧ t.mem = s.mem ∧ t.out = s.out ∧
      ((t.engine r.engine.val).ring k).state = if d = true ∧ light = false then .waiting else .failed) ∧
  (∀ (s : State) (r : RingId), r.kind = .drop → let k := ringKey r.fiber.val r.slot.val true
    ((s.engine r.engine.val).ring k).state = .waiting →
    ∃ t, exec (.dropRingResearch r) s = .next t ∧ t.mem = s.mem ∧ t.out = s.out ∧
      ((t.engine r.engine.val).ring k).state = (if s.starting r.engine.val = true then .sweeping else .searching) ∧
      ((t.engine r.engine.val).ring k).heater = (if s.starting r.engine.val = true then 0
        else (s.heaterWindow r.engine.val r.fiber.val r.slot.val true).1)) ∧
  (∀ (s : State) (r : RingId) (x : ToneReading), let k := ringKey r.fiber.val r.slot.val (decide (r.kind = .drop))
    ((s.engine r.engine.val).ring k).state = .locked → ((s.engine r.engine.val).ring k).releases < 2 →
    ∃ t, exec (.ringToneRecheck r x) s = .next t ∧ t.mem = s.mem ∧ t.out = s.out ∧
      if (if (s.site r.engine.val).keyTone = true then 60 ≤ x.overOthers ∧ 100 ≤ x.overNoise else x.pattern = true) then
        ((t.engine r.engine.val).ring k).state = .locked ∧
        ((t.engine r.engine.val).ring k).failures = 0
      else if ((s.engine r.engine.val).ring k).failures = 0 then ((t.engine r.engine.val).ring k).state = .locked ∧
        ((t.engine r.engine.val).ring k).failures = 1
      else ((t.engine r.engine.val).ring k).state = .searching ∧ ((t.engine r.engine.val).ring k).driving = false) ∧
  (∀ (s : State) (r : RingId) (j : Nat), let k := ringKey r.fiber.val r.slot.val (decide (r.kind = .drop))
    ((s.engine r.engine.val).ring k).state ≠ .permanent → ((s.engine r.engine.val).ring k).segment < 3 → j < 3 →
    j ≠ ((s.engine r.engine.val).ring k).segment → ((s.engine r.engine.val).ring k).badSegments.contains j = false →
    ∃ t, exec (.heaterSegmentFault r) s = .next t ∧ ((t.engine r.engine.val).ring k).state = .searching ∧
      ((t.engine r.engine.val).ring k).driving = false ∧
      ((t.engine r.engine.val).ring k).segment ≠ ((s.engine r.engine.val).ring k).segment ∧
      ((t.engine r.engine.val).ring k).badSegments.contains ((s.engine r.engine.val).ring k).segment = true)

/-- FF_WORD_PUBLISH by a die beside engines sends the word of its index, sequence and power to each engine of its base die, and
its sequence advances by 1; by any other die it does nothing. FF_WORD_RECEIVE of a word of the engine's own die, at most 400 W
and with a sequence that moved by at most 2, steps the filters of a feed that is not stale; another of the engine's own die
makes the feed stale and its filtered value is held, and the die's power steps are limited. The filter's arithmetic is the
model's choice (log entry 174). FF_FEED_STALE marks the feed and puts the engine on the die governor's list of stale feeds;
FF_FEED_RECOVERED undoes both. (R214, R215, R216.) -/
def Obligations.FeedsPublishedAndJudged : Prop :=
  (∀ (s : State) (d : Die) (p : BitVec 16), ∃ t, exec (.ffWordPublish d p) s = .next t ∧ t.mem = s.mem ∧
    if dieEngines d.val = [] then t = s
    else t.out = s.out ++ (dieEngines d.val).map (fun e => .feedWord (asEngine e)
        (BitVec.ofNat 32 (d.val * 2 ^ 24 + (Store.get 0 s.optics.ffSeq d.val).toNat * 2 ^ 16 + p.toNat))) ∧
      Store.get 0 t.optics.ffSeq d.val = Store.get 0 s.optics.ffSeq d.val + 1) ∧
  (∀ (s : State) (e : EngineIx) (w : W32), let d := field w 24 8
    let f := Store.get Feed.reset (s.engine e.val).feeds d
    d < 12 → (dieEngines d).contains e.val = true → field w 0 16 ≤ 4000 →
    (∀ q, f.seq = some q → (BitVec.ofNat 8 (field w 16 8) - q).toNat ≤ 2) →
    ∃ t, exec (.ffWordReceive e w) s = .next t ∧ t.mem = s.mem ∧ t.out = s.out ∧ t.power = s.power ∧
      let g := { f with seq := some (BitVec.ofNat 8 (field w 16 8)), words := f.words + 1 }
      Store.get Feed.reset (t.engine e.val).feeds d = if f.stale = true then g else g.step (field w 0 16)) ∧
  (∀ (s : State) (e : EngineIx) (w : W32), let d := field w 24 8
    let f := Store.get Feed.reset (s.engine e.val).feeds d
    d < 12 → (dieEngines d).contains e.val = true →
    (4000 < field w 0 16 ∨ ∃ q, f.seq = some q ∧ 2 < (BitVec.ofNat 8 (field w 16 8) - q).toNat) →
    ∃ t, exec (.ffWordReceive e w) s = .next t ∧ t.mem = s.mem ∧ t.out = s.out ∧ (t.governor d).stale.contains e.val = true ∧
      Store.get Feed.reset (t.engine e.val).feeds d = { f with seq := some (BitVec.ofNat 8 (field w 16 8)), words := f.words + 1, stale := true, staleEvents := f.staleEvents + 1 }) ∧
  (∀ (s : State) (e : EngineIx) (d : Die), (dieEngines d.val).contains e.val = true →
    ∃ t, exec (.ffFeedStale e d) s = .next t ∧ t.mem = s.mem ∧ t.out = s.out ∧
      Store.get Feed.reset (t.engine e.val).feeds d.val = { Store.get Feed.reset (s.engine e.val).feeds d.val with stale := true, staleEvents := (Store.get Feed.reset (s.engine e.val).feeds d.val).staleEvents + 1 } ∧
      (t.governor d.val).stale.contains e.val = true) ∧
  (∀ (s : State) (e : EngineIx) (d : Die), ∃ t, exec (.ffFeedRecovered e d) s = .next t ∧ t.mem = s.mem ∧ t.out = s.out ∧
    Store.get Feed.reset (t.engine e.val).feeds d.val = { Store.get Feed.reset (s.engine e.val).feeds d.val with stale := false } ∧
    (t.governor d.val).stale.contains e.val = false)

/-- STATUS_MESSAGE_SEND of an active link reports the margins and each lane's slot; the uncorrectable count is a free value.
STATUS_MESSAGE_RECEIVE counts consecutive reports below 3.0 dB and 1.5 dB per lane and ends the run of a lane above; one whose
halves disagree is counted only. LASER_FADE_THRESHOLD of a lit laser on an engine in service with no migration and a spare
slot plans its migration, and before any link carries traffic replaces and retires the laser at once. MIGRATION_BEGIN tunes a
dark slot's laser, or writes the ledger entry, and a scheduled migration waits for other tuning work of the engine.
TUNABLE_LASER_TUNED on its slot goes on. MIG_OFFER_TIMEOUT offers again, three times in all, and then duplicates on.
MIGRATION_TIMEOUT and LASER_FAILURE retire the laser. (R219, R223, R224, R225, R227, R228, R229, Table 7.4, Table 7.5.) -/
def Obligations.LasersFadeMigrateAndRetire : Prop :=
  (∀ (s : State) (l : LinkIx) (m : List Int), (s.link l.val).state = .active →
    ∃ t, exec (.statusMessageSend l m) s = .next t ∧ t.mem = s.mem ∧ t.optics = s.optics ∧ ∃ x : OptStatus,
      t.out = s.out ++ [.status l x] ∧ x.margins = m ∧ x.ok = true ∧
      x.slots = (List.range 16).map fun i => (s.engine (l.val / 8)).slotOf (s.linkFiber l.val) true i) ∧
  (∀ (s : State) (l : LinkIx) (x : OptStatus), ∃ t, exec (.statusMessageReceive l x) s = .next t ∧
    if x.ok = true then ∀ i < 16, let k := 16 * s.linkFiber l.val + i
      Store.get 0 (t.engine (l.val / 8)).below30 k =
        (if x.margins.getD i 1000 < 30 then Store.get 0 (s.engine (l.val / 8)).below30 k + 1 else 0) ∧
      Store.get 0 (t.engine (l.val / 8)).below15 k =
        (if x.margins.getD i 1000 < 15 then Store.get 0 (s.engine (l.val / 8)).below15 k + 1 else 0)
    else t.optics = s.optics ∧ t.mem = s.mem ∧ t.out = s.out) ∧
  (∀ (s : State) (e : EngineIx) (k : LaserIx) (c : FadeClass) (sl : Nat) (tn : Option Nat), c ≠ .failed →
    s.quiet e.val = false → ((s.engine e.val).laser k.val).lit = true → ((s.engine e.val).laser k.val).retired = false →
    (s.engine e.val).migrations = [] →
    s.chooseSlot e.val (s.fibersOn e.val (((s.engine e.val).laserSlot k.val).getD k.val)) = some (sl, tn) →
    ∃ t, exec (.laserFadeThreshold e k c) s = .next t ∧ t.mem = s.mem ∧ t.out = s.out ∧
      ((t.engine e.val).migrations.map fun m => (m.laser, m.cls, m.slot, m.single, m.tunable, m.begun)) =
        [(k.val, c, sl, false, tn, false)]) ∧
  (∀ (s : State) (e : EngineIx) (k : LaserIx) (c : FadeClass) (sl : Nat) (tn : Option Nat), s.quiet e.val = true →
    ((s.engine e.val).laser k.val).lit = true → ((s.engine e.val).laser k.val).retired = false →
    (s.engine e.val).migrations = [] →
    s.chooseSlot e.val (s.fibersOn e.val (((s.engine e.val).laserSlot k.val).getD k.val)) = some (sl, tn) →
    ∃ t, exec (.laserFadeThreshold e k c) s = .next t ∧ ((t.engine e.val).laser k.val).retired = true ∧
      ((t.engine e.val).laser k.val).lit = false ∧ (t.engine e.val).migrations = []) ∧
  (∀ (s : State) (e : EngineIx) (k : LaserIx) (m : Migration), (s.engine e.val).migrations = [m] → m.laser = k.val →
    m.begun = false → (∀ x, m.tunable = some x → 16 ≤ x) → (m.cls = .scheduled → (s.engine e.val).tuning = false) →
    ∃ t, exec (.migrationBegin e k) s = .next t ∧
      match m.tunable with
      | some x => (t.engine e.val).migrations = [{ m with begun := true }] ∧ ((t.engine e.val).laser x).lit = true ∧
          ((t.engine e.val).laser x).slot = some m.slot
      | none => (t.engine e.val).migrations.map (fun y => (y.laser, y.slot, y.begun, y.ledgered)) = [(m.laser, m.slot, true, true)]) ∧
  (∀ (s : State) (e : EngineIx) (k : LaserIx), (∀ m ∈ (s.engine e.val).migrations, m.cls = .scheduled) →
    (s.engine e.val).tuning = true → exec (.migrationBegin e k) s = .next s) ∧
  (∀ (s : State) (e : EngineIx) (k : LaserIx) (m : Migration) (f : Int), (s.engine e.val).migrations = [m] →
    m.tunable = some k.val → m.begun = true → m.ledgered = false → -10 ≤ f → f ≤ 10 →
    ∃ t, exec (.tunableLaserTuned e k f true) s = .next t ∧
      (t.engine e.val).migrations.map (fun y => (y.laser, y.slot, y.begun, y.ledgered)) = [(m.laser, m.slot, true, true)]) ∧
  (∀ (s : State) (l : LinkIx) (i : LaneIx) (m : Migration) (p : MigFiber) (n : Nat),
    (s.engine (l.val / 8)).migrations = [m] → m.ledgered = true → m.fibers = [p] → p.fiber = s.linkFiber l.val →
    p.lane = i.val → p.stage = .offered n →
    ∃ t, exec (.migOfferTimeout l i) s = .next t ∧ t.mem = s.mem ∧
      (t.engine (l.val / 8)).migrations = [setStageOf p.fiber (if n < 3 then .offered (n + 1) else .duplicating) m]) ∧
  (∀ (s : State) (e : EngineIx) (k : LaserIx) (m : Migration),
    ((s.engine e.val).migrations.find? fun x => x.laser = k.val && x.begun && !x.single) = some m →
    ∃ t, exec (.migrationTimeout e k) s = .next t ∧ ((t.engine e.val).laser k.val).retired = true) ∧
  (∀ (s : State) (e : EngineIx) (k : LaserIx), ((s.engine e.val).laser k.val).lit = true →
    ∃ t, exec (.laserFailure e k) s = .next t ∧ ((t.engine e.val).laser k.val).retired = true)

/-- MIG_OFFER_RECEIVE locks the drop ring of the new slot and holds the offer, or refuses where that ring is permanent.
MIGRATION_COMPARE_COMPLETE with codewords that are identical wherever both decode, none of the new slot's uncorrectable, and
3.0 dB (or, when urgent, a better margin than the old slot's) switches the receive lane to the new slot and accepts with the
count of units taken; otherwise it refuses with q = 0 and the lane stays. MIG_DONE_RECEIVE that accepts moves the transmit
lane, and while other fibers are unanswered the migration goes on. LANE_REQ_RECEIVE with no spare slot is refused; with one
the lane's move begins. (R217, R225, R226, R231, R232, Table 7.6.) -/
def Obligations.OffersComparedAndAnswered : Prop :=
  (∀ (s : State) (l : LinkIx) (i : LaneIx) (a b : SlotIx), let e := l.val / 8
    let f := s.linkFiber l.val
    ∃ t, exec (.migOfferReceive l i a b true) s = .next t ∧ t.mem = s.mem ∧
      if ((s.engine e).ring (ringKey f b.val true)).state = .permanent then t.out.getLast? = some (.migDone l i.val b.val false 0)
      else ((t.engine e).ring (ringKey f b.val true)).state = .locked ∧ (t.engine e).offers.getLast? = some (f, i.val, b.val) ∧
        t.out = s.out) ∧
  (∀ (s : State) (l : LinkIx) (i : LaneIx) (pairs : List (List Sym × List Sym)) (new old : Int) (u : Bool) (sl : Nat), let e := l.val / 8
    let f := s.linkFiber l.val
    ((s.engine e).offers.find? fun o => o.1 = f && decide (o.2.1 = i.val)) = some (f, i.val, sl) →
    ∃ t, exec (.migrationCompareComplete l i pairs new old u) s = .next t ∧ t.mem = s.mem ∧
      if sameCodewords pairs = true ∧ uncorrectables (pairs.map fun p => p.1) = 0 ∧ (30 ≤ new ∨ (u = true ∧ old < new)) then
        t.out = s.out ++ [.migDone l i.val sl true (s.link l.val).taken] ∧ (t.engine e).slotOf f true i.val = sl
      else t.out = s.out ++ [.migDone l i.val sl false 0] ∧
        (t.engine e).slotOf f true i.val = (s.engine e).slotOf f true i.val) ∧
  (∀ (s : State) (l : LinkIx) (i : LaneIx) (b : SlotIx) (q : W32) (m : Migration) (p r : MigFiber), let e := l.val / 8
    let f := s.linkFiber l.val
    (s.engine e).migrations = [m] → m.slot = b.val → m.ledgered = true → m.fibers = [p, r] → p.fiber = f → p.lane = i.val →
    p.stage = .offered 1 → r.fiber ≠ f → r.stage = .offered 1 →
    ∃ t, exec (.migDoneReceive l i b true q true) s = .next t ∧ t.mem = s.mem ∧ t.out = s.out ∧
      (t.engine e).slotOf f false i.val = b.val ∧ (t.engine e).migrations = [setStageOf f (.accepted q) m]) ∧
  (∀ (s : State) (l : LinkIx) (i : LaneIx), let e := l.val / 8
    let f := s.linkFiber l.val
    ∃ t, exec (.laneReqReceive l i true) s = .next t ∧
      match s.chooseSlot e [f] with
      | none => t.mem = s.mem ∧ t.out = s.out ++ [.migDone l i.val ((s.engine e).slotOf f false i.val) false 0]
      | some (sl, _) => ∃ m ∈ (t.engine e).migrations, m.single = true ∧ m.slot = sl)

/-- MARGIN_TEST_COMPLETE of a link that waits for its optics, waits or is DOWN with no failing transmit lane, or unmargined,
publishes the fiber's result, drops the receive lanes that failed, and sends TRAIN; a transmit lane that fails takes a
substitute slot, to be tested before the result is published, or is dropped. FIBER_DARK with twelve or more dark lanes
declares the fiber permanent, and opens F8 where it may stand in; with fewer it does nothing. ATTENUATOR_SHUT shuts the
fiber's transmit light, ATTENUATOR_PROBE sends a probe on a shut fiber, FIBER_LIGHT_RETURN opens it, neither for an idle F8.
CARTRIDGE_PRESENCE_LOSS and CARTRIDGE_BLOCK_OVERTEMP leave every laser of the cartridge's four engines dark.
CARTRIDGE_PRESENCE_GAIN makes the cartridge present, its words agreeing or not, and lights nothing. (R220, R221, R222, R233,
R234, R235, R236, R400.) -/
def Obligations.FibersAndCartridges : Prop :=
  (∀ (s : State) (l : LinkIx) (tx rx : List LaneMargin),
    ((s.link l.val).state = .optical ∨ (s.link l.val).state = .waiting ∨ (s.link l.val).state = .down) →
    (s.unmargined (l.val / 8) (s.linkFiber l.val) = true ∨ failingLanes tx = []) →
    ∃ t, exec (.marginTestComplete l tx rx) s = .next t ∧ (t.engine (l.val / 8)).tested.contains (s.linkFiber l.val) = true ∧
      (s.unmargined (l.val / 8) (s.linkFiber l.val) = false → ∀ i ∈ failingLanes rx,
        (t.engine (l.val / 8)).dropped.contains (laneKey (s.linkFiber l.val) true i) = true) ∧
      ∃ w m, t.out.getLast? = some (.train l w m)) ∧
  (∀ (s : State) (l : LinkIx) (tx : List LaneMargin) (i : Nat), let e := l.val / 8
    let f := s.linkFiber l.val
    ((s.link l.val).state = .optical ∨ (s.link l.val).state = .waiting ∨ (s.link l.val).state = .down) →
    s.unmargined e f = false → failingLanes tx = [i] → (s.engine e).dropped.contains (laneKey f false i) = false →
    ∃ t, exec (.marginTestComplete l tx []) s = .next t ∧
      match s.chooseSlot e [f] with
      | none => (t.engine e).dropped.contains (laneKey f false i) = true ∧ (t.engine e).tested.contains f = true
      | some (slot, _) => slot ≠ (s.engine e).slotOf f false i →
        (s.engine e).failedSlots.contains (laneKey f false i, slot) = false →
        (t.engine e).slotOf f false i = slot ∧ (t.engine e).tested = (s.engine e).tested) ∧
  (∀ (s : State) (e : EngineIx) (f : FiberIx) (n : Nat) (light : Bool), n < 12 → exec (.fiberDark e f n light) s = .next s) ∧
  (∀ (s : State) (e : EngineIx) (f : FiberIx) (n : Nat) (light : Bool), 12 ≤ n →
    (s.engine e.val).deadFibers.contains f.val = false → ∃ t, exec (.fiberDark e f n light) s = .next t ∧
      (t.engine e.val).deadFibers.contains f.val = true ∧ t.faults.padlocked.contains (fiberChan e.val f.val) = true ∧
      ∀ l, s.fiberLink e.val f.val = some l → f.val < 8 → light = true → (s.engine e.val).f8Spare = true →
        (s.site e.val).spareFiber = true → (s.engine e.val).f8For = none → (s.engine e.val).deadFibers.contains 8 = false →
        (s.engine e.val).f8Peer = (s.link l).peer.moduleId → (t.engine e.val).f8For = some f.val) ∧
  (∀ (s : State) (e : EngineIx) (f : FiberIx), ∃ t, exec (.attenuatorShut e f) s = .next t ∧ t.mem = s.mem ∧ t.out = s.out ∧
    (t.engine e.val).shut.contains f.val = true) ∧
  (∀ (s : State) (e : EngineIx) (f : FiberIx), (s.engine e.val).shut.contains f.val = true →
    (s.engine e.val).idleF8 f.val = false → exec (.attenuatorProbe e f) s = .next (s.emit (.probeLight e f))) ∧
  (∀ (s : State) (e : EngineIx) (f : FiberIx), (s.engine e.val).idleF8 f.val = false →
    ∃ t, exec (.fiberLightReturn e f) s = .next t ∧ t.mem = s.mem ∧ t.out = s.out ∧
      (t.engine e.val).shut.contains f.val = false) ∧
  (∀ (s : State) (e : EngineIx) (f : FiberIx), (s.engine e.val).idleF8 f.val = true →
    exec (.attenuatorProbe e f) s = .next s ∧ exec (.fiberLightReturn e f) s = .next s) ∧
  (∀ (s : State) (c : Fin 2), (s.cart c.val).present = true → ∃ t, exec (.cartridgePresenceLoss c) s = .next t ∧
    (t.cart c.val).present = false ∧ ∀ j < 4, ∀ k, ((t.engine (4 * c.val + j)).laser k).lit = false) ∧
  (∀ (s : State) (c : Fin 2) (n : W64) (ok : Bool), (s.cart c.val).present = false →
    ∃ t, exec (.cartridgePresenceGain c n ok) s = .next t ∧
    (t.cart c.val).present = true ∧ (t.cart c.val).serial = n ∧ (t.cart c.val).wordsOk = ok ∧ (t.cart c.val).read = false ∧
    t.optics.engines = s.optics.engines ∧ t.mem = s.mem) ∧
  (∀ (s : State) (c : Fin 2), (s.cart c.val).present = true → (s.cart c.val).overtemp = false →
    ∃ t, exec (.cartridgeBlockOvertemp c) s = .next t ∧ (t.cart c.val).overtemp = true ∧
      ∀ j < 4, ∀ k, ((t.engine (4 * c.val + j)).laser k).lit = false)

/-- On an ACTIVE link, FLOW_UNIT_RECEIVE of a data unit that matches prefix e, is not malformed, and whose tag is good where it is
encrypted, is accepted: e advances by 1. An idle or NAK unit that matches prefix 0xF000 and is not malformed is accepted and e
stays. Every other unit is discarded: a data unit that does not match e, one that matches 0xF000 only, a control unit, a
malformed unit and one whose tag fails or whose key slot is empty; e, the acknowledged sequence, the replay buffer, the xoff
state and the count of units taken stay as they were. (R245.) -/
def Obligations.UnitsAcceptedInOrder : Prop :=
  (∀ (s : State) (l : LinkIx) (u : FlowUnit) (tag : Bool), (s.link l.val).state = .active → uKind (unitHead u) = 0 →
    checks u ((s.link l.val).e.setWidth 16) = true → malformed (unitHead u) = false →
    (uEnc (unitHead u) = true → tag = true ∧ ((s.link l.val).rxKey (uSlot (unitHead u))).isSome = true) →
    ∃ t, exec (.flowUnitReceive l u tag) s = .next t ∧ (t.link l.val).e = (s.link l.val).e + 1 ∧
      (t.link l.val).taken = (s.link l.val).taken + 1 ∧ (t.link l.val).nakSent = false ∧ t.mem = s.mem) ∧
  (∀ (s : State) (l : LinkIx) (u : FlowUnit) (tag : Bool), (s.link l.val).state = .active →
    (uKind (unitHead u) = 1 ∨ uKind (unitHead u) = 2) → checks u 0xF000 = true → malformed (unitHead u) = false →
    ∃ t, exec (.flowUnitReceive l u tag) s = .next t ∧ (t.link l.val).e = (s.link l.val).e ∧
      (t.link l.val).taken = (s.link l.val).taken + 1 ∧ t.mem = s.mem) ∧
  (∀ (s : State) (l : LinkIx) (u : FlowUnit) (tag : Bool), (s.link l.val).state = .active →
    ((uKind (unitHead u) = 0 ∧ checks u ((s.link l.val).e.setWidth 16) = false) ∨
     (uKind (unitHead u) ≠ 0 ∧ checks u 0xF000 = false) ∨ uKind (unitHead u) = 3 ∨ malformed (unitHead u) = true ∨
     (uKind (unitHead u) = 0 ∧ uEnc (unitHead u) = true ∧
       (tag = false ∨ ((s.link l.val).rxKey (uSlot (unitHead u))).isNone = true))) →
    ∃ t, exec (.flowUnitReceive l u tag) s = .next t ∧ (t.link l.val).e = (s.link l.val).e ∧
      (t.link l.val).a = (s.link l.val).a ∧ (t.link l.val).replay = (s.link l.val).replay ∧
      (t.link l.val).xoff = (s.link l.val).xoff ∧ (t.link l.val).taken = (s.link l.val).taken)

/-- On an ACTIVE link: NAK_RECEIVE of a sequence outside the window leaves the replay buffer; inside it, everything below is
acknowledged, and unless it answers a replay under way the units from it on are sent again; the ninth NAK for one sequence
starts a full retrain. NAK_RESEND_TIMEOUT sends an outstanding NAK again. ACK_TIMER sends e − 1 and stops the timer.
NO_ACCEPT_TIMEOUT marks every VC XOFF. ENCRYPTED_KEEPALIVE on an encrypting link with nothing queued, an open window and
credit sends one unit. LINK_IDLE_TIMEOUT starts a full retrain. The words of a unit dealt over the active lanes are collected
again as they were, and outside ACTIVE the first good copy of a control unit is taken, and a unit with none is discarded.
(R243, R246, R247, R249, R250, R255, R263, R275.) -/
def Obligations.NaksReplayAndAcksGoOut : Prop :=
  (∀ (s : State) (l : LinkIx) (q : BitVec 12) (w : Bool), (s.link l.val).state = .active → (s.link l.val).inWindow q = false →
    ∃ t, exec (.nakReceive l q w) s = .next t ∧ t.out = s.out ∧ t.mem = s.mem ∧ t.link l.val = s.link l.val) ∧
  (∀ (s : State) (l : LinkIx) (q : BitVec 12) (w : Bool), (s.link l.val).state = .active → (s.link l.val).inWindow q = true →
    ∃ t, exec (.nakReceive l q w) s = .next t ∧ (t.link l.val).a = q) ∧
  (∀ (s : State) (l : LinkIx) (q : BitVec 12) (u : TxUnit) (us : List TxUnit), (s.link l.val).state = .active →
    (s.link l.val).inWindow q = true → q ≠ (s.link l.val).n → (s.link l.val).naks < 8 →
    (s.link l.val).replay.drop (q - (s.link l.val).a).toNat = u :: us →
    ∃ t, exec (.nakReceive l q false) s = .next t ∧ ∃ b w, .unit l q b w ∈ t.out) ∧
  (∀ (s : State) (l : LinkIx) (q : BitVec 12), (s.link l.val).state = .active → (s.link l.val).inWindow q = true →
    q ≠ (s.link l.val).n → (s.link l.val).naks = 8 → (s.link l.val).nakFrom = q →
    ∃ t, exec (.nakReceive l q false) s = .next t ∧ (t.link l.val).state = .retrain ∧ (t.link l.val).kind = .full) ∧
  (∀ (s : State) (l : LinkIx), (s.link l.val).state = .active → (s.link l.val).nakSent = true →
    ∃ t, exec (.nakResendTimeout l) s = .next t ∧ t.out = s.out ++ [.nak l (s.link l.val).e] ∧
      t.link l.val = { s.link l.val with sentWords := (s.link l.val).sentWords + 32 } ∧ t.mem = s.mem) ∧
  (∀ (s : State) (l : LinkIx), (s.link l.val).state = .active → (s.link l.val).timing = true →
    ∃ t, exec (.ackTimer l) s = .next t ∧ t.out = s.out ++ [.ack l ((s.link l.val).e - 1)] ∧ t.mem = s.mem ∧
      t.link l.val = { s.link l.val with unacked := 0, timing := false, sentWords := (s.link l.val).sentWords + 32 }) ∧
  (∀ (s : State) (l : LinkIx), (s.link l.val).state = .active →
    ∃ t, exec (.noAcceptTimeout l) s = .next t ∧ t.out = s.out ∧ t.mem = s.mem ∧
      t.link l.val = { s.link l.val with xoff := 0xFF }) ∧
  (∀ (s : State) (l : LinkIx), (s.link l.val).state = .active → (s.link l.val).encrypt = true → (s.link l.val).queue = [] →
    (s.link l.val).moved = false → (s.link l.val).open_ < 1024 → ((s.link l.val).permit 0).isSome = true →
    ∃ t, exec (.encryptedKeepalive l) s = .next t ∧ (t.link l.val).n = (s.link l.val).n + 1 ∧ t.mem = s.mem ∧
      (t.link l.val).sentWords = (s.link l.val).sentWords + 32 ∧
      ∃ b, t.out = s.out ++ [.unit l (s.link l.val).n b (dealWords (s.link l.val).txWidth (s.link l.val).sentWords (unitWords b))]) ∧
  (∀ (s : State) (l : LinkIx), (s.link l.val).state = .active →
    ∃ t, exec (.linkIdleTimeout l) s = .next t ∧ (t.link l.val).state = .retrain ∧ (t.link l.val).kind = .full ∧
      (t.link l.val).round = (s.link l.val).round + 1 ∧ ∃ w m, t.out.getLast? = some (.train l w m)) ∧
  (∀ (mask : BitVec 16) (j : Nat) (ws : List W64),
    collectWords mask j (laneWords (dealWords mask j ws)) ws.length = ws) ∧
  (∀ (s : State) (l : LinkIx) (u : FlowUnit) (tag : Bool), (s.link l.val).state ≠ .active →
    match firstCopy u with
    | none => exec (.flowUnitReceive l u tag) s = .next (s.countLink l.val lnCrc 1)
    | some c => malformed (unitHead c) = false → exec (.flowUnitReceive l u tag) s = .next s)

/-- LINK_WIDTH_CHANGE starts a short retrain of an ACTIVE link whose lanes change. RETRAIN_MESSAGE joins a retrain. TRAIN_MESSAGE
from another module with the same encryption and keys and at most 768 units of round trip makes the leader send OPEN with at
least four lanes each way, and the follower TRAIN. OPEN_MESSAGE and OPEN_ECHO_MESSAGE that agree enter ACTIVE; otherwise, and
at TRAIN_ROUND_TIMEOUT, the round disagrees and, before the third, TRAIN is sent again. TRAIN_REPEAT and DOWN_TRAINING_ATTEMPT
send TRAIN. RETRAIN_LIMIT_MISS starts a full retrain the first time and takes the link DOWN the second. ACTIVE_STABLE_TIMER
clears the count. LINK_WAIT_REPORT_TIMEOUT reports a waiting link. (R257, R258, R259, R260, R262, R263, R264, R266, R270.) -/
def Obligations.TrainingAgreesOrStartsAfresh : Prop :=
  (∀ (s : State) (l : LinkIx) (tx rx : BitVec 16), (s.link l.val).state = .active →
    ¬((s.link l.val).txLanes = tx ∧ (s.link l.val).rxLanes = rx) →
    ∃ t, exec (.linkWidthChange l tx rx) s = .next t ∧ (t.link l.val).state = .retrain ∧ (t.link l.val).kind = .short ∧
      (t.link l.val).txLanes = tx ∧ (t.link l.val).rxLanes = rx) ∧
  (∀ (s : State) (l : LinkIx) (k : RetrainKind) (p : ModId) (i : Byte) (r : Nat), (s.link l.val).state = .active →
    ∃ t, exec (.retrainMessage l k p i r true) s = .next t ∧ (t.link l.val).state = .retrain ∧ (t.link l.val).kind = k ∧
      (t.link l.val).leader = s.leads l.val p i none) ∧
  (∀ (s : State) (l : LinkIx) (m : TrainMsg), m.ok = true → (s.link l.val).trains = true →
    m.serial ≠ Store.get 0 s.keeper.serials 0 → m.encrypt = (s.link l.val).encrypt →
    (m.encrypt = true → m.keyIds = (s.link l.val).keyIds.reverse) → rtuOf m.rttNs ≤ 768 →
    4 ≤ (setBits ((s.link l.val).txLanes &&& m.rxMask)).length → 4 ≤ (setBits ((s.link l.val).rxLanes &&& m.txMask)).length →
    ∃ t, exec (.trainMessage l m) s = .next t ∧ t.mem = s.mem ∧ (t.link l.val).train = some m ∧
      if s.leads l.val m.moduleId m.linkIx (some m.serial) = true then
        ∃ w o, t.out = s.out ++ [.linkOpen l w o] ∧ (t.link l.val).openSent = some o ∧ openWide o = true
      else ∃ w x, t.out = s.out ++ [.train l w x] ∧ (t.link l.val).round = m.round) ∧
  (∀ (s : State) (l : LinkIx) (m : TrainMsg), m.ok = false → exec (.trainMessage l m) s = .next (s.countLink l.val 26 1)) ∧
  (∀ (s : State) (l : LinkIx) (o : OpenMsg) (m : TrainMsg), o.ok = true → (s.link l.val).train = some m →
    (s.link l.val).trains = true → (s.link l.val).leader = false →
    ∃ t, exec (.openMessage l o) s = .next t ∧ .openEcho l (s.link l.val).txLanes (s.openMsg l.val m) ∈ t.out ∧
      if openAgrees (s.openMsg l.val m) o = true ∧ openWide (s.openMsg l.val m) = true then
        (t.link l.val).state = (if 768 < max o.rtu (s.openMsg l.val m).rtu then (s.link l.val).state else .active)
      else (s.link l.val).disagreed < 2 → (t.link l.val).state = (s.link l.val).state ∧
        (t.link l.val).disagreed = (s.link l.val).disagreed + 1) ∧
  (∀ (s : State) (l : LinkIx) (o p : OpenMsg), p.ok = true → (s.link l.val).openSent = some o →
    (s.link l.val).trains = true → (s.link l.val).leader = true →
    ∃ t, exec (.openEchoMessage l p) s = .next t ∧
      if openAgrees o p = true then
        (t.link l.val).state = (if 768 < max o.rtu p.rtu then (s.link l.val).state else .active)
      else (s.link l.val).disagreed < 2 → (t.link l.val).state = (s.link l.val).state ∧
        (t.link l.val).disagreed = (s.link l.val).disagreed + 1) ∧
  (∀ (s : State) (l : LinkIx), (s.link l.val).trains = true → (s.link l.val).train.isSome = true →
    (s.link l.val).disagreed < 2 → ∃ t, exec (.trainRoundTimeout l) s = .next t ∧ t.mem = s.mem ∧
      (t.link l.val).disagreed = (s.link l.val).disagreed + 1 ∧ (t.link l.val).round = (s.link l.val).round + 1 ∧
      ∃ w m, t.out = s.out ++ [.train l w m]) ∧
  (∀ (s : State) (l : LinkIx), ((s.link l.val).state = .waiting ∨ (s.link l.val).state = .retrain) →
    exec (.trainRepeat l) s = .next (s.emit (.train l (s.link l.val).txLanes (s.trainMsg l.val)))) ∧
  (∀ (s : State) (l : LinkIx), (s.link l.val).state = .down →
    exec (.downTrainingAttempt l true) s = .next (s.emit (.train l (s.link l.val).txLanes (s.trainMsg l.val)))) ∧
  (∀ (s : State) (l : LinkIx), (s.link l.val).state = .retrain → ∃ t, exec (.retrainLimitMiss l) s = .next t ∧
    if (s.link l.val).failed = 0 then (t.link l.val).state = .retrain ∧ (t.link l.val).kind = .full ∧ (t.link l.val).failed = 1
    else (t.link l.val).state = .down) ∧
  (∀ (s : State) (l : LinkIx), (s.link l.val).state = .active →
    ∃ t, exec (.activeStableTimer l) s = .next t ∧ t.link l.val = { s.link l.val with failed := 0 } ∧ t.out = s.out ∧
      t.mem = s.mem) ∧
  (∀ (s : State) (l : LinkIx), (s.link l.val).state = .waiting → (s.link l.val).waitReported = false →
    ∃ t, exec (.linkWaitReportTimeout l) s = .next t ∧ t.link l.val = { s.link l.val with waitReported := true })

/-- LINK_LOST_RECEIVE on a DOWN link that is neither moved nor held moves its units to its usable twin and leaves it empty, or
holds it where there is none; LINK_LOST_TIMEOUT without the peer's message holds it. KEY_SLOT_SWITCH to a slot that holds a
key uses it from then on, with a count of 0 units, and to an empty slot does nothing. KEY_USE_THRESHOLD asks for new keys at
2^47 units, takes the link DOWN at 2^48, and below does nothing. (R267, R268, R273, R277, Table 8.9.) -/
def Obligations.DownLinksMoveOrHoldAndKeysRotate : Prop :=
  (∀ (s : State) (l : LinkIx) (q : BitVec 12), (s.link l.val).state = .down → (s.link l.val).moved = false →
    (s.link l.val).held = false → ∃ t, exec (.linkLostReceive l q) s = .next t ∧ t.mem = s.mem ∧
      match s.usableTwin l.val with
      | none => (t.link l.val).held = true ∧ t.out = s.out ++ [.notice (.linkHeld l)] ∧
          (t.link l.val).replay = (s.link l.val).replay ∧ (t.link l.val).queue = (s.link l.val).queue
      | some x => x ≠ l → (t.link l.val).moved = true ∧ (t.link l.val).replay = [] ∧ (t.link l.val).queue = [] ∧
          (t.link l.val).restart = true) ∧
  (∀ (s : State) (l : LinkIx), (s.link l.val).state = .down → (s.link l.val).moved = false → (s.link l.val).held = false →
    (s.link l.val).lostReceived = none → ∃ t, exec (.linkLostTimeout l) s = .next t ∧ (t.link l.val).held = true ∧
      t.mem = s.mem ∧ t.out = s.out ++ [.notice (.linkHeld l)]) ∧
  (∀ (s : State) (l : LinkIx), ((s.link l.val).txKey ((s.link l.val).txSlot + 1)).isSome = true →
    ∃ t, exec (.keySlotSwitch l true) s = .next t ∧ (t.link l.val).txSlot = (s.link l.val).txSlot + 1 ∧
      (t.link l.val).underKey = 0 ∧ t.out = s.out ∧ t.mem = s.mem) ∧
  (∀ (s : State) (l : LinkIx), ((s.link l.val).txKey ((s.link l.val).txSlot + 1)).isSome = false →
    exec (.keySlotSwitch l true) s = .next s) ∧
  (∀ (s : State) (l : LinkIx), ((s.link l.val).rxKey ((s.link l.val).rxSlot + 1)).isSome = true →
    ∃ t, exec (.keySlotSwitch l false) s = .next t ∧ t.link l.val = { s.link l.val with rxSlot := (s.link l.val).rxSlot + 1 }) ∧
  (∀ (s : State) (l : LinkIx), 2 ^ 48 ≤ (s.link l.val).underKey → (s.link l.val).state = .active →
    ∃ t, exec (.keyUseThreshold l) s = .next t ∧ (t.link l.val).state = .down) ∧
  (∀ (s : State) (l : LinkIx), 2 ^ 47 ≤ (s.link l.val).underKey → (s.link l.val).underKey < 2 ^ 48 →
    (s.link l.val).rotation = false → ∃ t, exec (.keyUseThreshold l) s = .next t ∧ t.mem = s.mem ∧
      t.out = s.out ++ [.notice (.keyRotate l)] ∧ t.link l.val = { s.link l.val with rotation := true }) ∧
  (∀ (s : State) (l : LinkIx), (s.link l.val).underKey < 2 ^ 47 → exec (.keyUseThreshold l) s = .next s)

/-- UNIT_FORWARD of a message for another module with a valid forwarding entry and hops below 15 sends the same message, its hops
raised by 1 and nothing else changed, on the member that the entry gives, and changes no memory, tumbler or context. With hops
15, or with no forwarding entry, nothing is forwarded: the fabric manager is told of the route fault, and a READ, WRITE or
ATOMIC is answered UNREACHABLE on the link toward its source where one is known. A message for this module with an opcode of
Table 9.3 is left to its own row. A module without an ID discards what arrives and sends nothing. (R282, R289, R290, R293,
Table 9.3.) -/
def Obligations.UnitsForwardedOrDiscarded : Prop :=
  (∀ (s : State) (l k : LinkIx) (m : DomMsg), s.domain.id.isSome = true → m.destModule ≠ s.moduleId → m.hops ≠ 15 →
    s.forwardLink m.srcModule m.ctx m.destModule = some k →
    ∃ t, exec (.unitForward l m) s = .next t ∧ .message k { m with hops := m.hops + 1 } ∈ t.out.drop s.out.length ∧
      t.mem = s.mem ∧ t.compute = s.compute ∧ t.ops = s.ops) ∧
  (∀ (s : State) (l : LinkIx) (m : DomMsg), s.domain.id.isSome = true → m.destModule ≠ s.moduleId →
    (m.hops = 15 ∨ s.forwardLink m.srcModule m.ctx m.destModule = none) →
    ∃ t, exec (.unitForward l m) s = .next t ∧ .notice (.routeFault m.destModule m.hops.toNat) ∈ t.out.drop s.out.length ∧
      (∀ k, .message k { m with hops := m.hops + 1 } ∉ t.out.drop s.out.length) ∧
      ∀ k o, unreachableAnswer m.opcode = some o → s.forwardLink s.moduleId m.ctx m.srcModule = some k →
        ∃ a, .message k a ∈ t.out.drop s.out.length ∧ a.opcode = o ∧ a.status = 5 ∧ a.tag = m.tag ∧ a.ctx = m.ctx ∧
          a.gen = m.gen ∧ a.destModule = m.srcModule) ∧
  (∀ (s : State) (l : LinkIx) (m : DomMsg), s.domain.id.isSome = true → m.destModule = s.moduleId →
    (opcodeVc m.opcode).isSome = true → exec (.unitForward l m) s = .next s) ∧
  (∀ (s : State) (l : LinkIx) (m : DomMsg), s.domain.id = none →
    ∃ t, exec (.unitForward l m) s = .next t ∧ t.out = s.out ∧ t.mem = s.mem ∧ t.ops = s.ops ∧ t.compute = s.compute)

/-- At its target, with a route back, READ_MESSAGE is answered with READ_DATA, WRITE_MESSAGE with WRITE_ACK and ATOMIC_MESSAGE
with ATOMIC_RESP, each with the tag, context and generation of its request. The status is 1 where the target context is not
Open or its generation differs, else 2 without domain access, else 3 outside its regions, and then no memory changes. A READ
that passes gets the bytes read, or status 4 with poison set and no data where a line is poisoned. A READ of which a part is
unmapped or withdrawn gets all ones. A WRITE within one line, wholly covering it or unpoisoned, leaves its bytes written and
every other byte as it was, and an ATOMIC on an aligned word of an unpoisoned line stores what Table 5.4 gives, each in an
area that a peer may write. A module without an ID discards the message. (R135, R293, R294, R144, R148, R149, R158, R282,
Table 9.4.) -/
def Obligations.TargetsCheckAndServeRequests : Prop :=
  (∀ (s : State) (l k : LinkIx) (m : DomMsg), m.opcode = dmRead → s.domain.id = some m.destModule → s.isStraggler m = false →
    s.forwardLink m.destModule m.ctx m.srcModule = some k → s.badPlace m.offset.toNat m.length = none →
    ∃ t a, exec (.readMessage l m) s = .next t ∧ .message k a ∈ t.out.drop s.out.length ∧ a.opcode = dmReadData ∧
      a.tag = m.tag ∧ a.ctx = m.ctx ∧ a.gen = m.gen ∧ a.destModule = m.srcModule ∧
      let c := s.context m.targetCtx.val
      if c.state ≠ .opened ∨ m.targetGen ≠ c.gen then a.status = 1 ∧ a.data = [] ∧ t.mem = s.mem
      else if c.domain = false then a.status = 2 ∧ a.data = [] ∧ t.mem = s.mem
      else if inRegions c.regions m.offset.toNat m.length = false then a.status = 3 ∧ a.data = [] ∧ t.mem = s.mem
      else if s.poisonLines m.offset.toNat m.length = [] then a.status = 0 ∧ a.poison = false ∧
        a.data = (s.load m.offset.toNat m.length).1 ∧ t.mem = s.mem ∧ t.compute = s.compute ∧ t.ops = s.ops
      else a.status = 4 ∧ a.poison = true ∧ a.data = []) ∧
  (∀ (s : State) (l k : LinkIx) (m : DomMsg) (h o : Nat), m.opcode = dmWrite → s.domain.id = some m.destModule →
    s.isStraggler m = false → s.forwardLink m.destModule m.ctx m.srcModule = some k →
    m.data ≠ [] → m.offset.toNat % 64 + m.data.length ≤ 64 → s.place m.offset.toNat = .cell h o →
    o + m.data.length ≤ 0x10000000000 → (m.data.length = 64 ∨ (m.poison = false ∧ s.poisoned h o = false)) →
    ∃ t a, exec (.writeMessage l m) s = .next t ∧ .message k a ∈ t.out.drop s.out.length ∧ a.opcode = dmWriteAck ∧
      a.tag = m.tag ∧ a.ctx = m.ctx ∧ a.gen = m.gen ∧ a.destModule = m.srcModule ∧
      let c := s.context m.targetCtx.val
      if c.state ≠ .opened ∨ m.targetGen ≠ c.gen then a.status = 1 ∧ t.mem = s.mem
      else if c.domain = false then a.status = 2 ∧ t.mem = s.mem
      else if inRegions c.regions m.offset.toNat m.data.length = false then a.status = 3 ∧ t.mem = s.mem
      else a.status = 0 ∧ (s.protectedAt (.peer m.srcModule m.targetCtx m.targetGen) m.offset.toNat m.data.length = none →
        t.bytes h o m.data.length = m.data ∧ (m.data.length = 64 → t.poisoned h o = m.poison) ∧
        t.compute = s.compute ∧ t.ops = s.ops ∧
        ∀ home off, off < 0x10000000000 → home ≠ h ∨ off < o ∨ o + m.data.length ≤ off → t.byte home off = s.byte home off)) ∧
  (∀ (s : State) (l k : LinkIx) (m : DomMsg), m.opcode = dmRead → s.domain.id = some m.destModule → s.isStraggler m = false →
    s.forwardLink m.destModule m.ctx m.srcModule = some k → s.badPlace m.offset.toNat m.length ≠ none →
    (s.context m.targetCtx.val).state = .opened → m.targetGen = (s.context m.targetCtx.val).gen →
    (s.context m.targetCtx.val).domain = true →
    inRegions (s.context m.targetCtx.val).regions m.offset.toNat m.length = true →
    ∃ t a, exec (.readMessage l m) s = .next t ∧ .message k a ∈ t.out.drop s.out.length ∧ a.opcode = dmReadData ∧
      a.tag = m.tag ∧ a.status = 0 ∧ a.poison = false ∧ a.data = List.replicate m.length 0xFF) ∧
  (∀ (s : State) (l k : LinkIx) (m : DomMsg) (op : AtomicOp) (h o : Nat), m.opcode = dmAtomic →
    s.domain.id = some m.destModule → s.isStraggler m = false → s.forwardLink m.destModule m.ctx m.srcModule = some k →
    messageOp m = some op → m.offset.toNat % atomicBytes op = 0 → s.place m.offset.toNat = .cell h o →
    s.poisoned h o = false → o + 8 ≤ 0x10000000000 →
    ∃ t a, exec (.atomicMessage l m) s = .next t ∧ .message k a ∈ t.out.drop s.out.length ∧ a.opcode = dmAtomicResp ∧
      a.tag = m.tag ∧ a.ctx = m.ctx ∧ a.gen = m.gen ∧ a.destModule = m.srcModule ∧
      let c := s.context m.targetCtx.val
      let n := atomicBytes op
      let old := BitVec.ofNat 64 (leNat (s.bytes h o n))
      if c.state ≠ .opened ∨ m.targetGen ≠ c.gen then a.status = 1 ∧ t.mem = s.mem
      else if c.domain = false then a.status = 2 ∧ t.mem = s.mem
      else if inRegions c.regions m.offset.toNat n = false then a.status = 3 ∧ t.mem = s.mem
      else a.status = 0 ∧ (s.protectedAt (.peer m.srcModule m.targetCtx m.targetGen) m.offset.toNat n = none →
        t.bytes h o n = leBytes n (atomicResult op old
          (BitVec.ofNat 64 (leNat ((m.data.drop 8).take 8))) (BitVec.ofNat 64 (leNat ((m.data.drop 16).take 8)))).toNat ∧
        (op = .swap ∨ op = .cas → a.data = leBytes 8 old.toNat) ∧ t.compute = s.compute ∧ t.ops = s.ops ∧
        ∀ home off, off < 0x10000000000 → home ≠ h ∨ off < o ∨ o + n ≤ off → t.byte home off = s.byte home off)) ∧
  (∀ (s : State) (l : LinkIx) (m : DomMsg), s.domain.id = none → m.opcode = dmWrite →
    ∃ t, exec (.writeMessage l m) s = .next t ∧ t.mem = s.mem ∧ t.out = s.out ∧ t.ops = s.ops ∧ t.compute = s.compute)

/-- READ_DATA_MESSAGE of status 0 that answers a request of this module, its generation accepted, ends the request, frees the
tumbler's read slot and lands the bytes in its SRAM at the place reserved, with no insertion waiting and no completion token
owed. WRITE_ACK_MESSAGE and ATOMIC_RESP_MESSAGE end the request and free the write slot of a tumbler that runs no step. One
that answers no request is counted and changes no memory, tumbler or request. READ_DATA with another status returns, where no
write of the operator is unacknowledged, the ward's completion token with the fault status of Table 12.6: 0x8E for
UNREACHABLE, else 0x89 plus the status. (R37, R38, R128, R294, Table 12.6.) -/
def Obligations.AnswersLandOrFailOperators : Prop :=
  (∀ (s : State) (l : LinkIx) (m : DomMsg) (q : Request), m.opcode = dmReadData → s.domain.id = some m.destModule →
    s.requestOf m = some q → s.acceptsGen m.ctx m.gen = true → m.status = 0 → s.faults.insertions = [] → q.tumbler < 18432 →
    (s.ward (q.tumbler / 64)).owed = [] → ∃ t, exec (.readDataMessage l m) s = .next t ∧ t.domain.requests = s.domain.requests.erase q ∧ t.mem = s.mem ∧
      t.out = s.out ∧ (t.tumbler q.tumbler).sram = putCells (s.tumbler q.tumbler).sram q.sram (m.data.take q.len) ∧
      (t.tumbler q.tumbler).loads = (s.tumbler q.tumbler).loads.filter (fun p => !(p.global && p.tag = q.tag)) ∧
      ∀ j, j ≠ q.tumbler → t.tumbler j = s.tumbler j) ∧
  (∀ (s : State) (l : LinkIx) (m : DomMsg) (q : Request), m.opcode = dmReadData → s.domain.id = some m.destModule →
    s.requestOf m = some q → s.acceptsGen m.ctx m.gen = true → m.status ≠ 0 → s.faults.insertions = [] → q.tumbler < 18432 →
    (s.ward (q.tumbler / 64)).completed.contains (q.ctx, q.opSerial) = false →
    s.written (q.tumbler / 1536) (q.tumbler / 64 % 24) q.ctx q.opSerial = true →
    ∃ t, exec (.readDataMessage l m) s = .next t ∧ completionToken q.ctx q.gen (q.tumbler / 1536) (q.tumbler / 64 % 24) q.opSerial
      (if m.status = 5 then 0x8E else BitVec.ofNat 8 (0x89 + m.status.toNat)) ∈ t.out.drop s.out.length) ∧
  (∀ (s : State) (l : LinkIx) (m : DomMsg) (q : Request) (p : WritePart), m.opcode = dmWriteAck →
    s.domain.id = some m.destModule → s.requestOf m = some q → s.acceptsGen m.ctx m.gen = true → m.status = 0 →
    s.faults.insertions = [] → q.tumbler < 18432 →
    ((s.tumbler q.tumbler).writes.find? fun p => p.global && p.tag = q.tag) = some p →
    (∀ r, (s.tumbler q.tumbler).resident = some r → r.running = none) → (s.ward (q.tumbler / 64)).owed = [] →
    ∃ t, exec (.writeAckMessage l m) s = .next t ∧ t.domain.requests = s.domain.requests.erase q ∧ t.mem = s.mem ∧
      t.out = s.out ∧ (t.tumbler q.tumbler).writes = (s.tumbler q.tumbler).writes.erase p) ∧
  (∀ (s : State) (l : LinkIx) (m : DomMsg) (q : Request) (p : WritePart), m.opcode = dmAtomicResp →
    s.domain.id = some m.destModule → s.requestOf m = some q → s.acceptsGen m.ctx m.gen = true → m.status = 0 →
    s.faults.insertions = [] → q.tumbler < 18432 →
    ((s.tumbler q.tumbler).writes.find? fun p => p.global && p.tag = q.tag) = some p →
    (∀ r, (s.tumbler q.tumbler).resident = some r → r.running = none) → (s.ward (q.tumbler / 64)).owed = [] →
    ∃ t, exec (.atomicRespMessage l m) s = .next t ∧ t.domain.requests = s.domain.requests.erase q ∧ t.mem = s.mem ∧
      t.out = s.out ∧ (t.tumbler q.tumbler).writes = (s.tumbler q.tumbler).writes.erase p) ∧
  (∀ (s : State) (l : LinkIx) (m : DomMsg), m.opcode = dmReadData → s.domain.id = some m.destModule → s.requestOf m = none →
    ∃ t, exec (.readDataMessage l m) s = .next t ∧ t.domain.requests = s.domain.requests ∧ t.mem = s.mem ∧ t.out = s.out ∧
      t.compute = s.compute)

/-- RED_OPERAND_MESSAGE is held until one operand of every other member of the group is held; then the result formed in arrival
order goes to the source of each and the operands leave. RED_RESULT_MESSAGE that its context accepts, in its regions and
within one unpoisoned or wholly covered line, is written. FENCE_MESSAGE sets the generation record and waits; from then on
WRITE_MESSAGE of another generation is discarded and counted. FENCE_REQUESTS_ANSWERED answers the oldest fence of a source
context with the stragglers counted. FENCE_DONE_MESSAGE of a fence outstanding ends it and adds its stragglers; the last one
of a Quarantined context takes it to Scrubbing. (R128, R256, R295, R296, R297, Table 4.1, Table 4.11.) -/
def Obligations.ReductionsAndFences : Prop :=
  (∀ (s : State) (l : LinkIx) (m : DomMsg), m.opcode = dmRedOperand → s.domain.id = some m.destModule →
    s.isStraggler m = false → s.groupOf m.srcModule = none → ∃ t, exec (.redOperandMessage l m) s = .next t ∧
      t.domain.operands = s.domain.operands ++ [m] ∧ t.out = s.out ∧ t.mem = s.mem) ∧
  (∀ (s : State) (l : LinkIx) (m : DomMsg) (g : Group), m.opcode = dmRedOperand → s.domain.id = some m.destModule →
    s.isStraggler m = false → s.groupOf m.srcModule = some g →
    ∃ t, exec (.redOperandMessage l m) s = .next t ∧
      let mine := (s.domain.operands ++ [m]).filter fun o => sameReduction o m
      if ∀ x ∈ g.members, x ≠ m.destModule → ∃ o ∈ mine, o.srcModule = x then
        t.domain.operands = (s.domain.operands ++ [m]).filter (fun o => !sameReduction o m) ∧
        ∀ o ∈ mine, ∀ k, s.forwardLink m.destModule o.ctx o.srcModule = some k →
          ∃ a, .message k a ∈ t.out.drop s.out.length ∧ a.opcode = dmRedResult ∧ a.destModule = o.srcModule ∧ a.tag = o.tag ∧
            a.data = Config.reduction (mine.map fun o => o.data)
      else t.domain.operands = s.domain.operands ++ [m] ∧ t.out = s.out ∧ t.mem = s.mem) ∧
  (∀ (s : State) (l : LinkIx) (m : DomMsg) (h o : Nat), m.opcode = dmRedResult → s.domain.id = some m.destModule →
    s.acceptsGen m.ctx m.gen = true → inRegions (s.context m.ctx.val).regions m.offset.toNat m.data.length = true →
    m.data ≠ [] → m.offset.toNat % 64 + m.data.length ≤ 64 → s.place m.offset.toNat = .cell h o →
    o + m.data.length ≤ 0x10000000000 → (m.data.length = 64 ∨ (m.poison = false ∧ s.poisoned h o = false)) →
    s.protectedAt (.peer m.srcModule m.ctx m.gen) m.offset.toNat m.data.length = none →
    ∃ t, exec (.redResultMessage l m) s = .next t ∧ t.bytes h o m.data.length = m.data ∧ t.out = s.out ∧
      ∀ home off, off < 0x10000000000 → home ≠ h ∨ off < o ∨ o + m.data.length ≤ off → t.byte home off = s.byte home off) ∧
  (∀ (s : State) (l : LinkIx) (m : DomMsg), m.opcode = dmFenceMsg → s.domain.id = some m.destModule →
    ∃ t, exec (.fenceMessage l m) s = .next t ∧ t.mem = s.mem ∧ t.out = s.out ∧ t.ops = s.ops ∧
      Store.get none t.domain.genRecord (pairKey m.srcModule m.ctx) = some m.gen ∧
      t.domain.fences = s.domain.fences ++ [{ src := m.srcModule, ctx := m.ctx, gen := m.gen }]) ∧
  (∀ (s : State) (l : LinkIx) (m : DomMsg) (g : Gen), m.opcode = dmWrite → s.domain.id = some m.destModule →
    Store.get none s.domain.genRecord (pairKey m.srcModule m.ctx) = some g → g ≠ m.gen →
    ∃ t, exec (.writeMessage l m) s = .next t ∧ t.mem = s.mem ∧ t.out = s.out ∧
      Store.get 0 t.domain.stragglers (pairKey m.srcModule m.ctx) =
        Store.get 0 s.domain.stragglers (pairKey m.srcModule m.ctx) + 1) ∧
  (∀ (s : State) (src : ModId) (ctx : CtxId) (f : PendingFence) (k : LinkIx),
    (s.domain.fences.find? fun f => f.src = src && f.ctx = ctx) = some f → s.forwardLink s.moduleId ctx src = some k →
    ∃ t a, exec (.fenceRequestsAnswered src ctx) s = .next t ∧ t.mem = s.mem ∧ .message k a ∈ t.out.drop s.out.length ∧
      a.opcode = dmFenceDoneMsg ∧ a.gen = f.gen ∧ a.ctx = ctx ∧ a.destModule = src ∧
      a.data = leBytes 8 (Store.get 0 s.domain.stragglers (pairKey src ctx)) ∧
      t.domain.fences = s.domain.fences.erase f ∧ Store.get 0 t.domain.stragglers (pairKey src ctx) = 0) ∧
  (∀ (s : State) (l : LinkIx) (m : DomMsg) (td : Teardown), m.opcode = dmFenceDoneMsg → s.domain.id = some m.destModule →
    (s.context m.ctx.val).teardown = some td → m.srcModule ∈ td.fences → m.gen = (s.context m.ctx.val).gen →
    ∃ t, exec (.fenceDoneMessage l m) s = .next t ∧
      if td.fences.erase m.srcModule = [] ∧ (s.context m.ctx.val).state = .quarantined then
        (t.context m.ctx.val).state = .scrubbing
      else t.context m.ctx.val = { s.context m.ctx.val with teardown := some { td with
          fences := td.fences.erase m.srcModule, stragglers := td.stragglers + leNat (m.data.take 8) } } ∧
        t.mem = s.mem)

/-- On an active port that serves, after ready, through a valid segment, in its context's regions and at a cell: BAR2_READ of
unpoisoned lines completes with the bytes there and changes nothing else, and of a poisoned line completes with EP; BAR2_WRITE
to an Open context within one unpoisoned line that the host may write leaves its bytes written, every other byte as it was,
and sends nothing; BAR2_ATOMIC of 64 bits, aligned, stores the result and completes with the old value. A read through an
invalid segment or before ready completes with all ones, and a write then changes no byte of a stack. A standby port answers a
read UR and counts a write. Another width is UR, an unaligned address malformed. BAR0_WINDOW_WRITE stores into an unpoisoned
slot that the host may write, and is counted elsewhere. (R24, R144, R148, R158, R302, R307, R308, R309, R310.) -/
def Obligations.Bar2AccessesServedOrRefused : Prop :=
  (∀ (s : State) (p : HostPort) (off n : Nat), (s.port p).serves = true → (s.port p).active = true →
    (s.port p).inBar2 off n = true → s.ready = true → (s.segment (off / gib)).valid = true →
    let a := (s.segment (off / gib)).gib.toNat * gib + off % gib
    inRegions (s.context (s.segment (off / gib)).ctx.val).regions a n = true → s.badPlace a n = none →
    ∃ t, exec (.bar2Read p off n) s = .next t ∧ if s.poisonLines a n = [] then t = s.emit (.completion p (s.load a n).1 false)
      else t.out.getLast? = some (.completion p [] true)) ∧
  (∀ (s : State) (p : HostPort) (off n : Nat), (s.port p).serves = true → (s.port p).active = true →
    (s.port p).inBar2 off n = true → (s.ready = false ∨ (s.segment (off / gib)).valid = false) →
    ∃ t, exec (.bar2Read p off n) s = .next t ∧ t.out.getLast? = some (.completion p (List.replicate n 0xFF) false)) ∧
  (∀ (s : State) (p : HostPort) (off n : Nat), (s.port p).serves = true → (s.port p).active = false →
    (s.port p).inBar2 off n = true → exec (.bar2Read p off n) s = .next (s.emit (.unsupported p))) ∧
  (∀ (s : State) (p : HostPort) (off : Nat) (data : List Byte) (ep : Bool) (h o : Nat), (s.port p).serves = true →
    (s.port p).active = true → (s.port p).inBar2 off data.length = true → s.ready = true →
    (s.segment (off / gib)).valid = true → (s.context (s.segment (off / gib)).ctx.val).state = .opened →
    let a := (s.segment (off / gib)).gib.toNat * gib + off % gib
    inRegions (s.context (s.segment (off / gib)).ctx.val).regions a data.length = true → data ≠ [] →
    a % 64 + data.length ≤ 64 → s.place a = .cell h o → o + data.length ≤ 0x10000000000 →
    (data.length = 64 ∨ (ep = false ∧ s.poisoned h o = false)) →
    s.protectedAt (.host p (s.segment (off / gib)).ctx) a data.length = none →
    ∃ t, exec (.bar2Write p off data ep) s = .next t ∧ t.bytes h o data.length = data ∧
      (data.length = 64 → t.poisoned h o = ep) ∧ t.out = s.out ∧ t.ops = s.ops ∧ t.host = s.host ∧
      ∀ home x, x < 0x10000000000 → home ≠ h ∨ x < o ∨ o + data.length ≤ x → t.byte home x = s.byte home x) ∧
  (∀ (s : State) (p : HostPort) (off : Nat) (data : List Byte) (ep : Bool), (s.port p).serves = true →
    (s.port p).inBar2 off data.length = true →
    ((s.port p).active = false ∨ s.ready = false ∨ (s.segment (off / gib)).valid = false ∨
      (s.context (s.segment (off / gib)).ctx.val).state ≠ .opened) →
    ∃ t, exec (.bar2Write p off data ep) s = .next t ∧ ∀ home < 12, ∀ x < 0x10000000000, t.byte home x = s.byte home x) ∧
  (∀ (s : State) (p : HostPort) (op : AtomicOp) (off : Nat) (x y : W64) (h o : Nat), (s.port p).serves = true →
    (s.port p).active = true → (s.port p).inBar2 off 8 = true → s.ready = true → (s.segment (off / gib)).valid = true →
    (s.context (s.segment (off / gib)).ctx.val).state = .opened → (op = .addU64 ∨ op = .swap ∨ op = .cas) → off % 8 = 0 →
    let a := (s.segment (off / gib)).gib.toNat * gib + off % gib
    inRegions (s.context (s.segment (off / gib)).ctx.val).regions a 8 = true → s.place a = .cell h o →
    s.poisoned h o = false → o + 8 ≤ 0x10000000000 →
    s.protectedAt (.host p (s.segment (off / gib)).ctx) a 8 = none →
    ∃ t, exec (.bar2Atomic p op off 8 x y) s = .next t ∧
      let old := BitVec.ofNat 64 (leNat (s.bytes h o 8))
      t.bytes h o 8 = leBytes 8 (atomicResult op old x y).toNat ∧ t.out = s.out ++ [.completion p (leBytes 8 old.toNat) false] ∧
      ∀ home z, z < 0x10000000000 → home ≠ h ∨ z < o ∨ o + 8 ≤ z → t.byte home z = s.byte home z) ∧
  (∀ (s : State) (p : HostPort) (op : AtomicOp) (off n : Nat) (x y : W64), (s.port p).serves = true →
    (s.port p).active = true → (s.port p).inBar2 off n = true →
    exec (.bar2Atomic p op off n x y) s = .next (s.emit (if n = 8 ∧ op ≠ .addFp32 ∧ op ≠ .addBf16 then .malformed p else .unsupported p)) ∨
      (n = 8 ∧ op ≠ .addFp32 ∧ op ≠ .addBf16 ∧ off % 8 = 0)) ∧
  (∀ (s : State) (p : HostPort) (off : Nat) (data : List Byte), (s.port p).serves = true → off + data.length ≤ 0x4000000 →
    ∃ t, exec (.bar0WindowWrite p off data) s = .next t ∧ t.ops = s.ops ∧
      if (s.port p).active = true ∧ s.hostSlot off data.length = true then
        (data ≠ [] → off % 64 + data.length ≤ 64 → s.poisoned 12 off = false →
          t.bytes 12 off data.length = data ∧ t.out = s.out)
      else t.mem = s.mem ∧ t.out = s.out)

/-- PORT_DOWN of the active port in standby mode, Idore running, leaves that port down and standby with one more count of downs,
the other active, holding every vector that was pending on it, and the failover bit of the status word set; operators and
contexts go on. A port already down changes nothing. PORT_UP of a released port that its base die powers and clocks, PERST
high, leaves it up in D0 with its role unchanged. VECTOR_DELIVERY sends a pending vector once when its port can send it, and
otherwise does nothing. PCIE_CONFIG_WRITE sets the D-state, the size of BAR2 up to 64 GiB and a vector's mask on its port
alone. DOE_DISCOVERY_REQUEST is answered. (R13, R15, R302, R303, R306, R313, R314, R315, Table 10.5.) -/
def Obligations.PortsFailOverAndVectorsWait : Prop :=
  (∀ (s : State) (p : HostPort), (s.port p).up = true → (s.port p).active = true → s.host.mode = 1 → s.keeper.idore = true →
    ∃ t, exec (.portDown p) s = .next t ∧ (t.port p).up = false ∧ (t.port p).active = false ∧
      (t.port p).downs = (s.port p).downs + 1 ∧ (t.port (otherPort p)).active = true ∧
      (∀ v, (s.port p).pending.getLsbD v = true → (t.port (otherPort p)).pending.getLsbD v = true) ∧ (t.port p).pending = 0 ∧
      t.keeper.status.getLsbD 20 = true ∧ t.ops = s.ops ∧ t.compute = s.compute ∧ t.keeper.longOps = s.keeper.longOps) ∧
  (∀ (s : State) (p : HostPort), (s.port p).up = false → exec (.portDown p) s = .next s) ∧
  (∀ (s : State) (p : HostPort) (r w : Nat), (s.port p).released = true → (s.port p).perst = false → (s.port p).up = false →
    s.portOn p = true → ∃ t, exec (.portUp p r w) s = .next t ∧ (t.port p).up = true ∧ (t.port p).d3hot = false ∧ (t.port p).rate = r ∧
      (t.port p).width = w ∧ (t.port p).active = (s.port p).active ∧ (t.port (otherPort p)).active = (s.port (otherPort p)).active) ∧
  (∀ (s : State) (p : HostPort) (r w : Nat), ((s.port p).released = false ∨ (s.port p).perst = true ∨ s.portOn p = false) →
    exec (.portUp p r w) s = .next s) ∧
  (∀ (s : State) (p : HostPort) (v : Byte), (s.port p).pending.getLsbD v.toNat = true → (s.port p).canSend v.toNat = true →
    ∃ t, exec (.vectorDelivery p v) s = .next t ∧ t.out = s.out ++ [.msix p v] ∧ (t.port p).pending.getLsbD v.toNat = false ∧
      (∀ x, x ≠ v.toNat → (t.port p).pending.getLsbD x = (s.port p).pending.getLsbD x) ∧ t.mem = s.mem ∧
      exec (.vectorDelivery p v) t = .next t) ∧
  (∀ (s : State) (p : HostPort) (d : Option Bool) (b : Option Nat) (v : Option (Byte × Bool)), (s.port p).released = true →
    (s.port p).up = true → ∃ t, exec (.pcieConfigWrite p d b v) s = .next t ∧ (t.port p).d3hot = d.getD (s.port p).d3hot ∧
      (∀ n, b = some n → n ≤ 6 → (t.port p).barLog = n) ∧ (∀ n, b = some n → 6 < n → (t.port p).barLog = (s.port p).barLog) ∧
      (∀ x m, v = some (x, m) → (t.port p).masked.getLsbD x.toNat = m ∧
        ∀ y, y ≠ x.toNat → (t.port p).masked.getLsbD y = (s.port p).masked.getLsbD y) ∧
      t.port (otherPort p) = s.port (otherPort p) ∧ t.out = s.out ∧ t.mem = s.mem) ∧
  (∀ (s : State) (p : HostPort) (i : Byte), (s.port p).released = true → (s.port p).up = true →
    exec (.doeDiscoveryRequest p i) s = .next (s.emit (.doe p [0, 1])))

/-- On a binding whose port is up while Idore runs: Set Endpoint ID sets the ID; PLDM base, FRU, sensor and repository requests
are answered, an absent or padlocked source as unavailable; a message of another type is discarded. PLDM_REQUEST_UPDATE with
no update in progress marks the idle slot invalid and sets update_active; a second is refused and changes nothing.
PLDM_FIRMWARE_DATA at the offset asked for appends to the idle slot and asks for the next, or verifies a whole package.
PLDM_ACTIVATE_FIRMWARE of a verified slot prefers the new image on trial and ends the update. PLDM_CANCEL_UPDATE and
UPDATE_IDLE_TIMEOUT end it with the slot invalid. SMBUS_LOW_TIMEOUT releases the line. (R317, R319, R320, R321, R360, R361,
R467, Table 10.6, Table 10.7.) -/
def Obligations.ManagementAnswersAndUpdates : Prop :=
  (∀ (s : State) (b : Fin 3) (e : Byte), s.bindingUp b = true → ∃ t, exec (.mctpControlMessage b (some e)) s = .next t ∧
    Store.get 0 t.host.eids b.val = e ∧ (∀ c, c ≠ b.val → Store.get 0 t.host.eids c = Store.get 0 s.host.eids c) ∧
    t.out = s.out ++ [.mctp b e (.endpointSet e)] ∧ t.mem = s.mem ∧ t.keeper = s.keeper) ∧
  (∀ (s : State) (b : Fin 3), s.bindingUp b = true →
    exec (.mctpControlMessage b none) s = .next (s.emit (.mctp b (Store.get 0 s.host.eids b.val) .control))) ∧
  (∀ (s : State) (b : Fin 3) (x : Byte), exec (.mctpUnsupportedType b x) s = .next s) ∧
  (∀ (s : State), ∃ t, exec .smbusLowTimeout s = .next t ∧ t.out = s.out ++ [.smbusRelease] ∧ t.mem = s.mem ∧ t.keeper = s.keeper) ∧
  (∀ (s : State) (b : Fin 3) (e c : Byte), s.bindingUp b = true →
    exec (.pldmBaseRequest b e c) s = .next (s.emit (.mctp b e (.base c)))) ∧
  (∀ (s : State) (b : Fin 3) (e : Byte), s.bindingUp b = true → exec (.pldmFruRequest b e) s = .next (s.emit (.mctp b e (.fru
    [Store.get 0 s.keeper.serials 0, Store.get 0 s.keeper.serials 1, s.optics.cart0.serial, s.optics.cart1.serial])))) ∧
  (∀ (s : State) (b : Fin 3) (e : Byte), s.bindingUp b = true →
    exec (.pldmSensorRequest b e none) s = .next (s.emit (.mctp b e .repository))) ∧
  (∀ (s : State) (b : Fin 3) (e : Byte) (i : BitVec 16), s.bindingUp b = true → exec (.pldmSensorRequest b e (some i)) s =
    .next (s.emit (.mctp b e (.sensor i (s.sensorThere i.toNat) (if s.sensorThere i.toNat = true then s.reading i.toNat else 0))))) ∧
  (∀ (s : State) (b : Fin 3) (e : Byte), s.bindingUp b = true → s.keeper.update = none →
    s.keeper.longOps.any (fun o => isUpdate o.code) = false → (s.part 0).out = false → (s.part 1).out = false →
    ∃ t, exec (.pldmRequestUpdate b e) s = .next t ∧ (t.part s.idlePart).slotValid = false ∧ (t.part s.idlePart).package = [] ∧
      t.keeper.update = some { holder := .pldm b e, written := 0 } ∧ t.keeper.status.getLsbD stUpdate = true ∧
      t.part (1 - s.idlePart) = s.part (1 - s.idlePart) ∧
      t.out = s.out ++ [.mctp b e .updateAccepted, .mctp b e (.requestFirmwareData 0)]) ∧
  (∀ (s : State) (b : Fin 3) (e : Byte), s.bindingUp b = true → s.keeper.update.isSome = true →
    exec (.pldmRequestUpdate b e) s = .next (s.emit (.mctp b e .alreadyInUpdate))) ∧
  (∀ (s : State) (b : Fin 3) (e : Byte) (n : Nat) (data : List Byte), s.bindingUp b = true →
    s.keeper.update = some { holder := .pldm b e, written := n } → (s.part s.idlePart).slotValid = false →
    ∃ t, exec (.pldmFirmwareData b e n data) s = .next t ∧ t.keeper.update = some { holder := .pldm b e, written := n + data.length } ∧
      (t.part s.idlePart).package = (s.part s.idlePart).package ++ data ∧ t.part (1 - s.idlePart) = s.part (1 - s.idlePart) ∧
      if packageWhole ((s.part s.idlePart).package ++ data) = true then
        (t.part s.idlePart).slotValid = true ∧ t.out = s.out ++ [.mctp b e (.verifyComplete (t.part s.idlePart).verified)]
      else (t.part s.idlePart).slotValid = false ∧ t.out = s.out ++ [.mctp b e (.requestFirmwareData (n + data.length))]) ∧
  (∀ (s : State) (b : Fin 3) (e : Byte) (n : Nat), s.bindingUp b = true →
    s.keeper.update = some { holder := .pldm b e, written := n } → (s.part s.idlePart).verified = true →
    s.flash.partA.out = false → s.flash.partA.formatted = true →
    ∃ t, exec (.pldmActivateFirmware b e) s = .next t ∧ t.keeper.update = none ∧
      t.flash.partA.boot = some { s.bootRecord with preferB := !s.keeper.imageB, trial := true, trialStarts := 0 } ∧
      t.keeper.status.getLsbD stUpdate = false ∧ t.out = s.out ++ [.mctp b e .activatePending]) ∧
  (∀ (s : State) (b : Fin 3) (e : Byte) (n : Nat), s.bindingUp b = true →
    s.keeper.update = some { holder := .pldm b e, written := n } →
    ∃ t, exec (.pldmCancelUpdate b e) s = .next t ∧ t.keeper.update = none ∧ (t.part s.idlePart).slotValid = false ∧
      t.out = s.out ++ [.mctp b e .updateCancelled]) ∧
  (∀ (s : State), s.keeper.update.isSome = true → s.keeper.longOps.any (fun o => isUpdate o.code) = false →
    ∃ t, exec .updateIdleTimeout s = .next t ∧ t.keeper.update = none ∧ (t.part s.idlePart).slotValid = false ∧ t.out = s.out) ∧
  (∀ (s : State), s.keeper.update = none → exec .updateIdleTimeout s = .next s)

/-- TELEMETRY_BOUNDARY with P0's PLL locked puts the timestamp at the next multiple of the interval, latches every counter of the
interval, those that only the hardware measures apart (free values), and puts a new interval into force; before Idore runs
every counter then stands at 0, and with it a running scrub moves on. TEL_INTERVAL_WRITE by the keeper or an active port takes
effect at the next boundary, clamped to 100 to 1,000,000. TEL_TIMESTAMP_READ returns 64 bits, or the lower 32 and latches the
upper. RC_REGISTER_READ by the keeper answers the latched counts of its register and clears those and no others, answers
another register's fields and changes none, and answers 0 to the host outside its blocks. REGISTER_WRITE ignores the console
and read-only registers, and takes FLT_POLICY and port modes before the lock, DBL_FWC_TAIL within the ring's size, the event
mask, and MBX_CMD without its reserved bits. MAILBOX_WRITE_WHILE_BUSY marks DBL_MBX_LOST. FWR_HEAD_WRITE frees response slots.
(R9, R10, R163, R307, R322, R323, R324, R325, R347, R350, R352, R104.) -/
def Obligations.TelemetryLatchesAndRegistersAnswer : Prop :=
  (∀ (s : State), (s.base 0).pllLocked = true → ∃ t, exec .telemetryBoundary s = .next t ∧
    (∀ n, (∀ h < 12, n ≠ counterKey 4 h 0 3 ∧ n ≠ counterKey 4 h 0 4) → (∀ l < 64, ∀ i < 9, n ≠ counterKey 2 l 0 (8 + i)) →
      Store.get 0 t.tel.latched n = Store.get 0 s.tel.live n) ∧
    t.tel.timestamp = BitVec.ofNat 64 ((s.tel.timestamp.toNat / (s.tel.interval * 1440) + 1) * (s.tel.interval * 1440)) ∧
    t.tel.index = s.tel.index + 1 ∧ t.tel.interval = s.tel.nextInterval ∧ t.compute = s.compute ∧ t.ops.rings = s.ops.rings ∧
    (s.keeper.idore = false → t.tel.live = [] ∧ t.mem = s.mem ∧ t.out = s.out ∧ t.ops = s.ops) ∧
    (s.keeper.idore = true → ∀ (c : CtxId) (td : Teardown), (s.context c.val).state = .scrubbing →
      (s.context c.val).teardown = some td → ∃ n, (t.context c.val).teardown = some { td with scrubbed := n } ∧
        td.scrubbed ≤ n ∧ n ≤ max td.scrubbed (regionBytes (s.context c.val).regions))) ∧
  (∀ (s : State) (a : Agent) (us : W32), (a = .keeper ∨ ∃ p, a = .host p ∧ (s.port p).serves = true ∧ (s.port p).active = true) →
    ∃ t, exec (.telIntervalWrite a us) s = .next t ∧ t.tel.nextInterval = min 1000000 (max 100 us.toNat) ∧
      t.tel.interval = s.tel.interval ∧ t.mem = s.mem ∧ t.out = s.out) ∧
  (∀ (s : State) (p : HostPort) (n : Nat) (u : Bool), (s.port p).serves = true → 8 ≤ n →
    exec (.telTimestampRead (.host p) n u) s = .next (s.emit (.registerRead (.host p) .telTimestamp [s.tel.timestamp.toNat]))) ∧
  (∀ (s : State) (p : HostPort), (s.port p).serves = true → ∃ t, exec (.telTimestampRead (.host p) 4 false) s = .next t ∧
    t.out = s.out ++ [.registerRead (.host p) .telTimestamp [s.tel.timestamp.toNat % 2 ^ 32]] ∧
    exec (.telTimestampRead (.host p) 4 true) t =
      .next (t.emit (.registerRead (.host p) .telTimestamp [s.tel.timestamp.toNat / 2 ^ 32]))) ∧
  (∀ (s : State) (r : Reg), r ≠ .dblMbxLost → isRc r = true → ∃ t, exec (.rcRegisterRead .keeper r) s = .next t ∧
    t.out = s.out ++ [.registerRead .keeper r ((rcKeys r).map fun k => Store.get 0 s.tel.latched k)] ∧
    t.tel.live = s.tel.live ∧ t.mem = s.mem ∧ (∀ k ∈ rcKeys r, Store.get 0 t.tel.latched k = 0) ∧
    ∀ k, k ∉ rcKeys r → Store.get 0 t.tel.latched k = Store.get 0 s.tel.latched k) ∧
  (∀ (s : State), ∃ t, exec (.rcRegisterRead .keeper .dblMbxLost) s = .next t ∧ t.keeper.lost = 0 ∧
    t.out = s.out ++ [.registerRead .keeper .dblMbxLost [s.keeper.lost.toNat]]) ∧
  (∀ (s : State) (r : Reg), isRc r = false → ∃ t, exec (.rcRegisterRead .keeper r) s = .next t ∧
    t.out = s.out ++ [.registerRead .keeper r (s.regFields r)] ∧ t.tel = s.tel ∧ t.mem = s.mem ∧ t.keeper = s.keeper) ∧
  (∀ (s : State) (p : HostPort) (r : Reg), (s.port p).serves = true → hostVisible r = false →
    exec (.rcRegisterRead (.host p) r) s = .next (s.emit (.registerRead (.host p) r [0]))) ∧
  (∀ (s : State) (r : Reg) (v : W64) (n : Nat), exec (.registerWrite .console r v n) s = .next s) ∧
  (∀ (s : State) (r : Reg) (v : W64) (n : Nat), (r = .mbxStatus ∨ r = .mbxStart ∨ r = .dblMbxBusy ∨ r = .dblFwcHead ∨
      r = .dblFwrTail ∨ r = .dblEvtTail ∨ r = .telTimestamp ∨ r = .telStat) → exec (.registerWrite .keeper r v n) s = .next s) ∧
  (∀ (s : State) (v : W64) (n : Nat), ∃ t, exec (.registerWrite .keeper .fltPolicy v n) s = .next t ∧ t.mem = s.mem ∧
    t.out = s.out ∧ t.faults.policy.val = if s.keeper.locked = true ∨ v.toNat % 4 = 3 then s.faults.policy.val else v.toNat % 4) ∧
  (∀ (s : State) (v : W64) (n : Nat), 8 ≤ n → exec (.registerWrite .keeper .dblEvtMask v n) s =
    .next { s with keeper := { s.keeper with evtMask := v } }) ∧
  (∀ (s : State) (m : MbxIx) (v : W64), s.mbxBusy m.val = false → ∃ t, exec (.registerWrite .keeper (.mbxCmd m) v 8) s = .next t ∧
    (t.mailbox m.val).cmd = putField v 8 10 0 ∧ t.mem = s.mem ∧ t.out = s.out) ∧
  (∀ (s : State) (v : W64), ∃ t, exec (.registerWrite .keeper .dblFwcTail v 4) s = .next t ∧
    let new : W32 := v.setWidth 32
    t.keeper.fwcTail = if (new - s.keeper.fwcTail).toNat < 2 ^ 31 ∧ (new - s.keeper.fwcHead).toNat ≤ 4096 then new
      else s.keeper.fwcTail) ∧
  (∀ (s : State) (m : MbxIx), s.mbxBusy m.val = true → ∃ t, exec (.mailboxWriteWhileBusy m) s = .next t ∧
    t.keeper.lost.getLsbD m.val = true ∧ t.keeper.mailboxes = s.keeper.mailboxes ∧ t.out = s.out ∧
    ∀ i, i ≠ m.val → t.keeper.lost.getLsbD i = s.keeper.lost.getLsbD i) ∧
  (∀ (s : State) (p : HostPort) (c : W32), (s.port p).serves = true → (s.port p).active = true →
    (c - s.keeper.fwrHead).toNat ≤ (s.keeper.fwrTail - s.keeper.fwrHead).toNat →
    exec (.fwrHeadWrite p c) s = .next { s with keeper := { s.keeper with fwrHead := c } })

/-- MBX_HEADER_ABSENT ends HEADER_ABSENT and RESERVED_COMMAND_CODE BAD_CODE. Of a command that the keeper takes, a caller that
Table 11.14 does not name gets UNAUTHORISED; then, before ready, NOT_READY; then, for a long command on the firmware ring,
LONG_ON_RING; then FW_UPDATE_ACTIVE for CMD_FW_VERIFY while another party updates; then BUSY for a long command while four
run; then BAD_ARGS. A command to a mailbox that is ACCEPTED or RUNNING is refused and marked in DBL_MBX_LOST, and the mailbox
keeps its words. Before Idore runs a doorbell is held and the mailbox keeps its words. A firmware ring with no response slot
free takes no entry. (R349, R350, R352, R354, R355, R483, R342, R363, Table 11.13, Table 11.14.) -/
def Obligations.CommandsCheckedInOrder : Prop :=
  (∀ (s : State) (m : MbxIx), s.keeper.idore = true → s.mbxBusy m.val = false →
    ∃ t, exec (.mbxHeaderAbsent m) s = .next t ∧ (t.mailbox m.val).cstat = cstat .failed 0 0x01 0) ∧
  (∀ (s : State) (h : CmdHdr) (x : Byte), s.canTake h.caller = true →
    (∀ m, callerMbx h.caller = some m → s.mbxBusy m.val = false) →
    ∃ t, exec (.reservedCommandCode h x) s = .next t ∧ answeredAt s t h .failed .badCode [] ∧ t.ops = s.ops ∧
      t.compute = s.compute ∧ t.domain = s.domain) ∧
  (∀ (s : State) (h : CmdHdr), s.canTake h.caller = true → (∀ m, callerMbx h.caller = some m → s.mbxBusy m.val = false) →
    ∃ t, exec (.cmdFwVerify h) s = .next t ∧
      if s.ready = false then answeredAt s t h .failed .notReady [] ∧ t.flash = s.flash
      else if callerMbx h.caller = none then answeredAt s t h .failed .longOnRing [] ∧ t.flash = s.flash
      else if (∃ u, s.keeper.update = some u ∧ u.holder ≠ callerUpdater h.caller) ∨
          s.keeper.longOps.any (fun o => isUpdate o.code) = true then
        answeredAt s t h .failed .fwUpdateActive [] ∧ t.flash = s.flash
      else if 4 ≤ s.keeper.longOps.length then answeredAt s t h .failed .busy [] ∧ t.flash = s.flash
      else if h.argsOk = false then answeredAt s t h .failed .badArgs [] ∧ t.flash = s.flash
      else s.accepts h .fwVerify = true) ∧
  (∀ (s : State) (h : CmdHdr) (id : ModId) (n : Nat), s.canTake h.caller = true →
    (∀ m, callerMbx h.caller = some m → s.mbxBusy m.val = false) →
    (∀ b e, h.caller = .mctp b e → s.host.fm ≠ some (b, e)) →
    ∃ t, exec (.cmdDomainAssign h id n) s = .next t ∧ answeredAt s t h .failed .unauthorised [] ∧ t.domain = s.domain) ∧
  (∀ (s : State) (h : CmdHdr) (m : MbxIx), callerMbx h.caller = some m → s.keeper.idore = true → s.mbxBusy m.val = true →
    ∃ t, exec (.cmdIdentify h) s = .next t ∧ t.keeper.lost.getLsbD m.val = true ∧ t.keeper.mailboxes = s.keeper.mailboxes ∧
      t.out = s.out ∧ t.mem = s.mem) ∧
  (∀ (s : State) (h : CmdHdr) (m : MbxIx), callerMbx h.caller = some m → s.keeper.idore = false →
    ∃ t, exec (.cmdIdentify h) s = .next t ∧ t.keeper.rung.getLsbD m.val = true ∧ t.keeper.mailboxes = s.keeper.mailboxes ∧
      t.out = s.out ∧ t.mem = s.mem) ∧
  (∀ (s : State) (h : CmdHdr) (p : HostPort), h.caller = .fwRing p →
    4096 ≤ (s.keeper.fwrTail - s.keeper.fwrHead).toNat → exec (.cmdIdentify h) s = .next s)

/-- Of commands that pass their checks: CMD_IDENTIFY returns the boot count, the module ID and the image versions; CMD_STATUS_ACK
clears the bits named and keeps the others; CMD_CANCEL marks a cancellable operation, and ends STATE for one that is not or
where none runs; CMD_FM_NAME names the fabric manager; CMD_PORT_ROLE makes a port that is up in standby mode the active one,
and otherwise ends STATE; CMD_RESET is answered DONE and the reset sequencer starts with its cause. CMD_SERVICE_HOLD enter,
READY or DEGRADED with every context Free and no hold under way, darkens every engine, takes every link to ABSENT and runs;
with a context not Free it ends STATE. Leave runs from the hold. CANCEL_SAFE_POINT ends an operation told to stop CANCELLED
with what was done in its words, and a calibration run stopped after its item of the lowest index keeps that item. (R315,
R318, R344, R355, R358, R359, R383, R236, Table 11.14, Table 11.15.) -/
def Obligations.KeeperCommandsActAndAnswer : Prop :=
  (∀ (s : State) (h : CmdHdr), s.accepts h .identify = true → ∃ t, exec (.cmdIdentify h) s = .next t ∧
    answeredAt s t h .done .ok [s.keeper.bootCount.setWidth 64, s.moduleId.setWidth 64, BitVec.ofNat 64 (s.slotVersion 0),
      BitVec.ofNat 64 (s.slotVersion 1)] ∧ t.ops = s.ops ∧ t.compute = s.compute ∧ t.domain = s.domain ∧ t.flash = s.flash) ∧
  (∀ (s : State) (h : CmdHdr) (f c : Bool), s.accepts h .statusAck = true → ∃ t, exec (.cmdStatusAck h f c) s = .next t ∧
    answeredAt s t h .done .ok [] ∧ t.keeper.status.getLsbD 20 = (s.keeper.status.getLsbD 20 && !f) ∧
    t.keeper.status.getLsbD 19 = (s.keeper.status.getLsbD 19 && !c) ∧ t.modState = s.modState) ∧
  (∀ (s : State) (h : CmdHdr) (m : MbxIx), s.accepts h .cancel = true → ∃ t, exec (.cmdCancel h m) s = .next t ∧
    if (s.keeper.longOps.find? fun o => o.mbx = m).any LongOp.cancellable = true then
      answeredAt s t h .done .ok [] ∧ ∀ o ∈ t.keeper.longOps, o.mbx = m → o.cancelling = true
    else answeredAt s t h .failed .state [] ∧ t.keeper.longOps = s.keeper.longOps) ∧
  (∀ (s : State) (m : MbxIx) (n : Nat) (o : LongOp) (l : LinkIx) (c : Chan) (f x : Nat) (b : Bool), s.longIn m = some o →
    o.cancelling = true → (o.kind = .fwVerify ∨ o.kind = .linkMargin l ∨ o.kind = .selftest c f x b) →
    ∃ t, exec (.cancelSafePoint m n) s = .next t ∧ t.compute = s.compute ∧
      longEnded t { o with done := min n o.total } .cancelled .cancelled { o with done := min n o.total }.words) ∧
  (∀ (s : State) (m : MbxIx) (o : LongOp) (q : CalQuantity) (e : EngineIx) (i : CalItem) (is : List CalItem),
    s.longIn m = some o → o.cancelling = true → o.kind = .calRun q e (i :: is) → o.total = is.length + 1 → isOptical q = false →
    (∀ j ∈ is, i.index ≤ j.index) → i.refPresent = true → i.plausible = true → wordPlausible q i.word = true → calWordOk i.word = true → s.calLost q i = false →
    ∃ t, exec (.cancelSafePoint m 1) s = .next t ∧ Store.get 0 t.cal.words (65536 * calCode q + i.index) = i.word ∧
      t.cal.generation = s.cal.generation + 1 ∧ longEnded t { o with done := 1 } .cancelled .cancelled
        { o with done := 1, word2 := BitVec.ofNat 64 s.cal.failed }.words) ∧
  (∀ (s : State) (m : MbxIx) (n : Nat) (o : LongOp), s.longIn m = some o → o.cancelling = false →
    exec (.cancelSafePoint m n) s = .next s) ∧
  (∀ (s : State) (h : CmdHdr) (b : Fin 3) (e : Byte), s.accepts h .fmName = true → ∃ t, exec (.cmdFmName h b e) s = .next t ∧
    answeredAt s t h .done .ok [] ∧ t.host.fm = some (b, e) ∧ t.domain = s.domain) ∧
  (∀ (s : State) (h : CmdHdr) (p : HostPort), s.accepts h .portRole = true → ∃ t, exec (.cmdPortRole h p) s = .next t ∧
    if s.host.mode = 1 ∧ (s.port p).up = true then answeredAt s t h .done .ok [] ∧ (t.port p).active = true ∧
      ((s.port p).active = false → (t.port (otherPort p)).active = false)
    else answeredAt s t h .failed .state [] ∧ (t.port p).active = (s.port p).active) ∧
  (∀ (s : State) (h : CmdHdr) (c : W32), s.accepts h .reset = true → s.faults.seqr.active = none →
    ∃ t, exec (.cmdReset h c) s = .next t ∧ answeredAt s t h .done .ok [] ∧ t.faults.seqr.active = some .cmdReset ∧
      t.modState = .resetting ∧ .signal .quiesce ∈ t.out.drop s.out.length) ∧
  (∀ (s : State) (h : CmdHdr), s.accepts h .serviceHold = true → (s.modState = .ready ∨ s.modState = .degraded) →
    (s.ops.contexts.any fun p => decide (p.2.state ≠ .free)) = false → s.runs isHoldOp = false →
    ∃ t, exec (.cmdServiceHoldEnter h) s = .next t ∧ longStarted t h .holdEnter 8 ∧ t.compute = s.compute ∧
      (∀ e : EngineIx, (t.engine e.val).started = false) ∧ ∀ l : LinkIx, (t.link l.val).state = .absent) ∧
  (∀ (s : State) (h : CmdHdr), s.accepts h .serviceHold = true →
    (s.ops.contexts.any fun p => decide (p.2.state ≠ .free)) = true →
    ∃ t, exec (.cmdServiceHoldEnter h) s = .next t ∧ answeredAt s t h .failed .state [] ∧ t.optics = s.optics) ∧
  (∀ (s : State) (h : CmdHdr), s.accepts h .serviceHold = true → s.modState = .serviceHold → s.runs isCalRun = false →
    s.runs isHoldOp = false → ∃ t, exec (.cmdServiceHoldLeave h) s = .next t ∧ longStarted t h .holdLeave 8) ∧
  (∀ (s : State) (h : CmdHdr), s.accepts h .serviceHold = true → s.modState ≠ .serviceHold →
    ∃ t, exec (.cmdServiceHoldLeave h) s = .next t ∧ answeredAt s t h .failed .state [] ∧ t.optics = s.optics)

/-- CMD_CTX_CREATE with regions that R101 accepts opens the lowest free context ID with its present generation, those regions,
seed, drain time (10 ms for 0), domain access and cores, and returns the ID and generation. CMD_CTX_TEARDOWN takes an Open
context to Draining and runs; a Free one is NOT_FOUND. CMD_CTX_QUERY returns state, generation and the counts of regions and
rings. CMD_CTX_RELEASE takes a Quarantined context to Scrubbing and returns its unreturned fences. CMD_RING_CREATE enables the
lowest free ring of the dispatcher for an Open context to which its owner may submit. CMD_RING_DELETE removes a ring with no
entry read and not complete, and is STATE otherwise. CMD_BAR2_MAP maps a segment for an Open context at a 1 GiB-aligned
address, or clears it; context 0 is BAD_ARGS, a Free one NOT_FOUND. (R100, R101, R103, R298, R309, R355, Table 4.1, Table 4.2,
Table 11.14.) -/
def Obligations.ContextRingAndSegmentCommands : Prop :=
  (∀ (s : State) (h : CmdHdr) (rs : List Region) (seed : W64) (ms : Nat) (d : Bool) (cs : BitVec 24) (i : CtxId),
    s.accepts h .ctxCreate = true → ms ≤ 10000 → rs.length ≤ 64 → rs.all s.regionOk = true → i.val ≠ 0 →
    (s.context i.val).state = .free → (∀ j : CtxId, j.val ≠ 0 → j < i → (s.context j.val).state ≠ .free) →
    ∃ t, exec (.cmdCtxCreate h rs seed ms d cs) s = .next t ∧
      answeredAt s t h .done .ok [BitVec.ofNat 64 i.val, (s.context i.val).gen.setWidth 64] ∧
      t.context i.val = { Context.reset with state := .opened, gen := (s.context i.val).gen, regions := rs, seed := seed, drainMs := if ms = 0 then 10 else ms, domain := d, cores := cs } ∧
      ∀ j, j ≠ i.val → t.context j = s.context j) ∧
  (∀ (s : State) (h : CmdHdr) (rs : List Region) (seed : W64) (ms : Nat) (d : Bool) (cs : BitVec 24),
    s.accepts h .ctxCreate = true → (10000 < ms ∨ rs.all s.regionOk = false) →
    ∃ t, exec (.cmdCtxCreate h rs seed ms d cs) s = .next t ∧ answeredAt s t h .failed .badArgs [] ∧ t.ops = s.ops) ∧
  (∀ (s : State) (h : CmdHdr) (i : CtxId), s.accepts h .ctxTeardown = true → (s.context i.val).state = .opened →
    ∃ t, exec (.cmdCtxTeardown h (BitVec.ofNat 16 i.val)) s = .next t ∧ (t.context i.val).state = .draining ∧
      longStarted t h (.teardown i) (regionBytes (s.context i.val).regions)) ∧
  (∀ (s : State) (h : CmdHdr) (i : CtxId), s.accepts h .ctxTeardown = true → (s.context i.val).state = .free →
    ∃ t, exec (.cmdCtxTeardown h (BitVec.ofNat 16 i.val)) s = .next t ∧ answeredAt s t h .failed .notFound [] ∧ t.ops = s.ops) ∧
  (∀ (s : State) (h : CmdHdr) (i : CtxId), s.accepts h .ctxQuery = true →
    ∃ t, exec (.cmdCtxQuery h (BitVec.ofNat 16 i.val)) s = .next t ∧ t.ops = s.ops ∧
      let c := s.context i.val
      answeredAt s t h .done .ok [BitVec.ofNat 64 c.state.code, c.gen.setWidth 64, BitVec.ofNat 64 c.regions.length,
        BitVec.ofNat 64 (s.ringsOf i).length]) ∧
  (∀ (s : State) (h : CmdHdr) (i : CtxId) (td : Teardown), s.accepts h .ctxRelease = true →
    (s.context i.val).state = .quarantined → (s.context i.val).teardown = some td →
    ∃ t, exec (.cmdCtxRelease h (BitVec.ofNat 16 i.val)) s = .next t ∧ (t.context i.val).state = .scrubbing ∧
      answeredAt s t h .done .ok [BitVec.ofNat 64 td.fences.length]) ∧
  (∀ (s : State) (h : CmdHdr) (i : CtxId) (d : BaseDie) (n : Nat) (o : RingOwner) (r : RingIx), s.accepts h .ringCreate = true →
    ringSize n = true → ownerPlace d o = true → (s.context i.val).state = .opened → ownerAssigned (s.context i.val) o = true →
    (s.ring (ringKeyOf d r)).enabled = false → (∀ q : RingIx, q < r → (s.ring (ringKeyOf d q)).enabled = true) →
    ∃ t, exec (.cmdRingCreate h (BitVec.ofNat 16 i.val) d n o) s = .next t ∧
      answeredAt s t h .done .ok [BitVec.ofNat 64 r.val] ∧
      t.ring (ringKeyOf d r) = { Ring.reset with enabled := true, ctx := i, owner := o, entries := n, base := 0x800000 + 0x40000 * r.val, cplBase := 0x1800000 + 0x20000 * r.val } ∧
      ∀ k, k ≠ ringKeyOf d r → t.ring k = s.ring k) ∧
  (∀ (s : State) (h : CmdHdr) (d : BaseDie) (r : RingIx), s.accepts h .ringDelete = true →
    ∃ t, exec (.cmdRingDelete h d r) s = .next t ∧
      if (s.ring (ringKeyOf d r)).enabled = false then answeredAt s t h .failed .notFound [] ∧ t.ops = s.ops
      else if (s.ring (ringKeyOf d r)).live ≠ [] then answeredAt s t h .failed .state [] ∧ t.ops = s.ops
      else answeredAt s t h .done .ok [] ∧ (t.ring (ringKeyOf d r)).enabled = false ∧
        ∀ k, k ≠ ringKeyOf d r → t.ring k = s.ring k) ∧
  (∀ (s : State) (h : CmdHdr) (g : Fin 64) (i : CtxId) (a : PAddr), s.accepts h .bar2Map = true →
    ∃ t, exec (.cmdBar2Map h g (BitVec.ofNat 16 i.val) (some a)) s = .next t ∧
      if i.val = 0 ∨ a.toNat % gib ≠ 0 then answeredAt s t h .failed .badArgs [] ∧ t.host.segments = s.host.segments
      else if (s.context i.val).state = .free then answeredAt s t h .failed .notFound [] ∧ t.host.segments = s.host.segments
      else if (s.context i.val).state ≠ .opened then answeredAt s t h .failed .state [] ∧ t.host.segments = s.host.segments
      else answeredAt s t h .done .ok [] ∧
        t.segment g.val = { valid := true, ctx := i, gib := BitVec.ofNat 18 (a.toNat / gib) } ∧
        ∀ k, k ≠ g.val → t.segment k = s.segment k) ∧
  (∀ (s : State) (h : CmdHdr) (g : Fin 64) (c : BitVec 16), s.accepts h .bar2Map = true →
    ∃ t, exec (.cmdBar2Map h g c none) s = .next t ∧ answeredAt s t h .done .ok [] ∧ (t.segment g.val).valid = false ∧
      ∀ k, k ≠ g.val → t.segment k = s.segment k)

/-- CMD_APPCORE_START of a core that does not run, with a 4 KiB-aligned boot image of up to 64 MiB inside a region of an Open
context assigned to it, leaves the core running with those contexts and releases it at the image; a running core is STATE.
CMD_APPCORE_STOP stops a running core and withdraws its contexts. CMD_IMAGE_INSTALL of 196 to 20,672 bytes in a region of an
Open context runs with six regions to write, and outside the regions is BAD_ARGS. CMD_IMAGE_REMOVE removes an image that
nothing names, and is NOT_FOUND or IMAGE_IN_USE otherwise. CMD_IMAGE_LIST returns up to four image_ids. (R55, R58, R61, R355,
R477, Table 11.14.) -/
def Obligations.CoresAndImagesManaged : Prop :=
  (∀ (s : State) (h : CmdHdr) (k : CoreIx) (a : PAddr) (n : Nat) (i : CtxId), s.accepts h .appcoreStart = true →
    0 < n → n ≤ 64 * 0x100000 → a.toNat % 4096 = 0 → s.faults.padlocked.contains (coreChan k.val) = false →
    (s.context i.val).state = .opened → (s.context i.val).cores.getLsbD k.val = true →
    inRegions (s.context i.val).regions a.toNat n = true →
    ∃ t, exec (.cmdAppcoreStart h k a n [i]) s = .next t ∧
      if (s.core k.val).running = true then answeredAt s t h .failed .state [] ∧ t.compute = s.compute
      else answeredAt s t h .done .ok [] ∧ (t.core k.val).running = true ∧ (t.core k.val).ctxs = [i] ∧
        (t.core k.val).image = a ∧ (t.core k.val).bootInfo = s.bootBlock k [i] ∧ (∀ j, j ≠ k.val → t.core j = s.core j) ∧
        .coreRelease k a (BitVec.ofNat 64 k.val) (BitVec.ofNat 64 (0x800000200000 + 0x1000 * (k.val % 4))) ∈ t.out.drop s.out.length) ∧
  (∀ (s : State) (h : CmdHdr) (k : CoreIx), s.accepts h .appcoreStop = true → ∃ t, exec (.cmdAppcoreStop h k) s = .next t ∧
    if (s.core k.val).running = true then answeredAt s t h .done .ok [] ∧ (t.core k.val).running = false ∧
      (t.core k.val).ctxs = [] ∧ .coreStop k ∈ t.out.drop s.out.length
    else answeredAt s t h .failed .state [] ∧ t.compute = s.compute) ∧
  (∀ (s : State) (h : CmdHdr) (i : CtxId) (a : PAddr) (n : Nat) (key : List Byte), s.accepts h .imageInstall = true →
    (s.context i.val).state = .opened → ∃ t, exec (.cmdImageInstall h (BitVec.ofNat 16 i.val) a n key) s = .next t ∧
      t.compute = s.compute ∧
      if 196 ≤ n ∧ n ≤ 20672 ∧ inRegions (s.context i.val).regions a.toNat n = true then
        longStarted t h (.imageInstall i a n key) 6
      else answeredAt s t h .failed .badArgs []) ∧
  (∀ (s : State) (h : CmdHdr) (x : W32), s.accepts h .imageRemove = true → ∃ t, exec (.cmdImageRemove h x) s = .next t ∧
    if (s.compute.images.any fun i => i.id = x) = false then answeredAt s t h .failed .notFound [] ∧ t.compute = s.compute
    else if s.imageInUse x = true then answeredAt s t h .failed .imageInUse [] ∧ t.compute = s.compute
    else answeredAt s t h .done .ok [] ∧ t.compute.images = s.compute.images.filter fun i => i.id ≠ x) ∧
  (∀ (s : State) (h : CmdHdr) (n : Nat), s.accepts h .imageList = true → ∃ t, exec (.cmdImageList h n) s = .next t ∧
    t.compute = s.compute ∧
    let ids := ((s.compute.images.drop n).take 4).map fun i => i.id.setWidth 64
    answeredAt s t h .done .ok (BitVec.ofNat 64 ids.length :: ids))

/-- Of commands that pass their checks: CMD_DOMAIN_ASSIGN sets ID and size once, a second is ALREADY. CMD_WINDOW_WRITE installs an
entry with valid set and its check fields, and refuses by the first reason of R284 with the table unchanged; CMD_WINDOW_REMOVE
clears a valid entry. CMD_LINKSET_WRITE writes 1 to 8 members, none twice; CMD_FWD_WRITE and CMD_GROUP_WRITE write their
entries. CMD_TWIN_SET names a twin in a domain of 32 modules or fewer. CMD_F8_MODE sets the mode of an F8 that serves no link.
CMD_LINK_KEY puts the key into the idle slot, or is KEY_REFUSED. CMD_LINK_RELEASE of a held link with no request held empties
it, answers the units and the bytes of their LEN fields, and restarts it; units that waited beyond the hold queues are held in
turn. CMD_PEER_RESET marks, forgets the peer's generations, and clears. (R233, R269, R273, R282, R284, R285, R288, R292, R295,
R299, R436, Table 9.1.) -/
def Obligations.FabricManagerFillsTables : Prop :=
  (∀ (s : State) (h : CmdHdr) (id : ModId) (n : Nat), s.accepts h .domainAssign = true → 0 < n → n ≤ 256 →
    ∃ t, exec (.cmdDomainAssign h id n) s = .next t ∧
      if s.domain.id.isSome = true then answeredAt s t h .failed .already [] ∧ t.domain = s.domain
      else answeredAt s t h .done .ok [] ∧ t.domain = { s.domain with id := some id, size := n } ∧
        t.keeper.status.getLsbD 16 = true) ∧
  (∀ (s : State) (h : CmdHdr) (i : BitVec 16) (e : BitVec 256), s.accepts h .windowWrite = true → s.domain.id.isSome = true →
    winReservedOk e = true → ∃ t, exec (.cmdWindowWrite h i e) s = .next t ∧
      match s.windowReason i.toNat e with
      | some r => answeredAt s t h .failed (.windowRefused r) [] ∧ t.domain = s.domain
      | none => answeredAt s t h .done .ok [] ∧ Store.get windowReset t.domain.windows i.toNat = winInstalled e ∧
          ∀ j, j ≠ i.toNat → Store.get windowReset t.domain.windows j = Store.get windowReset s.domain.windows j) ∧
  (∀ (s : State) (h : CmdHdr) (i : BitVec 16), s.accepts h .windowRemove = true →
    ∃ t, exec (.cmdWindowRemove h i) s = .next t ∧
      if winValid (Store.get windowReset s.domain.windows i.toNat) = true then answeredAt s t h .done .ok [] ∧
        Store.get windowReset t.domain.windows i.toNat = windowReset ∧
        ∀ j, j ≠ i.toNat → Store.get windowReset t.domain.windows j = Store.get windowReset s.domain.windows j
      else answeredAt s t h .failed .notFound [] ∧ t.domain = s.domain) ∧
  (∀ (s : State) (h : CmdHdr) (k : Byte) (ls : List LinkIx), s.accepts h .linksetWrite = true → ls ≠ [] → ls.length ≤ 8 →
    ∃ t, exec (.cmdLinksetWrite h k ls) s = .next t ∧
      if ls.Nodup then answeredAt s t h .done .ok [] ∧ t.linkSet k.toNat = ls ∧ ∀ j, j ≠ k.toNat → t.linkSet j = s.linkSet j
      else answeredAt s t h .failed .setDuplicate [] ∧ t.domain = s.domain) ∧
  (∀ (s : State) (h : CmdHdr) (m : ModId) (k : Byte) (v : Bool), s.accepts h .fwdWrite = true →
    ∃ t, exec (.cmdFwdWrite h m k v) s = .next t ∧ answeredAt s t h .done .ok [] ∧
      Store.get none t.domain.forward m.toNat = (if v = true then some k else none) ∧
      ∀ j, j ≠ m.toNat → Store.get none t.domain.forward j = Store.get none s.domain.forward j) ∧
  (∀ (s : State) (h : CmdHdr) (g : Fin 64) (ms : List ModId) (r : Byte), s.accepts h .groupWrite = true → r.toNat < ms.length →
    ∃ t, exec (.cmdGroupWrite h g ms r) s = .next t ∧ answeredAt s t h .done .ok [] ∧
      t.group g.val = { members := ms, rank := r } ∧ ∀ j, j ≠ g.val → t.group j = s.group j) ∧
  (∀ (s : State) (h : CmdHdr) (l : LinkIx) (w : Option LinkIx), s.accepts h .twinSet = true → w ≠ some l →
    ∃ t, exec (.cmdTwinSet h l w) s = .next t ∧
      if w.isSome = true ∧ 32 < s.domain.size then answeredAt s t h .failed .twinRefused [] ∧ t.domain = s.domain
      else answeredAt s t h .done .ok [] ∧ t.link l.val = { s.link l.val with twin := w } ∧ ∀ j, j ≠ l.val → t.link j = s.link j) ∧
  (∀ (s : State) (h : CmdHdr) (e : EngineIx) (b : Bool) (p : ModId), s.accepts h .f8Mode = true →
    (s.engine e.val).f8For = none → ∃ t, exec (.cmdF8Mode h e b p) s = .next t ∧ answeredAt s t h .done .ok [] ∧
      (t.engine e.val).f8Spare = b ∧ (t.engine e.val).f8Peer = p ∧ (b = false → 8 ∈ (t.engine e.val).shut)) ∧
  (∀ (s : State) (h : CmdHdr) (l : LinkIx) (tx : Bool) (key : BitVec 256) (salt id : W32), s.accepts h .linkKey = true →
    s.inSession h.caller = true → s.sec.scopes = 0 → (tx = true → (s.link l.val).retireAt = none) →
    ∃ t, exec (.cmdLinkKey h l tx key salt id true) s = .next t ∧
      if (s.link l.val).keyRefused tx key id = true then answeredAt s t h .failed .keyRefused [] ∧ t.domain = s.domain
      else answeredAt s t h .done .ok [] ∧
        (t.link l.val).keyAt tx ((s.link l.val).idleSlot tx) = some { key := key, salt := salt, keyId := id } ∧
        (t.link l.val).txSlot = (s.link l.val).txSlot ∧ ∀ j, j ≠ l.val → t.link j = s.link j) ∧
  (∀ (s : State) (h : CmdHdr) (l : LinkIx), s.accepts h .linkRelease = true → (∀ u ∈ s.heldUnits l.val, s.unitTag u = none) →
    ∃ t, exec (.cmdLinkRelease h l) s = .next t ∧
      let waits (d : Nat) : Nat := (Store.get [] s.domain.holdQueue (64 * d + l.val)).length - holdDepth
      if (s.link l.val).held = true then answeredAt s t h .done .ok [BitVec.ofNat 64 (s.heldUnits l.val).length,
          BitVec.ofNat 64 ((s.heldUnits l.val).map fun u => uLen u.header).sum] ∧
        (t.link l.val).replay = [] ∧ (t.link l.val).queue = [] ∧ (t.link l.val).restart = true ∧
        ((∀ d < 6, waits d = 0) → (t.link l.val).held = false ∧ t.heldUnits l.val = []) ∧
        ((∃ d < 6, 0 < waits d) → (t.link l.val).held = true)
      else answeredAt s t h .failed .state [] ∧ t.domain = s.domain) ∧
  (∀ (s : State) (h : CmdHdr) (m : ModId), s.accepts h .peerReset = true → ∃ t, exec (.cmdPeerResetMark h m) s = .next t ∧
    answeredAt s t h .done .ok [] ∧ t.domain.peerReset.getLsbD m.toNat = true ∧
    (∀ c : CtxId, Store.get none t.domain.genRecord (pairKey m c) = none) ∧
    ∀ x : ModId, x ≠ m → t.domain.peerReset.getLsbD x.toNat = s.domain.peerReset.getLsbD x.toNat ∧
      ∀ c : CtxId, Store.get none t.domain.genRecord (pairKey x c) = Store.get none s.domain.genRecord (pairKey x c)) ∧
  (∀ (s : State) (h : CmdHdr) (m : ModId), s.accepts h .peerReset = true → ∃ t, exec (.cmdPeerResetClear h m) s = .next t ∧
    answeredAt s t h .done .ok [] ∧ t.domain.peerReset.getLsbD m.toNat = false ∧ t.domain.genRecord = s.domain.genRecord)

/-- Of commands that pass their checks: CMD_FW_WRITE and CMD_FW_VERIFY run on the slot that does not run, the first marking it
invalid; CMD_FW_ACTIVATE of a verified slot prefers it on trial, and is STATE before. CMD_FW_INFO returns the versions, trial
state and svn. CMD_PROFILE_WRITE of a good profile reaches both copies of both parts; CMD_PROFILE_READ returns 176 bytes.
CMD_FAULT_READ and CMD_LEDGER_READ return their counts. CMD_FAULT_N_CLEAR releases FAULT_N. CMD_DUMP_READ of a full slot runs;
CMD_DUMP_RELEASE releases it. CMD_SELFTEST, CMD_LINK_MARGIN and CMD_CAL_RUN run where their tests may. CMD_OWNER_KEY programs
the key once, and only a signed literal revokes it or turns vendor debug off. CMD_DEBUG_UNLOCK stores its token. (R339, R355,
R360, R382, R388, R420, R422, R429, R431, R438, R445, R446.) -/
def Obligations.FirmwareAndServiceCommands : Prop :=
  (∀ (s : State) (h : CmdHdr) (i : CtxId) (a : PAddr) (n : Nat), s.accepts h .fwWrite = true → 0 < n → n ≤ 0x1000000 →
    (s.context i.val).state = .opened → inRegions (s.context i.val).regions a.toNat n = true →
    (s.part 0).out = false → (s.part 1).out = false → ∃ t, exec (.cmdFwWrite h (BitVec.ofNat 16 i.val) a n) s = .next t ∧
      longStarted t h (.fwWrite i a n) n ∧ (t.part s.idlePart).slotValid = false ∧ (t.part s.idlePart).package = [] ∧
      t.part (1 - s.idlePart) = s.part (1 - s.idlePart) ∧ t.keeper.status.getLsbD stUpdate = true) ∧
  (∀ (s : State) (h : CmdHdr), s.accepts h .fwVerify = true → (s.part s.idlePart).out = false →
    ∃ t, exec (.cmdFwVerify h) s = .next t ∧ longStarted t h .fwVerify (s.part s.idlePart).package.length ∧ t.flash = s.flash) ∧
  (∀ (s : State) (h : CmdHdr), s.accepts h .fwActivate = true → (s.part s.idlePart).out = false →
    ∃ t, exec (.cmdFwActivate h) s = .next t ∧
      if (s.part s.idlePart).verified = true then answeredAt s t h .done .ok [] ∧ t.keeper.update = none ∧
        (s.flash.partA.out = false → s.flash.partA.formatted = true → t.flash.partA.boot =
          some { s.bootRecord with preferB := !s.keeper.imageB, trial := true, trialStarts := 0 })
      else answeredAt s t h .failed .state [] ∧ t.flash = s.flash) ∧
  (∀ (s : State) (h : CmdHdr), s.accepts h .fwInfo = true → ∃ t ws, exec (.cmdFwInfo h) s = .next t ∧ t.flash = s.flash ∧
    answeredAt s t h .done .ok ws ∧ ws.getD 0 0 = BitVec.ofNat 64 (s.slotVersion 0) ∧
    ws.getD 1 0 = BitVec.ofNat 64 (s.slotVersion 1) ∧ ws.getD 4 0 = BitVec.ofNat 64 s.sec.svn) ∧
  (∀ (s : State) (h : CmdHdr) (ws : ProfileWords) (n : Nat), s.accepts h .profileWrite = true →
    s.flash.partA.out = false → s.flash.partB.out = false → ∃ t, exec (.cmdProfileWrite h ws n) s = .next t ∧
      if profileOk ws n = true then answeredAt s t h .done .ok [] ∧
        t.flash = { partA := { s.flash.partA with profile1 := ws, profile2 := ws }, partB := { s.flash.partB with profile1 := ws, profile2 := ws } }
      else answeredAt s t h .failed .badArgs [] ∧ t.flash = s.flash) ∧
  (∀ (s : State) (h : CmdHdr), s.accepts h .profileRead = true → ∃ t, exec (.cmdProfileRead h) s = .next t ∧
    answeredAt s t h .done .ok [176] ∧ t.flash = s.flash ∧ ∀ m, callerMbx h.caller = some m →
      (t.mailbox m.val).out = s.profile.1.flatMap fun v => leBytes 8 (critWord v).toNat) ∧
  (∀ (s : State) (h : CmdHdr) (q : W32), s.accepts h .faultRead = true → ∃ t, exec (.cmdFaultRead h q) s = .next t ∧
    answeredAt s t h .done .ok [BitVec.ofNat 64 ((s.recordsFrom q).take 1024).length] ∧ t.faults = s.faults ∧
    ∀ m, callerMbx h.caller = some m → (t.mailbox m.val).out = ((s.recordsFrom q).take 1024).flatMap FaultRecord.bytes) ∧
  (∀ (s : State) (h : CmdHdr), s.accepts h .faultNClear = true → ∃ t, exec (.cmdFaultNClear h) s = .next t ∧
    answeredAt s t h .done .ok [] ∧ t.faults.faultN.held = false ∧ t.faults.faultN.withheld = 0 ∧
    t.keeper.status.getLsbD 21 = false ∧ t.keeper.status.getLsbD 17 = false) ∧
  (∀ (s : State) (h : CmdHdr) (n : Nat), s.accepts h .ledgerRead = true → ∃ t, exec (.cmdLedgerRead h n) s = .next t ∧
    answeredAt s t h .done .ok [BitVec.ofNat 64 ((s.faults.ledger.drop n).take 2048).length] ∧ t.faults.ledger = s.faults.ledger ∧ t.flash = s.flash ∧
    ((∀ off, s.poisoned 12 off = false) → t.faults = s.faults)) ∧
  (∀ (s : State) (h : CmdHdr) (k p : Fin 2) (o n : Nat) (i : CtxId) (a : PAddr) (d : List Byte), s.accepts h .dumpRead = true →
    0 < n → o + n ≤ 0x1000000 → (s.context i.val).state = .opened → inRegions (s.context i.val).regions a.toNat n = true →
    (s.part p.val).out = false → s.dump p.val k.val = .full d →
    ∃ t, exec (.cmdDumpRead h k p o n (BitVec.ofNat 16 i.val) a) s = .next t ∧ longStarted t h (.dumpRead p k o n i a) n ∧
      t.flash = s.flash) ∧
  (∀ (s : State) (h : CmdHdr) (p k : Fin 2), s.accepts h .dumpRelease = true → (s.part p.val).out = false →
    ∃ t, exec (.cmdDumpRelease h p k) s = .next t ∧
      match s.dump p.val k.val with
      | .full d => answeredAt s t h .done .ok [] ∧ t.dump p.val k.val = .released d
      | .released _ => answeredAt s t h .failed .state [] ∧ t.flash = s.flash
      | .erased => answeredAt s t h .failed .notFound [] ∧ t.flash = s.flash) ∧
  (∀ (s : State) (p k : Fin 2) (d : List Byte), s.dump p.val k.val = .released d →
    ∃ t, exec (.dumpSlotEraseComplete p k) s = .next t ∧ t.dump p.val k.val = .erased ∧ t.mem = s.mem ∧ t.out = s.out) ∧
  (∀ (s : State) (h : CmdHdr) (c : Chan) (f n : Nat) (b : Bool), s.accepts h .selftest = true → testable c = true → f ≤ n →
    ∃ t, exec (.cmdSelftest h c f n b) s = .next t ∧ if s.isPadlocked c = false ∧ s.testAllowed c = true then
      longStarted t h (.selftest c f n b) n else answeredAt s t h .failed .state []) ∧
  (∀ (s : State) (h : CmdHdr) (l : LinkIx), s.accepts h .linkMargin = true → ∃ t, exec (.cmdLinkMargin h l) s = .next t ∧
    if (s.link l.val).state = .down ∨ (s.link l.val).state = .waiting then longStarted t h (.linkMargin l) 32
    else answeredAt s t h .failed .state []) ∧
  (∀ (s : State) (h : CmdHdr) (q : CalQuantity) (e : EngineIx) (is : List CalItem), s.accepts h .calRun = true →
    s.runs isCalRun = false → s.runs isHoldOp = false → isOptical q = false →
    ∃ t, exec (.cmdCalRun h q e is) s = .next t ∧ t.cal.words = s.cal.words ∧
      if s.modState = .serviceHold then longStarted t h (.calRun q e is) is.length else answeredAt s t h .failed .state []) ∧
  (∀ (s : State) (h : CmdHdr) (key : List Byte), s.accepts h .ownerKey = true → key.length = 96 →
    ∃ t, exec (.cmdOwnerKeyProgram h key) s = .next t ∧ if s.sec.ownerState = some 0 ∧ s.sec.scopes = 0 then
      answeredAt s t h .done .ok [] ∧ t.sec = { s.sec with ownerHash := some (Config.sha384 key), ownerState := some 1 }
      else answeredAt s t h .failed .keyRefused [] ∧ t.sec = s.sec) ∧
  (∀ (s : State) (h : CmdHdr) (w : W32) (key : List Byte) (sig : BitVec 768), s.accepts h .ownerKey = true →
    ∃ t, exec (.cmdOwnerKeyRevoke h w key sig) s = .next t ∧ if w = 0x5245564B ∧ s.ownerSigned w key sig = true then
      answeredAt s t h .done .ok [] ∧ t.sec = { s.sec with ownerState := some 3 }
      else answeredAt s t h .failed .keyRefused [] ∧ t.sec = s.sec) ∧
  (∀ (s : State) (h : CmdHdr) (w : W32) (key : List Byte) (sig : BitVec 768), s.accepts h .ownerKey = true →
    ∃ t, exec (.cmdVendorDebugOff h w key sig) s = .next t ∧ if w = 0x56444F46 ∧ s.ownerSigned w key sig = true then
      answeredAt s t h .done .ok [] ∧ t.sec = { s.sec with vendorDebugOff := some true }
      else answeredAt s t h .failed .keyRefused [] ∧ t.sec = s.sec) ∧
  (∀ (s : State) (h : CmdHdr) (k : DebugToken), s.accepts h .debugUnlock = true →
    ∃ t, exec (.cmdDebugUnlock h k) s = .next t ∧ answeredAt s t h .done .ok [] ∧ t.sec = { s.sec with token := some k })

/-- LONG_OPERATION_END of an image installation whose region holds no poisoned line installs the image with the first reason 0,
and otherwise ends IMAGE_REFUSED with that reason, changing no image. The end of a firmware write leaves the slot holding the
bytes read and its header valid; of a verification, FW_VERIFY_FAIL for steps 1 to 5 and FW_ROLLBACK for step 6. A hold entered
reads SERVICE_HOLD, and one left READY or DEGRADED. A self-test with no failure, a margin test and a calibration run end DONE
with their counts. A dump copied within one line leaves its bytes in the region. A teardown goes on until its scrub ends. The
mailbox no longer runs an operation. (R53, R54, R221, R355, R356, R360, R388, R420, R421, R428, R445.) -/
def Obligations.LongOperationsEnd : Prop :=
  (∀ (s : State) (m : MbxIx) (o : LongOp) (i : CtxId) (a : PAddr) (n : Nat) (key : List Byte), s.longIn m = some o →
    o.kind = .imageInstall i a n key → s.poisonLines a.toNat n = [] →
    ∃ t, exec (.longOperationEnd m) s = .next t ∧
      let b := (s.load a.toNat n).1
      if s.imageReason b key = 0 then t.compute.images = (s.installImage b).compute.images ∧
        longEnded t { o with done := o.total } .done .ok { o with done := o.total, word4 := (imgId b).setWidth 64 }.words
      else t.compute = s.compute ∧ longEnded t o .failed (.imageRefused (s.imageReason b key))
        { o with word2 := BitVec.ofNat 64 (s.imageReason b key) }.words) ∧
  (∀ (s : State) (m : MbxIx) (o : LongOp), s.longIn m = some o → o.kind = .holdEnter →
    ∃ t, exec (.longOperationEnd m) s = .next t ∧ t.modState = .serviceHold ∧ longEnded t { o with done := o.total } .done .ok
      { o with done := o.total }.words) ∧
  (∀ (s : State) (m : MbxIx) (o : LongOp), s.longIn m = some o → o.kind = .holdLeave →
    ∃ t, exec (.longOperationEnd m) s = .next t ∧ t.modState = (if s.short = true then .degraded else .ready) ∧
      longEnded t { o with done := o.total } .done .ok { o with done := o.total }.words) ∧
  (∀ (s : State) (m : MbxIx) (o : LongOp) (i : CtxId) (a : PAddr) (n : Nat), s.longIn m = some o → o.kind = .fwWrite i a n →
    s.poisonLines a.toNat n = [] → ∃ t, exec (.longOperationEnd m) s = .next t ∧ (t.part s.idlePart).slotValid = true ∧
      (t.part s.idlePart).package = (s.part s.idlePart).package ++ (s.load a.toNat n).1 ∧
      longEnded t { o with done := o.total } .done .ok { o with done := o.total }.words) ∧
  (∀ (s : State) (m : MbxIx) (o : LongOp), s.longIn m = some o → o.kind = .fwVerify →
    ∃ t, exec (.longOperationEnd m) s = .next t ∧ (t.part s.idlePart).verified = (s.slotFault s.idlePart).isNone ∧
      match s.slotFault s.idlePart with
      | none => longEnded t { o with done := o.total } .done .ok { o with done := o.total }.words
      | some k => longEnded t { o with done := o.total } .failed (if k = 6 then .fwRollback else .fwVerifyFail)
          { o with done := o.total, word2 := BitVec.ofNat 64 k }.words) ∧
  (∀ (s : State) (m : MbxIx) (o : LongOp) (p k : Fin 2) (f n : Nat) (i : CtxId) (a : PAddr) (h x : Nat), s.longIn m = some o →
    o.kind = .dumpRead p k f n i a → (s.context i.val).state = .opened → 0 < n → a.toNat % 64 + n ≤ 64 →
    s.place a.toNat = .cell h x → h < 12 → x + n ≤ 0x10000000000 → s.poisoned h x = false →
    ∃ t, exec (.longOperationEnd m) s = .next t ∧ t.bytes h x n = (s.dump p.val k.val).bytes f n ∧
      longEnded t { o with done := o.total } .done .ok { o with done := o.total }.words) ∧
  (∀ (s : State) (m : MbxIx) (o : LongOp) (c : Chan) (n : Nat) (b : Bool), s.longIn m = some o → o.kind = .selftest c 0 n b →
    ∃ t, exec (.longOperationEnd m) s = .next t ∧ t.faults = s.faults ∧
      longEnded t { o with done := o.total } .done .ok { o with done := o.total, word2 := 0, word3 := 0 }.words) ∧
  (∀ (s : State) (m : MbxIx) (o : LongOp) (l : LinkIx), s.longIn m = some o → o.kind = .linkMargin l →
    ∃ t w2 w3, exec (.longOperationEnd m) s = .next t ∧ t.optics = s.optics ∧
      longEnded t { o with done := o.total } .done .ok { o with done := o.total, word2 := w2, word3 := w3 }.words ∧
      w2 = BitVec.ofNat 64 ((s.engine (l.val / 8)).marginFailed.filter fun k => k / 32 = s.linkFiber l.val).length) ∧
  (∀ (s : State) (m : MbxIx) (o : LongOp) (q : CalQuantity) (e : EngineIx) (i : CalItem), s.longIn m = some o →
    o.kind = .calRun q e [i] → isOptical q = false → i.refPresent = true → i.plausible = true → wordPlausible q i.word = true →
    calWordOk i.word = true →
    s.calLost q i = false → ∃ t, exec (.longOperationEnd m) s = .next t ∧
      Store.get 0 t.cal.words (65536 * calCode q + i.index) = i.word ∧ t.cal.generation = s.cal.generation + 1 ∧
      t.cal.copyA = t.cal.copyB ∧ Store.get 0 t.cal.copyA.words (65536 * calCode q + i.index) = i.word ∧
      t.cal.copyA.present (Store.get 0 s.keeper.serials 0) = true ∧
      longEnded t { o with done := o.total } .done .ok { o with done := o.total, word2 := BitVec.ofNat 64 s.cal.failed }.words) ∧
  (∀ (s : State) (m : MbxIx) (o : LongOp) (i : CtxId), s.longIn m = some o → o.kind = .teardown i →
    exec (.longOperationEnd m) s = .next s)

/-- On a transport that is up: SPDM_GET_VERSION answers 1.3 and starts that connection's negotiation alone; SPDM_GET_CAPABILITIES
and SPDM_NEGOTIATE_ALGORITHMS follow in order, and out of order are errors. After them, with uds and the Alias key present,
SPDM_GET_DIGESTS, SPDM_GET_CERTIFICATE and SPDM_CHALLENGE answer for slot 0 and refuse another slot, and SPDM_GET_MEASUREMENTS
answers the indices 1 to 8 asked for, signed on request. With uds absent each of these answers Unspecified. An unsupported
request answers UnsupportedRequest. None changes memory, fuses or keys; on a transport that is down nothing happens. The order
of requests before negotiation is the model's reading (log entry 122). (R432, R433, R434, R435, Table 15.3, Table 15.4.) -/
def Obligations.SpdmNegotiatesAndAttests : Prop :=
  (∀ (s : State) (c : SpdmConn), s.spdmUp c = true → ∃ t, exec (.spdmGetVersion c) s = .next t ∧
    t.out = s.out ++ [.spdm c (.version 0x13)] ∧ t.spdmPhase c = .version ∧ (∀ d, d ≠ c → t.spdmPhase d = s.spdmPhase d) ∧
    t.mem = s.mem ∧ t.sec.aliasKey = s.sec.aliasKey ∧ t.sec.sessions = s.sec.sessions) ∧
  (∀ (s : State) (c : SpdmConn), s.spdmUp c = true → ∃ t, exec (.spdmGetCapabilities c) s = .next t ∧
    if s.spdmPhase c = .version then t.out = s.out ++ [.spdm c .capabilities] ∧ t.spdmPhase c = .capabilities
    else t.out = s.out ++ [.spdm c .errorUnexpected] ∧ t.sec = s.sec) ∧
  (∀ (s : State) (c : SpdmConn) (b : Bool), s.spdmUp c = true → ∃ t, exec (.spdmNegotiateAlgorithms c b) s = .next t ∧
    if s.spdmPhase c = .capabilities then t.out = s.out ++ [.spdm c (.algorithms b)] ∧
      t.spdmPhase c = (if b = true then .algorithms else .capabilities)
    else t.out = s.out ++ [.spdm c .errorUnexpected] ∧ t.sec = s.sec) ∧
  (∀ (s : State) (c : SpdmConn) (u k : BitVec 384), s.spdmUp c = true → s.sec.uds = some u → s.sec.aliasKey = some k →
    s.spdmPhase c = .algorithms → ∃ t, exec (.spdmGetDigests c) s = .next t ∧
      t.out = s.out ++ [.spdm c (.digests (Config.chainDigest k))] ∧ t.sec = s.sec ∧ t.mem = s.mem) ∧
  (∀ (s : State) (c : SpdmConn) (n : Nat) (u k : BitVec 384), s.spdmUp c = true → s.sec.uds = some u →
    s.sec.aliasKey = some k → s.spdmPhase c = .algorithms → ∃ t, exec (.spdmGetCertificate c n) s = .next t ∧ t.sec = s.sec ∧
      t.out = s.out ++ [.spdm c (if n = 0 then .certificate 0 else .errorInvalid)]) ∧
  (∀ (s : State) (c : SpdmConn) (n : Nat) (x : BitVec 256) (u k : BitVec 384), s.spdmUp c = true → s.sec.uds = some u →
    s.sec.aliasKey = some k → s.spdmPhase c = .algorithms → ∃ t, exec (.spdmChallenge c n x) s = .next t ∧ t.sec = s.sec ∧
      t.out = s.out ++ [.spdm c (if n = 0 then .challenge (Config.sign k (Config.transcript s.freeIx x)) else .errorInvalid)]) ∧
  (∀ (s : State) (c : SpdmConn) (is : List (Fin 9)) (b : Bool) (x : BitVec 256) (u k : BitVec 384), s.spdmUp c = true →
    s.sec.uds = some u → s.sec.aliasKey = some k → s.spdmPhase c = .algorithms →
    ∃ t, exec (.spdmGetMeasurements c is b x) s = .next t ∧ t.sec = s.sec ∧ t.mem = s.mem ∧ t.out = s.out ++ [.spdm c
      (if 0 ∈ is then .errorInvalid else .measurements (is.map fun i => (i.val, s.measurement i.val))
        (if b = true then some (Config.sign k (Config.transcript s.freeIx x)) else none))]) ∧
  (∀ (s : State) (c : SpdmConn) (is : List (Fin 9)) (b : Bool) (x : BitVec 256), s.spdmUp c = true → s.sec.uds = none →
    ∃ t, exec (.spdmGetMeasurements c is b x) s = .next t ∧ t.out = s.out ++ [.spdm c .errorUnspecified] ∧ t.sec = s.sec) ∧
  (∀ (s : State) (c : SpdmConn) (x : Byte), s.spdmUp c = true → ∃ t, exec (.spdmUnsupportedRequest c x) s = .next t ∧ t.sec = s.sec ∧
    t.out = s.out ++ [.spdm c (if s.sec.uds = none then .errorUnspecified else .errorUnsupported)]) ∧
  (∀ (s : State) (c : SpdmConn), s.spdmUp c = false → exec (.spdmGetVersion c) s = .next s)

/-- On a negotiated connection with uds and the Alias key present: SPDM_KEY_EXCHANGE over MCTP with fewer than four sessions adds
one, not yet established, with a new identifier; with four it is an error, and over DOE it is unsupported. SPDM_FINISH that
verifies establishes a session of the connection that is not, and one that does not verify ends it. On an established session
SPDM_KEY_UPDATE counts an update, SPDM_HEARTBEAT is answered, and SPDM_END_SESSION removes it and leaves every link and its
keys as they were; on no such session each is an error. (R433, R436, Table 15.3.) -/
def Obligations.SpdmSessionsOpenAndEnd : Prop :=
  (∀ (s : State) (c : SpdmConn) (u k : BitVec 384), s.spdmUp c = true → s.sec.uds = some u → s.sec.aliasKey = some k →
    s.spdmPhase c = .algorithms → ∃ t, exec (.spdmKeyExchange c) s = .next t ∧
      if overMctp c = false then t.out = s.out ++ [.spdm c .errorUnsupported] ∧ t.sec = s.sec
      else if 4 ≤ s.sec.sessions.length then t.out = s.out ++ [.spdm c .errorSessionLimit] ∧ t.sec = s.sec
      else t.out = s.out ++ [.spdm c (.keyExchange s.sec.nextSession)] ∧ t.sec.nextSession = s.sec.nextSession + 1 ∧
        t.sec.sessions = s.sec.sessions ++ [{ id := s.sec.nextSession, conn := c, established := false, updates := 0 }]) ∧
  (∀ (s : State) (c : SpdmConn) (i : Nat) (b : Bool) (x : Session) (u k : BitVec 384), s.spdmUp c = true →
    s.sec.uds = some u → s.sec.aliasKey = some k → s.spdmPhase c = .algorithms → s.session c i = some x →
    x.established = false → ∃ t, exec (.spdmFinish c i b) s = .next t ∧
      if b = true then t.openSession c i = true ∧ t.out = s.out ++ [.spdm c .finish] ∧
        t.sec.sessions.length = s.sec.sessions.length
      else t.session c i = none ∧ t.out = s.out ++ [.spdm c .errorDecrypt]) ∧
  (∀ (s : State) (c : SpdmConn) (i : Nat) (u k : BitVec 384), s.spdmUp c = true → s.sec.uds = some u →
    s.sec.aliasKey = some k → s.spdmPhase c = .algorithms → ∃ t, exec (.spdmEndSession c i) s = .next t ∧ t.domain = s.domain ∧
      if s.openSession c i = true then t.session c i = none ∧ t.out = s.out ++ [.spdm c .endSession] ∧
        ∀ d j, ¬(j = i ∧ d = c) → t.session d j = s.session d j
      else t.sec = s.sec ∧ t.out = s.out ++ [.spdm c .errorInvalid]) ∧
  (∀ (s : State) (c : SpdmConn) (i : Nat) (x : Session) (u k : BitVec 384), s.spdmUp c = true → s.sec.uds = some u →
    s.sec.aliasKey = some k → s.spdmPhase c = .algorithms → s.session c i = some x → x.established = true →
    ∃ t, exec (.spdmKeyUpdate c i) s = .next t ∧ t.session c i = some { x with updates := x.updates + 1 } ∧
      t.out = s.out ++ [.spdm c .keyUpdate] ∧ t.domain = s.domain) ∧
  (∀ (s : State) (c : SpdmConn) (i : Nat) (u k : BitVec 384), s.spdmUp c = true → s.sec.uds = some u →
    s.sec.aliasKey = some k → s.spdmPhase c = .algorithms → ∃ t, exec (.spdmHeartbeat c i) s = .next t ∧ t.sec = s.sec ∧
      t.out = s.out ++ [.spdm c (if s.openSession c i = true then .heartbeat else .errorInvalid)])

/-- CONSOLE_LINE over 128 characters or overrun prints ERR overrun and runs nothing; before ready a command that R444 does not
list ends NOT_READY; while a command runs a line does nothing. CONSOLE_CTRL_C marks a cancellable operation of mailbox 15.
UART_BREAK discards characters until the next line. CONSOLE_TEST outside the state it needs ends STATE, of a padlocked channel
SKIP PADLOCKED, and otherwise runs CMD_SELFTEST in mailbox 15. CONSOLE_READ_RAIL reports an off rail as off. FLASH_FORMAT in
SERVICE_HOLD formats a part whose header is absent. In FAILED, ROM_INFO prints both slots, ROM_LOAD leaves a transferred
package in its slot with its verification, an interrupted one invalid, and ROM_BOOT starts the boot ROM again. (R441, R442,
R443, R444, R445, R446, R448, R450, R454, R467.) -/
def Obligations.ConsoleCommandsRunAndRecover : Prop :=
  (∀ (s : State) (cs : List Byte) (k : ConsoleCmd) (o : Bool), s.consoleHears = true → (o = true ∨ 128 < cs.length) →
    ∃ t, exec (.consoleLine cs k o) s = .next t ∧ t.out = s.out ++ [.line "ERR overrun" []] ∧ t.console.breaking = false ∧
      t.keeper = s.keeper ∧ t.mem = s.mem) ∧
  (∀ (s : State) (cs : List Byte) (k : ConsoleCmd), s.consoleHears = true → cs.length ≤ 128 → s.keeper.idore = true →
    s.ready = false → earlyConsole k = false → ∃ t, exec (.consoleLine cs k false) s = .next t ∧
      t.out = s.out ++ [.line "RESULT NOT_READY" []] ∧ t.keeper = s.keeper ∧ t.mem = s.mem) ∧
  (∀ (s : State) (cs : List Byte) (k : ConsoleCmd) (o : Bool), s.console.busy = true →
    exec (.consoleLine cs k o) s = .next s) ∧
  (∀ (s : State) (cs : List Byte), s.consoleHears = true → cs.length ≤ 128 → s.keeper.idore = true →
    s.mbxBusy 15 = false → ∃ t, exec (.consoleLine cs .info false) s = .next t ∧ s.infoLine ∈ t.out.drop s.out.length ∧
      t.out.getLast? = some (.line "RESULT PASS" []) ∧ t.console.busy = false ∧ cstatPhase (t.mailbox 15).cstat = 3) ∧
  (∀ (s : State) (o : LongOp), s.longIn 15 = some o → o.cancellable = true → ∃ t, exec .consoleCtrlC s = .next t ∧
    t.out = s.out ∧ t.mem = s.mem ∧ ∀ x ∈ t.keeper.longOps, x.mbx = 15 → x.cancelling = true) ∧
  (∀ (s : State), s.longIn 15 = none → exec .consoleCtrlC s = .next s) ∧
  (∀ (s : State), exec .uartBreak s = .next { s with console := { s.console with breaking := true } }) ∧
  (∀ (s : State) (c : Chan) (f n : Nat) (b : Bool), s.consoleHears = true → s.keeper.idore = true → s.ready = true →
    ∃ t, exec (.consoleTest c true false false f n b) s = .next t ∧
      if s.modState ≠ .serviceHold then t.out = s.out ++ [.line "RESULT STATE" []] ∧ t.keeper = s.keeper
      else if s.isPadlocked c = true then t.out = s.out ++ [.line "RESULT SKIP PADLOCKED" []] ∧ t.keeper = s.keeper
      else testable c = true → s.testAllowed c = true → f ≤ n → s.mbxBusy 15 = false → s.keeper.longOps.length < 4 →
        t.console.busy = true ∧ cstatPhase (t.mailbox 15).cstat = 2 ∧
        ∃ o ∈ t.keeper.longOps, o.mbx = 15 ∧ o.kind = .selftest c f n b ∧ o.caller = .console) ∧
  (∀ (s : State) (r : Byte) (mv mw : Nat), s.consoleHears = true → s.keeper.idore = true → s.ready = true →
    (railSpec r.toNat).isSome = true → ∃ t, exec (.consoleReadRail (some r) mv mw) s = .next t ∧ t.keeper = s.keeper ∧
      t.out = s.out ++ [if s.railOff r.toNat = true then .line "rail off INFO" [Int.ofNat r.toNat]
        else .line "rail INFO" [Int.ofNat r.toNat, Int.ofNat mv, Int.ofNat mw], .line "RESULT PASS" []]) ∧
  (∀ (s : State) (p : Fin 2), s.consoleHears = true → s.keeper.idore = true → s.ready = true →
    s.modState = .serviceHold → (s.part p.val).formatted = false → (s.part p.val).out = false →
    ∃ t, exec (.flashFormat p) s = .next t ∧ (t.part p.val).formatted = true ∧ (t.part p.val).slotValid = false ∧
      (t.part p.val).package = [] ∧ t.part (1 - p.val) = s.part (1 - p.val) ∧ t.out = s.out ++ [.line "RESULT PASS" []]) ∧
  (∀ (s : State), s.consoleHears = true → s.romServes = true → ∃ t, exec .romInfo s = .next t ∧ t.flash = s.flash ∧
    t.out = s.out ++ [s.romLine 0, s.romLine 1, .line "RESULT PASS" []]) ∧
  (∀ (s : State) (p : Fin 2) (img : List Byte) (b : Bool), s.consoleHears = true → s.romServes = true →
    (s.part p.val).out = false → ∃ t, exec (.romLoad p img b) s = .next t ∧ t.part (1 - p.val) = s.part (1 - p.val) ∧
      if b = true then (t.part p.val).package = img ∧ (t.part p.val).slotValid = true ∧
        (t.part p.val).verified = (t.slotFault p.val).isNone
      else (t.part p.val).slotValid = false ∧ t.out = s.out ++ [.line "RESULT CANCELLED" []]) ∧
  (∀ (s : State), s.consoleHears = true → s.romServes = true → ∃ t, exec .romBoot s = .next t ∧ t.keeper.rom = true ∧
    t.modState = .booting ∧ t.faults.faultN.held = false ∧ t.keeper.imageB = (trialRules s.bootRecord).preferB)

/-- For every command and every rest of a queue, a step of a state with the command in front of the rest is exec of that command
on the state with the rest. With an empty queue a step answers the same state with the timestamp counter 1 higher where P0's
PLL has locked, and the same state otherwise. That a tick passes on an empty queue is the model's choice (log entry 2).
(R322.) -/
def Obligations.StepRunsTheFrontCommand : Prop :=
  (∀ (s : State) (c : Instr) (rest : List Instr), s.pending = c :: rest → step s = exec c { s with pending := rest }) ∧
  (∀ s : State, s.pending = [] → step s = .next (if (s.base 0).pllLocked = true
    then { s with tel := { s.tel with timestamp := s.tel.timestamp + 1 } } else s))

/-- State.reset has no module ID, every window entry at its printed reset value, no link set and no forwarding entry, every
context Free at generation 0, every ring disabled, every link ABSENT, every mailbox word 0, a status word that reads 0, the
timestamp and the doorbell counts at 0, DBL_EVT_MASK all ones, every record kind enabled, the telemetry interval 1,000 and an
empty queue. Its memory is canonical, it is within the module's bounds, and its windows do not overlap: what
StepKeepsMemoryCanonical, StepKeepsBounds and WindowsNeverOverlap keep. (R100, R162, R282, R322, R323, R327, R344, Table 8.10,
Table 9.1, Table 11.9, Table 11.10.) -/
def Obligations.ResetMeetsEveryInvariant : Prop :=
  State.reset.domain.id = none ∧ (∀ k, Store.get windowReset State.reset.domain.windows k = 0xFFFFFFFF00000000FFFFFFFF00000000) ∧
  (∀ k, State.reset.linkSet k = [] ∧ Store.get none State.reset.domain.forward k = none) ∧
  (∀ k, (State.reset.context k).state = .free ∧ (State.reset.context k).gen = 0) ∧
  (∀ k, (State.reset.ring k).enabled = false) ∧ (∀ k, (State.reset.link k).state = .absent) ∧
  (∀ k, (State.reset.mailbox k).cstat = 0 ∧ (State.reset.mailbox k).cmd = 0) ∧ State.reset.statusWord = 0 ∧
  State.reset.tel.timestamp = 0 ∧ State.reset.keeper.fwcTail = 0 ∧ State.reset.keeper.evtTail = 0 ∧
  State.reset.keeper.evtMask = 0xFFFFFFFFFFFFFFFF ∧ State.reset.tel.ctrl = 0xFFFFFFFFFFFFFFFF ∧
  State.reset.tel.interval = 1000 ∧ State.reset.pending = [] ∧
  State.reset.canonical = true ∧ State.reset.bounded ∧ State.reset.windowsApart

/-- From every state whose cells and poison marks are in canonical form, keys strictly rising and no entry equal to what an
unlisted key reads as, a step, whatever command it runs, answers a state whose cells and poison marks are in canonical form.
(R136, R148, R161, R162.) -/
def Obligations.StepKeepsMemoryCanonical : Prop :=
  ∀ s t : State, s.canonical = true → step s = .next t → t.canonical = true

/-- From every state within the module's bounds, a step, whatever command it runs, answers a state within them: at most four long
operations run, at most four SPDM sessions are open, the keeper's fault queue holds at most 256 records and the log at most
4,096, Idore holds at most 4,096 event slots, both telemetry intervals lie in 100 to 1,000,000 microseconds, and no port holds
a vector above 69 pending. And every MSI-X message that the step sends bears a vector of at most 69. (R312, R323, R356, R372,
R433, R482, Table 12.11.) -/
def Obligations.StepKeepsBounds : Prop :=
  ∀ s t : State, s.bounded → step s = .next t → t.bounded ∧
    ∀ p v, Out.msix p v ∈ t.out.drop s.out.length → v.toNat ≤ 69

/-- From every state in which no two valid window entries of different indices overlap in one local context and target module, and
every link set names at most 8 links and none twice, a step, whatever command it runs, answers such a state. So at most one
valid entry covers any triple of local context, target module and offset. (R284, R285, R286, R288.) -/
def Obligations.WindowsNeverOverlap : Prop :=
  (∀ s t : State, s.windowsApart → step s = .next t → t.windowsApart) ∧
  ∀ (s : State) (p q : Nat × BitVec 256) (off : Nat), s.windowsApart → p ∈ s.domain.windows → q ∈ s.domain.windows →
    winValid p.2 = true → winValid q.2 = true → winContext p.2 = winContext q.2 → winModule p.2 = winModule q.2 →
    winHolds p.2 off 1 = true → winHolds q.2 off 1 = true → p.1 = q.1

/-- For every command and every state, exec answers a next state: no command faults or is refused, an event whose condition does
not hold changing nothing (the model's choice, log entry 4). That state's queue of waiting commands is the state's own, and
what the module has sent before stands at the front of what it has sent after. (R302, R310, R354.) -/
def Obligations.EveryCommandAnswersAndKeepsTheQueue : Prop :=
  ∀ (c : Instr) (s : State), ∃ t, exec c s = .next t ∧ t.pending = s.pending ∧ ∃ sent, t.out = s.out ++ sent

/-- The interval at reset is 1,000 microseconds. A write of TEL_INTERVAL by the keeper or by the host through an active port that
serves leaves the interval in force as it is, and the value that the next boundary puts into force is the value written, or
100 or 1,000,000 where it lies below or above. Of two writes before a boundary the second stands, whoever made them. The
boundary puts the last value into force. (R323.) -/
def Obligations.TelemetryIntervalClamped : Prop :=
  State.reset.tel.interval = 1000 ∧ State.reset.tel.nextInterval = 1000 ∧
  (∀ (s : State) (a : Agent) (us : W32), (a = .keeper ∨ ∃ p, a = .host p ∧ (s.port p).serves = true ∧ (s.port p).active = true) →
    ∃ t, exec (.telIntervalWrite a us) s = .next t ∧ t.tel.interval = s.tel.interval ∧
      (us.toNat < 100 → t.tel.nextInterval = 100) ∧ (1000000 < us.toNat → t.tel.nextInterval = 1000000) ∧
      (100 ≤ us.toNat → us.toNat ≤ 1000000 → t.tel.nextInterval = us.toNat) ∧ t.host = s.host ∧
      ((s.base 0).pllLocked = true → ∃ u, exec .telemetryBoundary t = .next u ∧ u.tel.interval = t.tel.nextInterval)) ∧
  (∀ (s t : State) (a b : Agent) (x y : W32), (a = .keeper ∨ ∃ p, a = .host p ∧ (s.port p).serves = true ∧ (s.port p).active = true) →
    (b = .keeper ∨ ∃ p, b = .host p ∧ (s.port p).serves = true ∧ (s.port p).active = true) →
    exec (.telIntervalWrite a x) s = .next t → exec (.telIntervalWrite b y) t = exec (.telIntervalWrite b y) s)
end

