-- ==== Sys2Proof/Laws/Store.lean ====
section
/-! SUPPORT. The laws of sparse storage: a read after a write, and that every write keeps the canonical form. -/

namespace Sys2Proof.Machine

variable {α : Type}

@[simp] theorem Store.get_nil (d : α) (k : Nat) : Store.get d [] k = d := rfl

theorem Store.get_drop_self (d : α) (m : Store α) (k : Nat) : Store.get d (Store.drop m k) k = d := by
  induction m with
  | nil => rfl
  | cons e m ih =>
    by_cases h : e.1 = k
    · simpa [Store.drop, h] using ih
    · simpa [Store.drop, h, Store.get] using ih

theorem Store.get_drop_other (d : α) (m : Store α) {k i : Nat} (hi : i ≠ k) :
    Store.get d (Store.drop m k) i = Store.get d m i := by
  induction m with
  | nil => rfl
  | cons e m ih =>
    by_cases h : e.1 = k
    · have : ¬ e.1 = i := fun h' => hi (h' ▸ h)
      simpa [Store.drop, h, Store.get, this, Ne.symm hi] using ih
    · simp only [Store.drop, h, ne_eq, not_false_eq_true, decide_true, List.filter_cons_of_pos, Store.get]
      rw [← ih]; rfl

theorem Store.get_insert_self (d : α) (m : Store α) (k : Nat) (v : α) : Store.get d (Store.insert m k v) k = v := by
  induction m with
  | nil => simp [Store.insert, Store.get]
  | cons e m ih =>
    simp only [Store.insert]
    split
    · next h => simp only [Store.get, if_neg (Nat.ne_of_lt h), ih]
    · split <;> simp [Store.get]

theorem Store.get_insert_other (d : α) (m : Store α) {k i : Nat} (v : α) (hi : i ≠ k) :
    Store.get d (Store.insert m k v) i = Store.get d m i := by
  induction m with
  | nil => simp [Store.insert, Store.get, Ne.symm hi]
  | cons e m ih =>
    simp only [Store.insert]
    split
    · simp only [Store.get, ih]
    · split
      · next h => simp [Store.get, h, Ne.symm hi]
      · simp [Store.get, Ne.symm hi]

theorem Store.above_of_lt {k j : Nat} (h : k < j) {m : Store α} (hm : Store.above j m = true) :
    Store.above k m = true := by
  simp only [Store.above, List.all_eq_true, decide_eq_true_eq] at *
  exact fun e he => Nat.lt_trans h (hm e he)

theorem Store.above_filter {k : Nat} (p : Nat × α → Bool) {m : Store α} (hm : Store.above k m = true) :
    Store.above k (m.filter p) = true := by
  simp only [Store.above, List.all_eq_true, decide_eq_true_eq] at *
  exact fun e he => hm e (List.mem_filter.mp he).1

theorem Store.above_insert {m : Store α} {k j : Nat} (hj : j < k) (hm : Store.above j m = true) (v : α) :
    Store.above j (Store.insert m k v) = true := by
  induction m with
  | nil => simp [Store.insert, Store.above, hj]
  | cons e m ih =>
    simp only [Store.above, List.all_cons, Bool.and_eq_true, decide_eq_true_eq] at hm ih
    simp only [Store.insert]
    split
    · simp [Store.above, hm.1, ih hm.2]
    · split <;> simp [Store.above, hj, hm.1, hm.2]

variable [DecidableEq α]

/-- Reading the key just written gives the value written. -/
@[simp] theorem Store.get_put_self (d : α) (m : Store α) (k : Nat) (v : α) : Store.get d (Store.put d m k v) k = v := by
  unfold Store.put
  split
  · next h => rw [h]; exact Store.get_drop_self d m k
  · exact Store.get_insert_self d m k v

/-- A write leaves every other key as it was. -/
theorem Store.get_put_other (d : α) (m : Store α) {k i : Nat} (v : α) (h : i ≠ k) :
    Store.get d (Store.put d m k v) i = Store.get d m i := by
  unfold Store.put
  split
  · exact Store.get_drop_other d m h
  · exact Store.get_insert_other d m v h

/-- A read after a write, at any key. -/
theorem Store.get_put (d : α) (m : Store α) (k i : Nat) (v : α) :
    Store.get d (Store.put d m k v) i = if i = k then v else Store.get d m i := by
  split
  · next h => rw [h]; exact Store.get_put_self d m k v
  · next h => exact Store.get_put_other d m v h

/-- Keeping some entries keeps the canonical form. -/
theorem Store.wf_filter (d : α) (p : Nat × α → Bool) (m : Store α) (hm : Store.wf d m = true) :
    Store.wf d (m.filter p) = true := by
  induction m with
  | nil => rfl
  | cons e m ih =>
    simp only [Store.wf, Bool.and_eq_true] at hm
    rw [List.filter_cons]
    split
    · simp [Store.wf, Store.above_filter p hm.1, hm.2.1, ih hm.2.2]
    · exact ih hm.2.2

theorem Store.wf_insert (d : α) (m : Store α) (k : Nat) (v : α) (hv : v ≠ d) (hm : Store.wf d m = true) :
    Store.wf d (Store.insert m k v) = true := by
  induction m with
  | nil => simp [Store.insert, Store.wf, Store.above, hv]
  | cons e m ih =>
    obtain ⟨j, w⟩ := e
    simp only [Store.wf, Bool.and_eq_true] at hm
    simp only [Store.insert]
    split
    · next h => simp [Store.wf, Store.above_insert h hm.1 v, hm.2.1, ih hm.2.2]
    · split
      · next h => subst h; simp [Store.wf, hv, hm.1, hm.2.2]
      · next h1 h2 =>
        have hk : k < j := by omega
        have ha : Store.above k ((j, w) :: m) = true := by
          have := Store.above_of_lt hk hm.1
          simp only [Store.above] at this
          simp [Store.above, hk, this]
        simp [Store.wf, hv, ha, hm.1, hm.2.1, hm.2.2]

/-- A write keeps the canonical form. -/
theorem Store.wf_put (d : α) (m : Store α) (k : Nat) (v : α) (hm : Store.wf d m = true) :
    Store.wf d (Store.put d m k v) = true := by
  unfold Store.put
  split
  · exact Store.wf_filter d _ m hm
  · next h => exact Store.wf_insert d m k v h hm

theorem Store.wf_modify (d : α) (m : Store α) (k : Nat) (f : α → α) (hm : Store.wf d m = true) :
    Store.wf d (Store.modify d m k f) = true := Store.wf_put d m k _ hm

@[simp] theorem Store.get_modify_self (d : α) (m : Store α) (k : Nat) (f : α → α) :
    Store.get d (Store.modify d m k f) k = f (Store.get d m k) := Store.get_put_self d m k _

theorem Store.get_modify_other (d : α) (m : Store α) {k i : Nat} (f : α → α) (h : i ≠ k) :
    Store.get d (Store.modify d m k f) i = Store.get d m i := Store.get_put_other d m _ h

end Sys2Proof.Machine
end

