-- ==== Sys2Proof/Laws/State.lean ====
section
/-! SUPPORT. What each update of the state leaves as it was, one lemma per field, and what it writes. -/

namespace Sys2Proof.Machine

@[simp] theorem State.setRail_rail (s : State) (k : Nat) (v : Rail) : (s.setRail k v).rail k = v := Store.get_put_self _ _ _ _
theorem State.setRail_rail_other (s : State) {k i : Nat} (v : Rail) (h : i ≠ k) : (s.setRail k v).rail i = s.rail i :=
  Store.get_put_other _ _ v h
@[simp] theorem State.modRail_rail (s : State) (k : Nat) (f : Rail → Rail) : (s.modRail k f).rail k = f (s.rail k) := State.setRail_rail s k _
theorem State.modRail_rail_other (s : State) {k i : Nat} (f : Rail → Rail) (h : i ≠ k) : (s.modRail k f).rail i = s.rail i :=
  State.setRail_rail_other s _ h
@[simp] theorem State.modRail_thermal (s : State) (k : Nat) (f : Rail → Rail) : (s.modRail k f).thermal = s.thermal := rfl
@[simp] theorem State.modRail_host (s : State) (k : Nat) (f : Rail → Rail) : (s.modRail k f).host = s.host := rfl
@[simp] theorem State.modRail_tel (s : State) (k : Nat) (f : Rail → Rail) : (s.modRail k f).tel = s.tel := rfl
@[simp] theorem State.modRail_faults (s : State) (k : Nat) (f : Rail → Rail) : (s.modRail k f).faults = s.faults := rfl
@[simp] theorem State.modRail_keeper (s : State) (k : Nat) (f : Rail → Rail) : (s.modRail k f).keeper = s.keeper := rfl
@[simp] theorem State.modRail_flash (s : State) (k : Nat) (f : Rail → Rail) : (s.modRail k f).flash = s.flash := rfl
@[simp] theorem State.modRail_compute (s : State) (k : Nat) (f : Rail → Rail) : (s.modRail k f).compute = s.compute := rfl
@[simp] theorem State.modRail_ops (s : State) (k : Nat) (f : Rail → Rail) : (s.modRail k f).ops = s.ops := rfl
@[simp] theorem State.modRail_mem (s : State) (k : Nat) (f : Rail → Rail) : (s.modRail k f).mem = s.mem := rfl
@[simp] theorem State.modRail_d2d (s : State) (k : Nat) (f : Rail → Rail) : (s.modRail k f).d2d = s.d2d := rfl
@[simp] theorem State.modRail_optics (s : State) (k : Nat) (f : Rail → Rail) : (s.modRail k f).optics = s.optics := rfl
@[simp] theorem State.modRail_domain (s : State) (k : Nat) (f : Rail → Rail) : (s.modRail k f).domain = s.domain := rfl
@[simp] theorem State.modRail_cal (s : State) (k : Nat) (f : Rail → Rail) : (s.modRail k f).cal = s.cal := rfl
@[simp] theorem State.modRail_sec (s : State) (k : Nat) (f : Rail → Rail) : (s.modRail k f).sec = s.sec := rfl
@[simp] theorem State.modRail_console (s : State) (k : Nat) (f : Rail → Rail) : (s.modRail k f).console = s.console := rfl
@[simp] theorem State.modRail_out (s : State) (k : Nat) (f : Rail → Rail) : (s.modRail k f).out = s.out := rfl
@[simp] theorem State.modRail_freeIx (s : State) (k : Nat) (f : Rail → Rail) : (s.modRail k f).freeIx = s.freeIx := rfl
@[simp] theorem State.modRail_pending (s : State) (k : Nat) (f : Rail → Rail) : (s.modRail k f).pending = s.pending := rfl

@[simp] theorem State.setGovernor_governor (s : State) (k : Nat) (v : Governor) : (s.setGovernor k v).governor k = v := Store.get_put_self _ _ _ _
theorem State.setGovernor_governor_other (s : State) {k i : Nat} (v : Governor) (h : i ≠ k) : (s.setGovernor k v).governor i = s.governor i :=
  Store.get_put_other _ _ v h
@[simp] theorem State.modGovernor_governor (s : State) (k : Nat) (f : Governor → Governor) : (s.modGovernor k f).governor k = f (s.governor k) := State.setGovernor_governor s k _
theorem State.modGovernor_governor_other (s : State) {k i : Nat} (f : Governor → Governor) (h : i ≠ k) : (s.modGovernor k f).governor i = s.governor i :=
  State.setGovernor_governor_other s _ h
@[simp] theorem State.modGovernor_thermal (s : State) (k : Nat) (f : Governor → Governor) : (s.modGovernor k f).thermal = s.thermal := rfl
@[simp] theorem State.modGovernor_host (s : State) (k : Nat) (f : Governor → Governor) : (s.modGovernor k f).host = s.host := rfl
@[simp] theorem State.modGovernor_tel (s : State) (k : Nat) (f : Governor → Governor) : (s.modGovernor k f).tel = s.tel := rfl
@[simp] theorem State.modGovernor_faults (s : State) (k : Nat) (f : Governor → Governor) : (s.modGovernor k f).faults = s.faults := rfl
@[simp] theorem State.modGovernor_keeper (s : State) (k : Nat) (f : Governor → Governor) : (s.modGovernor k f).keeper = s.keeper := rfl
@[simp] theorem State.modGovernor_flash (s : State) (k : Nat) (f : Governor → Governor) : (s.modGovernor k f).flash = s.flash := rfl
@[simp] theorem State.modGovernor_compute (s : State) (k : Nat) (f : Governor → Governor) : (s.modGovernor k f).compute = s.compute := rfl
@[simp] theorem State.modGovernor_ops (s : State) (k : Nat) (f : Governor → Governor) : (s.modGovernor k f).ops = s.ops := rfl
@[simp] theorem State.modGovernor_mem (s : State) (k : Nat) (f : Governor → Governor) : (s.modGovernor k f).mem = s.mem := rfl
@[simp] theorem State.modGovernor_d2d (s : State) (k : Nat) (f : Governor → Governor) : (s.modGovernor k f).d2d = s.d2d := rfl
@[simp] theorem State.modGovernor_optics (s : State) (k : Nat) (f : Governor → Governor) : (s.modGovernor k f).optics = s.optics := rfl
@[simp] theorem State.modGovernor_domain (s : State) (k : Nat) (f : Governor → Governor) : (s.modGovernor k f).domain = s.domain := rfl
@[simp] theorem State.modGovernor_cal (s : State) (k : Nat) (f : Governor → Governor) : (s.modGovernor k f).cal = s.cal := rfl
@[simp] theorem State.modGovernor_sec (s : State) (k : Nat) (f : Governor → Governor) : (s.modGovernor k f).sec = s.sec := rfl
@[simp] theorem State.modGovernor_console (s : State) (k : Nat) (f : Governor → Governor) : (s.modGovernor k f).console = s.console := rfl
@[simp] theorem State.modGovernor_out (s : State) (k : Nat) (f : Governor → Governor) : (s.modGovernor k f).out = s.out := rfl
@[simp] theorem State.modGovernor_freeIx (s : State) (k : Nat) (f : Governor → Governor) : (s.modGovernor k f).freeIx = s.freeIx := rfl
@[simp] theorem State.modGovernor_pending (s : State) (k : Nat) (f : Governor → Governor) : (s.modGovernor k f).pending = s.pending := rfl

@[simp] theorem State.setSegment_segment (s : State) (k : Nat) (v : Segment) : (s.setSegment k v).segment k = v := Store.get_put_self _ _ _ _
theorem State.setSegment_segment_other (s : State) {k i : Nat} (v : Segment) (h : i ≠ k) : (s.setSegment k v).segment i = s.segment i :=
  Store.get_put_other _ _ v h
@[simp] theorem State.modSegment_segment (s : State) (k : Nat) (f : Segment → Segment) : (s.modSegment k f).segment k = f (s.segment k) := State.setSegment_segment s k _
theorem State.modSegment_segment_other (s : State) {k i : Nat} (f : Segment → Segment) (h : i ≠ k) : (s.modSegment k f).segment i = s.segment i :=
  State.setSegment_segment_other s _ h
@[simp] theorem State.modSegment_power (s : State) (k : Nat) (f : Segment → Segment) : (s.modSegment k f).power = s.power := rfl
@[simp] theorem State.modSegment_thermal (s : State) (k : Nat) (f : Segment → Segment) : (s.modSegment k f).thermal = s.thermal := rfl
@[simp] theorem State.modSegment_tel (s : State) (k : Nat) (f : Segment → Segment) : (s.modSegment k f).tel = s.tel := rfl
@[simp] theorem State.modSegment_faults (s : State) (k : Nat) (f : Segment → Segment) : (s.modSegment k f).faults = s.faults := rfl
@[simp] theorem State.modSegment_keeper (s : State) (k : Nat) (f : Segment → Segment) : (s.modSegment k f).keeper = s.keeper := rfl
@[simp] theorem State.modSegment_flash (s : State) (k : Nat) (f : Segment → Segment) : (s.modSegment k f).flash = s.flash := rfl
@[simp] theorem State.modSegment_compute (s : State) (k : Nat) (f : Segment → Segment) : (s.modSegment k f).compute = s.compute := rfl
@[simp] theorem State.modSegment_ops (s : State) (k : Nat) (f : Segment → Segment) : (s.modSegment k f).ops = s.ops := rfl
@[simp] theorem State.modSegment_mem (s : State) (k : Nat) (f : Segment → Segment) : (s.modSegment k f).mem = s.mem := rfl
@[simp] theorem State.modSegment_d2d (s : State) (k : Nat) (f : Segment → Segment) : (s.modSegment k f).d2d = s.d2d := rfl
@[simp] theorem State.modSegment_optics (s : State) (k : Nat) (f : Segment → Segment) : (s.modSegment k f).optics = s.optics := rfl
@[simp] theorem State.modSegment_domain (s : State) (k : Nat) (f : Segment → Segment) : (s.modSegment k f).domain = s.domain := rfl
@[simp] theorem State.modSegment_cal (s : State) (k : Nat) (f : Segment → Segment) : (s.modSegment k f).cal = s.cal := rfl
@[simp] theorem State.modSegment_sec (s : State) (k : Nat) (f : Segment → Segment) : (s.modSegment k f).sec = s.sec := rfl
@[simp] theorem State.modSegment_console (s : State) (k : Nat) (f : Segment → Segment) : (s.modSegment k f).console = s.console := rfl
@[simp] theorem State.modSegment_out (s : State) (k : Nat) (f : Segment → Segment) : (s.modSegment k f).out = s.out := rfl
@[simp] theorem State.modSegment_freeIx (s : State) (k : Nat) (f : Segment → Segment) : (s.modSegment k f).freeIx = s.freeIx := rfl
@[simp] theorem State.modSegment_pending (s : State) (k : Nat) (f : Segment → Segment) : (s.modSegment k f).pending = s.pending := rfl

@[simp] theorem State.setMailbox_mailbox (s : State) (k : Nat) (v : Mailbox) : (s.setMailbox k v).mailbox k = v := Store.get_put_self _ _ _ _
theorem State.setMailbox_mailbox_other (s : State) {k i : Nat} (v : Mailbox) (h : i ≠ k) : (s.setMailbox k v).mailbox i = s.mailbox i :=
  Store.get_put_other _ _ v h
@[simp] theorem State.modMailbox_mailbox (s : State) (k : Nat) (f : Mailbox → Mailbox) : (s.modMailbox k f).mailbox k = f (s.mailbox k) := State.setMailbox_mailbox s k _
theorem State.modMailbox_mailbox_other (s : State) {k i : Nat} (f : Mailbox → Mailbox) (h : i ≠ k) : (s.modMailbox k f).mailbox i = s.mailbox i :=
  State.setMailbox_mailbox_other s _ h
@[simp] theorem State.modMailbox_power (s : State) (k : Nat) (f : Mailbox → Mailbox) : (s.modMailbox k f).power = s.power := rfl
@[simp] theorem State.modMailbox_thermal (s : State) (k : Nat) (f : Mailbox → Mailbox) : (s.modMailbox k f).thermal = s.thermal := rfl
@[simp] theorem State.modMailbox_host (s : State) (k : Nat) (f : Mailbox → Mailbox) : (s.modMailbox k f).host = s.host := rfl
@[simp] theorem State.modMailbox_tel (s : State) (k : Nat) (f : Mailbox → Mailbox) : (s.modMailbox k f).tel = s.tel := rfl
@[simp] theorem State.modMailbox_faults (s : State) (k : Nat) (f : Mailbox → Mailbox) : (s.modMailbox k f).faults = s.faults := rfl
@[simp] theorem State.modMailbox_flash (s : State) (k : Nat) (f : Mailbox → Mailbox) : (s.modMailbox k f).flash = s.flash := rfl
@[simp] theorem State.modMailbox_compute (s : State) (k : Nat) (f : Mailbox → Mailbox) : (s.modMailbox k f).compute = s.compute := rfl
@[simp] theorem State.modMailbox_ops (s : State) (k : Nat) (f : Mailbox → Mailbox) : (s.modMailbox k f).ops = s.ops := rfl
@[simp] theorem State.modMailbox_mem (s : State) (k : Nat) (f : Mailbox → Mailbox) : (s.modMailbox k f).mem = s.mem := rfl
@[simp] theorem State.modMailbox_d2d (s : State) (k : Nat) (f : Mailbox → Mailbox) : (s.modMailbox k f).d2d = s.d2d := rfl
@[simp] theorem State.modMailbox_optics (s : State) (k : Nat) (f : Mailbox → Mailbox) : (s.modMailbox k f).optics = s.optics := rfl
@[simp] theorem State.modMailbox_domain (s : State) (k : Nat) (f : Mailbox → Mailbox) : (s.modMailbox k f).domain = s.domain := rfl
@[simp] theorem State.modMailbox_cal (s : State) (k : Nat) (f : Mailbox → Mailbox) : (s.modMailbox k f).cal = s.cal := rfl
@[simp] theorem State.modMailbox_sec (s : State) (k : Nat) (f : Mailbox → Mailbox) : (s.modMailbox k f).sec = s.sec := rfl
@[simp] theorem State.modMailbox_console (s : State) (k : Nat) (f : Mailbox → Mailbox) : (s.modMailbox k f).console = s.console := rfl
@[simp] theorem State.modMailbox_out (s : State) (k : Nat) (f : Mailbox → Mailbox) : (s.modMailbox k f).out = s.out := rfl
@[simp] theorem State.modMailbox_freeIx (s : State) (k : Nat) (f : Mailbox → Mailbox) : (s.modMailbox k f).freeIx = s.freeIx := rfl
@[simp] theorem State.modMailbox_pending (s : State) (k : Nat) (f : Mailbox → Mailbox) : (s.modMailbox k f).pending = s.pending := rfl

@[simp] theorem State.setLatch_latch (s : State) (k : Nat) (v : Latch) : (s.setLatch k v).latch k = v := Store.get_put_self _ _ _ _
theorem State.setLatch_latch_other (s : State) {k i : Nat} (v : Latch) (h : i ≠ k) : (s.setLatch k v).latch i = s.latch i :=
  Store.get_put_other _ _ v h
@[simp] theorem State.modLatch_latch (s : State) (k : Nat) (f : Latch → Latch) : (s.modLatch k f).latch k = f (s.latch k) := State.setLatch_latch s k _
theorem State.modLatch_latch_other (s : State) {k i : Nat} (f : Latch → Latch) (h : i ≠ k) : (s.modLatch k f).latch i = s.latch i :=
  State.setLatch_latch_other s _ h
@[simp] theorem State.modLatch_power (s : State) (k : Nat) (f : Latch → Latch) : (s.modLatch k f).power = s.power := rfl
@[simp] theorem State.modLatch_thermal (s : State) (k : Nat) (f : Latch → Latch) : (s.modLatch k f).thermal = s.thermal := rfl
@[simp] theorem State.modLatch_host (s : State) (k : Nat) (f : Latch → Latch) : (s.modLatch k f).host = s.host := rfl
@[simp] theorem State.modLatch_tel (s : State) (k : Nat) (f : Latch → Latch) : (s.modLatch k f).tel = s.tel := rfl
@[simp] theorem State.modLatch_faults (s : State) (k : Nat) (f : Latch → Latch) : (s.modLatch k f).faults = s.faults := rfl
@[simp] theorem State.modLatch_flash (s : State) (k : Nat) (f : Latch → Latch) : (s.modLatch k f).flash = s.flash := rfl
@[simp] theorem State.modLatch_compute (s : State) (k : Nat) (f : Latch → Latch) : (s.modLatch k f).compute = s.compute := rfl
@[simp] theorem State.modLatch_ops (s : State) (k : Nat) (f : Latch → Latch) : (s.modLatch k f).ops = s.ops := rfl
@[simp] theorem State.modLatch_mem (s : State) (k : Nat) (f : Latch → Latch) : (s.modLatch k f).mem = s.mem := rfl
@[simp] theorem State.modLatch_d2d (s : State) (k : Nat) (f : Latch → Latch) : (s.modLatch k f).d2d = s.d2d := rfl
@[simp] theorem State.modLatch_optics (s : State) (k : Nat) (f : Latch → Latch) : (s.modLatch k f).optics = s.optics := rfl
@[simp] theorem State.modLatch_domain (s : State) (k : Nat) (f : Latch → Latch) : (s.modLatch k f).domain = s.domain := rfl
@[simp] theorem State.modLatch_cal (s : State) (k : Nat) (f : Latch → Latch) : (s.modLatch k f).cal = s.cal := rfl
@[simp] theorem State.modLatch_sec (s : State) (k : Nat) (f : Latch → Latch) : (s.modLatch k f).sec = s.sec := rfl
@[simp] theorem State.modLatch_console (s : State) (k : Nat) (f : Latch → Latch) : (s.modLatch k f).console = s.console := rfl
@[simp] theorem State.modLatch_out (s : State) (k : Nat) (f : Latch → Latch) : (s.modLatch k f).out = s.out := rfl
@[simp] theorem State.modLatch_freeIx (s : State) (k : Nat) (f : Latch → Latch) : (s.modLatch k f).freeIx = s.freeIx := rfl
@[simp] theorem State.modLatch_pending (s : State) (k : Nat) (f : Latch → Latch) : (s.modLatch k f).pending = s.pending := rfl

@[simp] theorem State.setTumbler_tumbler (s : State) (k : Nat) (v : Tumbler) : (s.setTumbler k v).tumbler k = v := Store.get_put_self _ _ _ _
theorem State.setTumbler_tumbler_other (s : State) {k i : Nat} (v : Tumbler) (h : i ≠ k) : (s.setTumbler k v).tumbler i = s.tumbler i :=
  Store.get_put_other _ _ v h
@[simp] theorem State.modTumbler_tumbler (s : State) (k : Nat) (f : Tumbler → Tumbler) : (s.modTumbler k f).tumbler k = f (s.tumbler k) := State.setTumbler_tumbler s k _
theorem State.modTumbler_tumbler_other (s : State) {k i : Nat} (f : Tumbler → Tumbler) (h : i ≠ k) : (s.modTumbler k f).tumbler i = s.tumbler i :=
  State.setTumbler_tumbler_other s _ h
@[simp] theorem State.modTumbler_power (s : State) (k : Nat) (f : Tumbler → Tumbler) : (s.modTumbler k f).power = s.power := rfl
@[simp] theorem State.modTumbler_thermal (s : State) (k : Nat) (f : Tumbler → Tumbler) : (s.modTumbler k f).thermal = s.thermal := rfl
@[simp] theorem State.modTumbler_host (s : State) (k : Nat) (f : Tumbler → Tumbler) : (s.modTumbler k f).host = s.host := rfl
@[simp] theorem State.modTumbler_tel (s : State) (k : Nat) (f : Tumbler → Tumbler) : (s.modTumbler k f).tel = s.tel := rfl
@[simp] theorem State.modTumbler_faults (s : State) (k : Nat) (f : Tumbler → Tumbler) : (s.modTumbler k f).faults = s.faults := rfl
@[simp] theorem State.modTumbler_keeper (s : State) (k : Nat) (f : Tumbler → Tumbler) : (s.modTumbler k f).keeper = s.keeper := rfl
@[simp] theorem State.modTumbler_flash (s : State) (k : Nat) (f : Tumbler → Tumbler) : (s.modTumbler k f).flash = s.flash := rfl
@[simp] theorem State.modTumbler_ops (s : State) (k : Nat) (f : Tumbler → Tumbler) : (s.modTumbler k f).ops = s.ops := rfl
@[simp] theorem State.modTumbler_mem (s : State) (k : Nat) (f : Tumbler → Tumbler) : (s.modTumbler k f).mem = s.mem := rfl
@[simp] theorem State.modTumbler_d2d (s : State) (k : Nat) (f : Tumbler → Tumbler) : (s.modTumbler k f).d2d = s.d2d := rfl
@[simp] theorem State.modTumbler_optics (s : State) (k : Nat) (f : Tumbler → Tumbler) : (s.modTumbler k f).optics = s.optics := rfl
@[simp] theorem State.modTumbler_domain (s : State) (k : Nat) (f : Tumbler → Tumbler) : (s.modTumbler k f).domain = s.domain := rfl
@[simp] theorem State.modTumbler_cal (s : State) (k : Nat) (f : Tumbler → Tumbler) : (s.modTumbler k f).cal = s.cal := rfl
@[simp] theorem State.modTumbler_sec (s : State) (k : Nat) (f : Tumbler → Tumbler) : (s.modTumbler k f).sec = s.sec := rfl
@[simp] theorem State.modTumbler_console (s : State) (k : Nat) (f : Tumbler → Tumbler) : (s.modTumbler k f).console = s.console := rfl
@[simp] theorem State.modTumbler_out (s : State) (k : Nat) (f : Tumbler → Tumbler) : (s.modTumbler k f).out = s.out := rfl
@[simp] theorem State.modTumbler_freeIx (s : State) (k : Nat) (f : Tumbler → Tumbler) : (s.modTumbler k f).freeIx = s.freeIx := rfl
@[simp] theorem State.modTumbler_pending (s : State) (k : Nat) (f : Tumbler → Tumbler) : (s.modTumbler k f).pending = s.pending := rfl

@[simp] theorem State.setWard_ward (s : State) (k : Nat) (v : Ward) : (s.setWard k v).ward k = v := Store.get_put_self _ _ _ _
theorem State.setWard_ward_other (s : State) {k i : Nat} (v : Ward) (h : i ≠ k) : (s.setWard k v).ward i = s.ward i :=
  Store.get_put_other _ _ v h
@[simp] theorem State.modWard_ward (s : State) (k : Nat) (f : Ward → Ward) : (s.modWard k f).ward k = f (s.ward k) := State.setWard_ward s k _
theorem State.modWard_ward_other (s : State) {k i : Nat} (f : Ward → Ward) (h : i ≠ k) : (s.modWard k f).ward i = s.ward i :=
  State.setWard_ward_other s _ h
@[simp] theorem State.modWard_power (s : State) (k : Nat) (f : Ward → Ward) : (s.modWard k f).power = s.power := rfl
@[simp] theorem State.modWard_thermal (s : State) (k : Nat) (f : Ward → Ward) : (s.modWard k f).thermal = s.thermal := rfl
@[simp] theorem State.modWard_host (s : State) (k : Nat) (f : Ward → Ward) : (s.modWard k f).host = s.host := rfl
@[simp] theorem State.modWard_tel (s : State) (k : Nat) (f : Ward → Ward) : (s.modWard k f).tel = s.tel := rfl
@[simp] theorem State.modWard_faults (s : State) (k : Nat) (f : Ward → Ward) : (s.modWard k f).faults = s.faults := rfl
@[simp] theorem State.modWard_keeper (s : State) (k : Nat) (f : Ward → Ward) : (s.modWard k f).keeper = s.keeper := rfl
@[simp] theorem State.modWard_flash (s : State) (k : Nat) (f : Ward → Ward) : (s.modWard k f).flash = s.flash := rfl
@[simp] theorem State.modWard_ops (s : State) (k : Nat) (f : Ward → Ward) : (s.modWard k f).ops = s.ops := rfl
@[simp] theorem State.modWard_mem (s : State) (k : Nat) (f : Ward → Ward) : (s.modWard k f).mem = s.mem := rfl
@[simp] theorem State.modWard_d2d (s : State) (k : Nat) (f : Ward → Ward) : (s.modWard k f).d2d = s.d2d := rfl
@[simp] theorem State.modWard_optics (s : State) (k : Nat) (f : Ward → Ward) : (s.modWard k f).optics = s.optics := rfl
@[simp] theorem State.modWard_domain (s : State) (k : Nat) (f : Ward → Ward) : (s.modWard k f).domain = s.domain := rfl
@[simp] theorem State.modWard_cal (s : State) (k : Nat) (f : Ward → Ward) : (s.modWard k f).cal = s.cal := rfl
@[simp] theorem State.modWard_sec (s : State) (k : Nat) (f : Ward → Ward) : (s.modWard k f).sec = s.sec := rfl
@[simp] theorem State.modWard_console (s : State) (k : Nat) (f : Ward → Ward) : (s.modWard k f).console = s.console := rfl
@[simp] theorem State.modWard_out (s : State) (k : Nat) (f : Ward → Ward) : (s.modWard k f).out = s.out := rfl
@[simp] theorem State.modWard_freeIx (s : State) (k : Nat) (f : Ward → Ward) : (s.modWard k f).freeIx = s.freeIx := rfl
@[simp] theorem State.modWard_pending (s : State) (k : Nat) (f : Ward → Ward) : (s.modWard k f).pending = s.pending := rfl

@[simp] theorem State.setCore_core (s : State) (k : Nat) (v : AppCore) : (s.setCore k v).core k = v := Store.get_put_self _ _ _ _
theorem State.setCore_core_other (s : State) {k i : Nat} (v : AppCore) (h : i ≠ k) : (s.setCore k v).core i = s.core i :=
  Store.get_put_other _ _ v h
@[simp] theorem State.modCore_core (s : State) (k : Nat) (f : AppCore → AppCore) : (s.modCore k f).core k = f (s.core k) := State.setCore_core s k _
theorem State.modCore_core_other (s : State) {k i : Nat} (f : AppCore → AppCore) (h : i ≠ k) : (s.modCore k f).core i = s.core i :=
  State.setCore_core_other s _ h
@[simp] theorem State.modCore_power (s : State) (k : Nat) (f : AppCore → AppCore) : (s.modCore k f).power = s.power := rfl
@[simp] theorem State.modCore_thermal (s : State) (k : Nat) (f : AppCore → AppCore) : (s.modCore k f).thermal = s.thermal := rfl
@[simp] theorem State.modCore_host (s : State) (k : Nat) (f : AppCore → AppCore) : (s.modCore k f).host = s.host := rfl
@[simp] theorem State.modCore_tel (s : State) (k : Nat) (f : AppCore → AppCore) : (s.modCore k f).tel = s.tel := rfl
@[simp] theorem State.modCore_faults (s : State) (k : Nat) (f : AppCore → AppCore) : (s.modCore k f).faults = s.faults := rfl
@[simp] theorem State.modCore_keeper (s : State) (k : Nat) (f : AppCore → AppCore) : (s.modCore k f).keeper = s.keeper := rfl
@[simp] theorem State.modCore_flash (s : State) (k : Nat) (f : AppCore → AppCore) : (s.modCore k f).flash = s.flash := rfl
@[simp] theorem State.modCore_ops (s : State) (k : Nat) (f : AppCore → AppCore) : (s.modCore k f).ops = s.ops := rfl
@[simp] theorem State.modCore_mem (s : State) (k : Nat) (f : AppCore → AppCore) : (s.modCore k f).mem = s.mem := rfl
@[simp] theorem State.modCore_d2d (s : State) (k : Nat) (f : AppCore → AppCore) : (s.modCore k f).d2d = s.d2d := rfl
@[simp] theorem State.modCore_optics (s : State) (k : Nat) (f : AppCore → AppCore) : (s.modCore k f).optics = s.optics := rfl
@[simp] theorem State.modCore_domain (s : State) (k : Nat) (f : AppCore → AppCore) : (s.modCore k f).domain = s.domain := rfl
@[simp] theorem State.modCore_cal (s : State) (k : Nat) (f : AppCore → AppCore) : (s.modCore k f).cal = s.cal := rfl
@[simp] theorem State.modCore_sec (s : State) (k : Nat) (f : AppCore → AppCore) : (s.modCore k f).sec = s.sec := rfl
@[simp] theorem State.modCore_console (s : State) (k : Nat) (f : AppCore → AppCore) : (s.modCore k f).console = s.console := rfl
@[simp] theorem State.modCore_out (s : State) (k : Nat) (f : AppCore → AppCore) : (s.modCore k f).out = s.out := rfl
@[simp] theorem State.modCore_freeIx (s : State) (k : Nat) (f : AppCore → AppCore) : (s.modCore k f).freeIx = s.freeIx := rfl
@[simp] theorem State.modCore_pending (s : State) (k : Nat) (f : AppCore → AppCore) : (s.modCore k f).pending = s.pending := rfl

@[simp] theorem State.setContext_context (s : State) (k : Nat) (v : Context) : (s.setContext k v).context k = v := Store.get_put_self _ _ _ _
theorem State.setContext_context_other (s : State) {k i : Nat} (v : Context) (h : i ≠ k) : (s.setContext k v).context i = s.context i :=
  Store.get_put_other _ _ v h
@[simp] theorem State.modContext_context (s : State) (k : Nat) (f : Context → Context) : (s.modContext k f).context k = f (s.context k) := State.setContext_context s k _
theorem State.modContext_context_other (s : State) {k i : Nat} (f : Context → Context) (h : i ≠ k) : (s.modContext k f).context i = s.context i :=
  State.setContext_context_other s _ h
@[simp] theorem State.modContext_power (s : State) (k : Nat) (f : Context → Context) : (s.modContext k f).power = s.power := rfl
@[simp] theorem State.modContext_thermal (s : State) (k : Nat) (f : Context → Context) : (s.modContext k f).thermal = s.thermal := rfl
@[simp] theorem State.modContext_host (s : State) (k : Nat) (f : Context → Context) : (s.modContext k f).host = s.host := rfl
@[simp] theorem State.modContext_tel (s : State) (k : Nat) (f : Context → Context) : (s.modContext k f).tel = s.tel := rfl
@[simp] theorem State.modContext_faults (s : State) (k : Nat) (f : Context → Context) : (s.modContext k f).faults = s.faults := rfl
@[simp] theorem State.modContext_keeper (s : State) (k : Nat) (f : Context → Context) : (s.modContext k f).keeper = s.keeper := rfl
@[simp] theorem State.modContext_flash (s : State) (k : Nat) (f : Context → Context) : (s.modContext k f).flash = s.flash := rfl
@[simp] theorem State.modContext_compute (s : State) (k : Nat) (f : Context → Context) : (s.modContext k f).compute = s.compute := rfl
@[simp] theorem State.modContext_mem (s : State) (k : Nat) (f : Context → Context) : (s.modContext k f).mem = s.mem := rfl
@[simp] theorem State.modContext_d2d (s : State) (k : Nat) (f : Context → Context) : (s.modContext k f).d2d = s.d2d := rfl
@[simp] theorem State.modContext_optics (s : State) (k : Nat) (f : Context → Context) : (s.modContext k f).optics = s.optics := rfl
@[simp] theorem State.modContext_domain (s : State) (k : Nat) (f : Context → Context) : (s.modContext k f).domain = s.domain := rfl
@[simp] theorem State.modContext_cal (s : State) (k : Nat) (f : Context → Context) : (s.modContext k f).cal = s.cal := rfl
@[simp] theorem State.modContext_sec (s : State) (k : Nat) (f : Context → Context) : (s.modContext k f).sec = s.sec := rfl
@[simp] theorem State.modContext_console (s : State) (k : Nat) (f : Context → Context) : (s.modContext k f).console = s.console := rfl
@[simp] theorem State.modContext_out (s : State) (k : Nat) (f : Context → Context) : (s.modContext k f).out = s.out := rfl
@[simp] theorem State.modContext_freeIx (s : State) (k : Nat) (f : Context → Context) : (s.modContext k f).freeIx = s.freeIx := rfl
@[simp] theorem State.modContext_pending (s : State) (k : Nat) (f : Context → Context) : (s.modContext k f).pending = s.pending := rfl

@[simp] theorem State.setRing_ring (s : State) (k : Nat) (v : Ring) : (s.setRing k v).ring k = v := Store.get_put_self _ _ _ _
theorem State.setRing_ring_other (s : State) {k i : Nat} (v : Ring) (h : i ≠ k) : (s.setRing k v).ring i = s.ring i :=
  Store.get_put_other _ _ v h
@[simp] theorem State.modRing_ring (s : State) (k : Nat) (f : Ring → Ring) : (s.modRing k f).ring k = f (s.ring k) := State.setRing_ring s k _
theorem State.modRing_ring_other (s : State) {k i : Nat} (f : Ring → Ring) (h : i ≠ k) : (s.modRing k f).ring i = s.ring i :=
  State.setRing_ring_other s _ h
@[simp] theorem State.modRing_power (s : State) (k : Nat) (f : Ring → Ring) : (s.modRing k f).power = s.power := rfl
@[simp] theorem State.modRing_thermal (s : State) (k : Nat) (f : Ring → Ring) : (s.modRing k f).thermal = s.thermal := rfl
@[simp] theorem State.modRing_host (s : State) (k : Nat) (f : Ring → Ring) : (s.modRing k f).host = s.host := rfl
@[simp] theorem State.modRing_tel (s : State) (k : Nat) (f : Ring → Ring) : (s.modRing k f).tel = s.tel := rfl
@[simp] theorem State.modRing_faults (s : State) (k : Nat) (f : Ring → Ring) : (s.modRing k f).faults = s.faults := rfl
@[simp] theorem State.modRing_keeper (s : State) (k : Nat) (f : Ring → Ring) : (s.modRing k f).keeper = s.keeper := rfl
@[simp] theorem State.modRing_flash (s : State) (k : Nat) (f : Ring → Ring) : (s.modRing k f).flash = s.flash := rfl
@[simp] theorem State.modRing_compute (s : State) (k : Nat) (f : Ring → Ring) : (s.modRing k f).compute = s.compute := rfl
@[simp] theorem State.modRing_mem (s : State) (k : Nat) (f : Ring → Ring) : (s.modRing k f).mem = s.mem := rfl
@[simp] theorem State.modRing_d2d (s : State) (k : Nat) (f : Ring → Ring) : (s.modRing k f).d2d = s.d2d := rfl
@[simp] theorem State.modRing_optics (s : State) (k : Nat) (f : Ring → Ring) : (s.modRing k f).optics = s.optics := rfl
@[simp] theorem State.modRing_domain (s : State) (k : Nat) (f : Ring → Ring) : (s.modRing k f).domain = s.domain := rfl
@[simp] theorem State.modRing_cal (s : State) (k : Nat) (f : Ring → Ring) : (s.modRing k f).cal = s.cal := rfl
@[simp] theorem State.modRing_sec (s : State) (k : Nat) (f : Ring → Ring) : (s.modRing k f).sec = s.sec := rfl
@[simp] theorem State.modRing_console (s : State) (k : Nat) (f : Ring → Ring) : (s.modRing k f).console = s.console := rfl
@[simp] theorem State.modRing_out (s : State) (k : Nat) (f : Ring → Ring) : (s.modRing k f).out = s.out := rfl
@[simp] theorem State.modRing_freeIx (s : State) (k : Nat) (f : Ring → Ring) : (s.modRing k f).freeIx = s.freeIx := rfl
@[simp] theorem State.modRing_pending (s : State) (k : Nat) (f : Ring → Ring) : (s.modRing k f).pending = s.pending := rfl

@[simp] theorem State.setStack_stack (s : State) (k : Nat) (v : Stack) : (s.setStack k v).stack k = v := Store.get_put_self _ _ _ _
theorem State.setStack_stack_other (s : State) {k i : Nat} (v : Stack) (h : i ≠ k) : (s.setStack k v).stack i = s.stack i :=
  Store.get_put_other _ _ v h
@[simp] theorem State.modStack_stack (s : State) (k : Nat) (f : Stack → Stack) : (s.modStack k f).stack k = f (s.stack k) := State.setStack_stack s k _
theorem State.modStack_stack_other (s : State) {k i : Nat} (f : Stack → Stack) (h : i ≠ k) : (s.modStack k f).stack i = s.stack i :=
  State.setStack_stack_other s _ h
@[simp] theorem State.modStack_power (s : State) (k : Nat) (f : Stack → Stack) : (s.modStack k f).power = s.power := rfl
@[simp] theorem State.modStack_thermal (s : State) (k : Nat) (f : Stack → Stack) : (s.modStack k f).thermal = s.thermal := rfl
@[simp] theorem State.modStack_host (s : State) (k : Nat) (f : Stack → Stack) : (s.modStack k f).host = s.host := rfl
@[simp] theorem State.modStack_tel (s : State) (k : Nat) (f : Stack → Stack) : (s.modStack k f).tel = s.tel := rfl
@[simp] theorem State.modStack_faults (s : State) (k : Nat) (f : Stack → Stack) : (s.modStack k f).faults = s.faults := rfl
@[simp] theorem State.modStack_keeper (s : State) (k : Nat) (f : Stack → Stack) : (s.modStack k f).keeper = s.keeper := rfl
@[simp] theorem State.modStack_flash (s : State) (k : Nat) (f : Stack → Stack) : (s.modStack k f).flash = s.flash := rfl
@[simp] theorem State.modStack_compute (s : State) (k : Nat) (f : Stack → Stack) : (s.modStack k f).compute = s.compute := rfl
@[simp] theorem State.modStack_ops (s : State) (k : Nat) (f : Stack → Stack) : (s.modStack k f).ops = s.ops := rfl
@[simp] theorem State.modStack_d2d (s : State) (k : Nat) (f : Stack → Stack) : (s.modStack k f).d2d = s.d2d := rfl
@[simp] theorem State.modStack_optics (s : State) (k : Nat) (f : Stack → Stack) : (s.modStack k f).optics = s.optics := rfl
@[simp] theorem State.modStack_domain (s : State) (k : Nat) (f : Stack → Stack) : (s.modStack k f).domain = s.domain := rfl
@[simp] theorem State.modStack_cal (s : State) (k : Nat) (f : Stack → Stack) : (s.modStack k f).cal = s.cal := rfl
@[simp] theorem State.modStack_sec (s : State) (k : Nat) (f : Stack → Stack) : (s.modStack k f).sec = s.sec := rfl
@[simp] theorem State.modStack_console (s : State) (k : Nat) (f : Stack → Stack) : (s.modStack k f).console = s.console := rfl
@[simp] theorem State.modStack_out (s : State) (k : Nat) (f : Stack → Stack) : (s.modStack k f).out = s.out := rfl
@[simp] theorem State.modStack_freeIx (s : State) (k : Nat) (f : Stack → Stack) : (s.modStack k f).freeIx = s.freeIx := rfl
@[simp] theorem State.modStack_pending (s : State) (k : Nat) (f : Stack → Stack) : (s.modStack k f).pending = s.pending := rfl

@[simp] theorem State.setShelf_shelf (s : State) (k : Nat) (v : Shelf) : (s.setShelf k v).shelf k = v := Store.get_put_self _ _ _ _
theorem State.setShelf_shelf_other (s : State) {k i : Nat} (v : Shelf) (h : i ≠ k) : (s.setShelf k v).shelf i = s.shelf i :=
  Store.get_put_other _ _ v h
@[simp] theorem State.modShelf_shelf (s : State) (k : Nat) (f : Shelf → Shelf) : (s.modShelf k f).shelf k = f (s.shelf k) := State.setShelf_shelf s k _
theorem State.modShelf_shelf_other (s : State) {k i : Nat} (f : Shelf → Shelf) (h : i ≠ k) : (s.modShelf k f).shelf i = s.shelf i :=
  State.setShelf_shelf_other s _ h
@[simp] theorem State.modShelf_power (s : State) (k : Nat) (f : Shelf → Shelf) : (s.modShelf k f).power = s.power := rfl
@[simp] theorem State.modShelf_thermal (s : State) (k : Nat) (f : Shelf → Shelf) : (s.modShelf k f).thermal = s.thermal := rfl
@[simp] theorem State.modShelf_host (s : State) (k : Nat) (f : Shelf → Shelf) : (s.modShelf k f).host = s.host := rfl
@[simp] theorem State.modShelf_tel (s : State) (k : Nat) (f : Shelf → Shelf) : (s.modShelf k f).tel = s.tel := rfl
@[simp] theorem State.modShelf_faults (s : State) (k : Nat) (f : Shelf → Shelf) : (s.modShelf k f).faults = s.faults := rfl
@[simp] theorem State.modShelf_keeper (s : State) (k : Nat) (f : Shelf → Shelf) : (s.modShelf k f).keeper = s.keeper := rfl
@[simp] theorem State.modShelf_flash (s : State) (k : Nat) (f : Shelf → Shelf) : (s.modShelf k f).flash = s.flash := rfl
@[simp] theorem State.modShelf_compute (s : State) (k : Nat) (f : Shelf → Shelf) : (s.modShelf k f).compute = s.compute := rfl
@[simp] theorem State.modShelf_ops (s : State) (k : Nat) (f : Shelf → Shelf) : (s.modShelf k f).ops = s.ops := rfl
@[simp] theorem State.modShelf_d2d (s : State) (k : Nat) (f : Shelf → Shelf) : (s.modShelf k f).d2d = s.d2d := rfl
@[simp] theorem State.modShelf_optics (s : State) (k : Nat) (f : Shelf → Shelf) : (s.modShelf k f).optics = s.optics := rfl
@[simp] theorem State.modShelf_domain (s : State) (k : Nat) (f : Shelf → Shelf) : (s.modShelf k f).domain = s.domain := rfl
@[simp] theorem State.modShelf_cal (s : State) (k : Nat) (f : Shelf → Shelf) : (s.modShelf k f).cal = s.cal := rfl
@[simp] theorem State.modShelf_sec (s : State) (k : Nat) (f : Shelf → Shelf) : (s.modShelf k f).sec = s.sec := rfl
@[simp] theorem State.modShelf_console (s : State) (k : Nat) (f : Shelf → Shelf) : (s.modShelf k f).console = s.console := rfl
@[simp] theorem State.modShelf_out (s : State) (k : Nat) (f : Shelf → Shelf) : (s.modShelf k f).out = s.out := rfl
@[simp] theorem State.modShelf_freeIx (s : State) (k : Nat) (f : Shelf → Shelf) : (s.modShelf k f).freeIx = s.freeIx := rfl
@[simp] theorem State.modShelf_pending (s : State) (k : Nat) (f : Shelf → Shelf) : (s.modShelf k f).pending = s.pending := rfl

@[simp] theorem State.setBase_base (s : State) (k : Nat) (v : BaseState) : (s.setBase k v).base k = v := Store.get_put_self _ _ _ _
theorem State.setBase_base_other (s : State) {k i : Nat} (v : BaseState) (h : i ≠ k) : (s.setBase k v).base i = s.base i :=
  Store.get_put_other _ _ v h
@[simp] theorem State.modBase_base (s : State) (k : Nat) (f : BaseState → BaseState) : (s.modBase k f).base k = f (s.base k) := State.setBase_base s k _
theorem State.modBase_base_other (s : State) {k i : Nat} (f : BaseState → BaseState) (h : i ≠ k) : (s.modBase k f).base i = s.base i :=
  State.setBase_base_other s _ h
@[simp] theorem State.modBase_power (s : State) (k : Nat) (f : BaseState → BaseState) : (s.modBase k f).power = s.power := rfl
@[simp] theorem State.modBase_thermal (s : State) (k : Nat) (f : BaseState → BaseState) : (s.modBase k f).thermal = s.thermal := rfl
@[simp] theorem State.modBase_host (s : State) (k : Nat) (f : BaseState → BaseState) : (s.modBase k f).host = s.host := rfl
@[simp] theorem State.modBase_tel (s : State) (k : Nat) (f : BaseState → BaseState) : (s.modBase k f).tel = s.tel := rfl
@[simp] theorem State.modBase_faults (s : State) (k : Nat) (f : BaseState → BaseState) : (s.modBase k f).faults = s.faults := rfl
@[simp] theorem State.modBase_keeper (s : State) (k : Nat) (f : BaseState → BaseState) : (s.modBase k f).keeper = s.keeper := rfl
@[simp] theorem State.modBase_flash (s : State) (k : Nat) (f : BaseState → BaseState) : (s.modBase k f).flash = s.flash := rfl
@[simp] theorem State.modBase_compute (s : State) (k : Nat) (f : BaseState → BaseState) : (s.modBase k f).compute = s.compute := rfl
@[simp] theorem State.modBase_ops (s : State) (k : Nat) (f : BaseState → BaseState) : (s.modBase k f).ops = s.ops := rfl
@[simp] theorem State.modBase_mem (s : State) (k : Nat) (f : BaseState → BaseState) : (s.modBase k f).mem = s.mem := rfl
@[simp] theorem State.modBase_optics (s : State) (k : Nat) (f : BaseState → BaseState) : (s.modBase k f).optics = s.optics := rfl
@[simp] theorem State.modBase_domain (s : State) (k : Nat) (f : BaseState → BaseState) : (s.modBase k f).domain = s.domain := rfl
@[simp] theorem State.modBase_cal (s : State) (k : Nat) (f : BaseState → BaseState) : (s.modBase k f).cal = s.cal := rfl
@[simp] theorem State.modBase_sec (s : State) (k : Nat) (f : BaseState → BaseState) : (s.modBase k f).sec = s.sec := rfl
@[simp] theorem State.modBase_console (s : State) (k : Nat) (f : BaseState → BaseState) : (s.modBase k f).console = s.console := rfl
@[simp] theorem State.modBase_out (s : State) (k : Nat) (f : BaseState → BaseState) : (s.modBase k f).out = s.out := rfl
@[simp] theorem State.modBase_freeIx (s : State) (k : Nat) (f : BaseState → BaseState) : (s.modBase k f).freeIx = s.freeIx := rfl
@[simp] theorem State.modBase_pending (s : State) (k : Nat) (f : BaseState → BaseState) : (s.modBase k f).pending = s.pending := rfl

@[simp] theorem State.setEdge_edge (s : State) (k : Nat) (v : Edge) : (s.setEdge k v).edge k = v := Store.get_put_self _ _ _ _
theorem State.setEdge_edge_other (s : State) {k i : Nat} (v : Edge) (h : i ≠ k) : (s.setEdge k v).edge i = s.edge i :=
  Store.get_put_other _ _ v h
@[simp] theorem State.modEdge_edge (s : State) (k : Nat) (f : Edge → Edge) : (s.modEdge k f).edge k = f (s.edge k) := State.setEdge_edge s k _
theorem State.modEdge_edge_other (s : State) {k i : Nat} (f : Edge → Edge) (h : i ≠ k) : (s.modEdge k f).edge i = s.edge i :=
  State.setEdge_edge_other s _ h
@[simp] theorem State.modEdge_power (s : State) (k : Nat) (f : Edge → Edge) : (s.modEdge k f).power = s.power := rfl
@[simp] theorem State.modEdge_thermal (s : State) (k : Nat) (f : Edge → Edge) : (s.modEdge k f).thermal = s.thermal := rfl
@[simp] theorem State.modEdge_host (s : State) (k : Nat) (f : Edge → Edge) : (s.modEdge k f).host = s.host := rfl
@[simp] theorem State.modEdge_tel (s : State) (k : Nat) (f : Edge → Edge) : (s.modEdge k f).tel = s.tel := rfl
@[simp] theorem State.modEdge_faults (s : State) (k : Nat) (f : Edge → Edge) : (s.modEdge k f).faults = s.faults := rfl
@[simp] theorem State.modEdge_keeper (s : State) (k : Nat) (f : Edge → Edge) : (s.modEdge k f).keeper = s.keeper := rfl
@[simp] theorem State.modEdge_flash (s : State) (k : Nat) (f : Edge → Edge) : (s.modEdge k f).flash = s.flash := rfl
@[simp] theorem State.modEdge_compute (s : State) (k : Nat) (f : Edge → Edge) : (s.modEdge k f).compute = s.compute := rfl
@[simp] theorem State.modEdge_ops (s : State) (k : Nat) (f : Edge → Edge) : (s.modEdge k f).ops = s.ops := rfl
@[simp] theorem State.modEdge_mem (s : State) (k : Nat) (f : Edge → Edge) : (s.modEdge k f).mem = s.mem := rfl
@[simp] theorem State.modEdge_optics (s : State) (k : Nat) (f : Edge → Edge) : (s.modEdge k f).optics = s.optics := rfl
@[simp] theorem State.modEdge_domain (s : State) (k : Nat) (f : Edge → Edge) : (s.modEdge k f).domain = s.domain := rfl
@[simp] theorem State.modEdge_cal (s : State) (k : Nat) (f : Edge → Edge) : (s.modEdge k f).cal = s.cal := rfl
@[simp] theorem State.modEdge_sec (s : State) (k : Nat) (f : Edge → Edge) : (s.modEdge k f).sec = s.sec := rfl
@[simp] theorem State.modEdge_console (s : State) (k : Nat) (f : Edge → Edge) : (s.modEdge k f).console = s.console := rfl
@[simp] theorem State.modEdge_out (s : State) (k : Nat) (f : Edge → Edge) : (s.modEdge k f).out = s.out := rfl
@[simp] theorem State.modEdge_freeIx (s : State) (k : Nat) (f : Edge → Edge) : (s.modEdge k f).freeIx = s.freeIx := rfl
@[simp] theorem State.modEdge_pending (s : State) (k : Nat) (f : Edge → Edge) : (s.modEdge k f).pending = s.pending := rfl

@[simp] theorem State.setSite_site (s : State) (k : Nat) (v : Site) : (s.setSite k v).site k = v := Store.get_put_self _ _ _ _
theorem State.setSite_site_other (s : State) {k i : Nat} (v : Site) (h : i ≠ k) : (s.setSite k v).site i = s.site i :=
  Store.get_put_other _ _ v h
@[simp] theorem State.modSite_site (s : State) (k : Nat) (f : Site → Site) : (s.modSite k f).site k = f (s.site k) := State.setSite_site s k _
theorem State.modSite_site_other (s : State) {k i : Nat} (f : Site → Site) (h : i ≠ k) : (s.modSite k f).site i = s.site i :=
  State.setSite_site_other s _ h
@[simp] theorem State.modSite_power (s : State) (k : Nat) (f : Site → Site) : (s.modSite k f).power = s.power := rfl
@[simp] theorem State.modSite_thermal (s : State) (k : Nat) (f : Site → Site) : (s.modSite k f).thermal = s.thermal := rfl
@[simp] theorem State.modSite_host (s : State) (k : Nat) (f : Site → Site) : (s.modSite k f).host = s.host := rfl
@[simp] theorem State.modSite_tel (s : State) (k : Nat) (f : Site → Site) : (s.modSite k f).tel = s.tel := rfl
@[simp] theorem State.modSite_faults (s : State) (k : Nat) (f : Site → Site) : (s.modSite k f).faults = s.faults := rfl
@[simp] theorem State.modSite_keeper (s : State) (k : Nat) (f : Site → Site) : (s.modSite k f).keeper = s.keeper := rfl
@[simp] theorem State.modSite_flash (s : State) (k : Nat) (f : Site → Site) : (s.modSite k f).flash = s.flash := rfl
@[simp] theorem State.modSite_compute (s : State) (k : Nat) (f : Site → Site) : (s.modSite k f).compute = s.compute := rfl
@[simp] theorem State.modSite_ops (s : State) (k : Nat) (f : Site → Site) : (s.modSite k f).ops = s.ops := rfl
@[simp] theorem State.modSite_mem (s : State) (k : Nat) (f : Site → Site) : (s.modSite k f).mem = s.mem := rfl
@[simp] theorem State.modSite_optics (s : State) (k : Nat) (f : Site → Site) : (s.modSite k f).optics = s.optics := rfl
@[simp] theorem State.modSite_domain (s : State) (k : Nat) (f : Site → Site) : (s.modSite k f).domain = s.domain := rfl
@[simp] theorem State.modSite_cal (s : State) (k : Nat) (f : Site → Site) : (s.modSite k f).cal = s.cal := rfl
@[simp] theorem State.modSite_sec (s : State) (k : Nat) (f : Site → Site) : (s.modSite k f).sec = s.sec := rfl
@[simp] theorem State.modSite_console (s : State) (k : Nat) (f : Site → Site) : (s.modSite k f).console = s.console := rfl
@[simp] theorem State.modSite_out (s : State) (k : Nat) (f : Site → Site) : (s.modSite k f).out = s.out := rfl
@[simp] theorem State.modSite_freeIx (s : State) (k : Nat) (f : Site → Site) : (s.modSite k f).freeIx = s.freeIx := rfl
@[simp] theorem State.modSite_pending (s : State) (k : Nat) (f : Site → Site) : (s.modSite k f).pending = s.pending := rfl

@[simp] theorem State.setEngine_engine (s : State) (k : Nat) (v : Engine) : (s.setEngine k v).engine k = v := Store.get_put_self _ _ _ _
theorem State.setEngine_engine_other (s : State) {k i : Nat} (v : Engine) (h : i ≠ k) : (s.setEngine k v).engine i = s.engine i :=
  Store.get_put_other _ _ v h
@[simp] theorem State.modEngine_engine (s : State) (k : Nat) (f : Engine → Engine) : (s.modEngine k f).engine k = f (s.engine k) := State.setEngine_engine s k _
theorem State.modEngine_engine_other (s : State) {k i : Nat} (f : Engine → Engine) (h : i ≠ k) : (s.modEngine k f).engine i = s.engine i :=
  State.setEngine_engine_other s _ h
@[simp] theorem State.modEngine_power (s : State) (k : Nat) (f : Engine → Engine) : (s.modEngine k f).power = s.power := rfl
@[simp] theorem State.modEngine_thermal (s : State) (k : Nat) (f : Engine → Engine) : (s.modEngine k f).thermal = s.thermal := rfl
@[simp] theorem State.modEngine_host (s : State) (k : Nat) (f : Engine → Engine) : (s.modEngine k f).host = s.host := rfl
@[simp] theorem State.modEngine_tel (s : State) (k : Nat) (f : Engine → Engine) : (s.modEngine k f).tel = s.tel := rfl
@[simp] theorem State.modEngine_faults (s : State) (k : Nat) (f : Engine → Engine) : (s.modEngine k f).faults = s.faults := rfl
@[simp] theorem State.modEngine_keeper (s : State) (k : Nat) (f : Engine → Engine) : (s.modEngine k f).keeper = s.keeper := rfl
@[simp] theorem State.modEngine_flash (s : State) (k : Nat) (f : Engine → Engine) : (s.modEngine k f).flash = s.flash := rfl
@[simp] theorem State.modEngine_compute (s : State) (k : Nat) (f : Engine → Engine) : (s.modEngine k f).compute = s.compute := rfl
@[simp] theorem State.modEngine_ops (s : State) (k : Nat) (f : Engine → Engine) : (s.modEngine k f).ops = s.ops := rfl
@[simp] theorem State.modEngine_mem (s : State) (k : Nat) (f : Engine → Engine) : (s.modEngine k f).mem = s.mem := rfl
@[simp] theorem State.modEngine_d2d (s : State) (k : Nat) (f : Engine → Engine) : (s.modEngine k f).d2d = s.d2d := rfl
@[simp] theorem State.modEngine_domain (s : State) (k : Nat) (f : Engine → Engine) : (s.modEngine k f).domain = s.domain := rfl
@[simp] theorem State.modEngine_cal (s : State) (k : Nat) (f : Engine → Engine) : (s.modEngine k f).cal = s.cal := rfl
@[simp] theorem State.modEngine_sec (s : State) (k : Nat) (f : Engine → Engine) : (s.modEngine k f).sec = s.sec := rfl
@[simp] theorem State.modEngine_console (s : State) (k : Nat) (f : Engine → Engine) : (s.modEngine k f).console = s.console := rfl
@[simp] theorem State.modEngine_out (s : State) (k : Nat) (f : Engine → Engine) : (s.modEngine k f).out = s.out := rfl
@[simp] theorem State.modEngine_freeIx (s : State) (k : Nat) (f : Engine → Engine) : (s.modEngine k f).freeIx = s.freeIx := rfl
@[simp] theorem State.modEngine_pending (s : State) (k : Nat) (f : Engine → Engine) : (s.modEngine k f).pending = s.pending := rfl

@[simp] theorem State.setLink_link (s : State) (k : Nat) (v : Link) : (s.setLink k v).link k = v := Store.get_put_self _ _ _ _
theorem State.setLink_link_other (s : State) {k i : Nat} (v : Link) (h : i ≠ k) : (s.setLink k v).link i = s.link i :=
  Store.get_put_other _ _ v h
@[simp] theorem State.modLink_link (s : State) (k : Nat) (f : Link → Link) : (s.modLink k f).link k = f (s.link k) := State.setLink_link s k _
theorem State.modLink_link_other (s : State) {k i : Nat} (f : Link → Link) (h : i ≠ k) : (s.modLink k f).link i = s.link i :=
  State.setLink_link_other s _ h
@[simp] theorem State.modLink_power (s : State) (k : Nat) (f : Link → Link) : (s.modLink k f).power = s.power := rfl
@[simp] theorem State.modLink_thermal (s : State) (k : Nat) (f : Link → Link) : (s.modLink k f).thermal = s.thermal := rfl
@[simp] theorem State.modLink_host (s : State) (k : Nat) (f : Link → Link) : (s.modLink k f).host = s.host := rfl
@[simp] theorem State.modLink_tel (s : State) (k : Nat) (f : Link → Link) : (s.modLink k f).tel = s.tel := rfl
@[simp] theorem State.modLink_faults (s : State) (k : Nat) (f : Link → Link) : (s.modLink k f).faults = s.faults := rfl
@[simp] theorem State.modLink_keeper (s : State) (k : Nat) (f : Link → Link) : (s.modLink k f).keeper = s.keeper := rfl
@[simp] theorem State.modLink_flash (s : State) (k : Nat) (f : Link → Link) : (s.modLink k f).flash = s.flash := rfl
@[simp] theorem State.modLink_compute (s : State) (k : Nat) (f : Link → Link) : (s.modLink k f).compute = s.compute := rfl
@[simp] theorem State.modLink_ops (s : State) (k : Nat) (f : Link → Link) : (s.modLink k f).ops = s.ops := rfl
@[simp] theorem State.modLink_mem (s : State) (k : Nat) (f : Link → Link) : (s.modLink k f).mem = s.mem := rfl
@[simp] theorem State.modLink_d2d (s : State) (k : Nat) (f : Link → Link) : (s.modLink k f).d2d = s.d2d := rfl
@[simp] theorem State.modLink_optics (s : State) (k : Nat) (f : Link → Link) : (s.modLink k f).optics = s.optics := rfl
@[simp] theorem State.modLink_cal (s : State) (k : Nat) (f : Link → Link) : (s.modLink k f).cal = s.cal := rfl
@[simp] theorem State.modLink_sec (s : State) (k : Nat) (f : Link → Link) : (s.modLink k f).sec = s.sec := rfl
@[simp] theorem State.modLink_console (s : State) (k : Nat) (f : Link → Link) : (s.modLink k f).console = s.console := rfl
@[simp] theorem State.modLink_out (s : State) (k : Nat) (f : Link → Link) : (s.modLink k f).out = s.out := rfl
@[simp] theorem State.modLink_freeIx (s : State) (k : Nat) (f : Link → Link) : (s.modLink k f).freeIx = s.freeIx := rfl
@[simp] theorem State.modLink_pending (s : State) (k : Nat) (f : Link → Link) : (s.modLink k f).pending = s.pending := rfl

@[simp] theorem State.setGroup_group (s : State) (k : Nat) (v : Group) : (s.setGroup k v).group k = v := Store.get_put_self _ _ _ _
theorem State.setGroup_group_other (s : State) {k i : Nat} (v : Group) (h : i ≠ k) : (s.setGroup k v).group i = s.group i :=
  Store.get_put_other _ _ v h
@[simp] theorem State.modGroup_group (s : State) (k : Nat) (f : Group → Group) : (s.modGroup k f).group k = f (s.group k) := State.setGroup_group s k _
theorem State.modGroup_group_other (s : State) {k i : Nat} (f : Group → Group) (h : i ≠ k) : (s.modGroup k f).group i = s.group i :=
  State.setGroup_group_other s _ h
@[simp] theorem State.modGroup_power (s : State) (k : Nat) (f : Group → Group) : (s.modGroup k f).power = s.power := rfl
@[simp] theorem State.modGroup_thermal (s : State) (k : Nat) (f : Group → Group) : (s.modGroup k f).thermal = s.thermal := rfl
@[simp] theorem State.modGroup_host (s : State) (k : Nat) (f : Group → Group) : (s.modGroup k f).host = s.host := rfl
@[simp] theorem State.modGroup_tel (s : State) (k : Nat) (f : Group → Group) : (s.modGroup k f).tel = s.tel := rfl
@[simp] theorem State.modGroup_faults (s : State) (k : Nat) (f : Group → Group) : (s.modGroup k f).faults = s.faults := rfl
@[simp] theorem State.modGroup_keeper (s : State) (k : Nat) (f : Group → Group) : (s.modGroup k f).keeper = s.keeper := rfl
@[simp] theorem State.modGroup_flash (s : State) (k : Nat) (f : Group → Group) : (s.modGroup k f).flash = s.flash := rfl
@[simp] theorem State.modGroup_compute (s : State) (k : Nat) (f : Group → Group) : (s.modGroup k f).compute = s.compute := rfl
@[simp] theorem State.modGroup_ops (s : State) (k : Nat) (f : Group → Group) : (s.modGroup k f).ops = s.ops := rfl
@[simp] theorem State.modGroup_mem (s : State) (k : Nat) (f : Group → Group) : (s.modGroup k f).mem = s.mem := rfl
@[simp] theorem State.modGroup_d2d (s : State) (k : Nat) (f : Group → Group) : (s.modGroup k f).d2d = s.d2d := rfl
@[simp] theorem State.modGroup_optics (s : State) (k : Nat) (f : Group → Group) : (s.modGroup k f).optics = s.optics := rfl
@[simp] theorem State.modGroup_cal (s : State) (k : Nat) (f : Group → Group) : (s.modGroup k f).cal = s.cal := rfl
@[simp] theorem State.modGroup_sec (s : State) (k : Nat) (f : Group → Group) : (s.modGroup k f).sec = s.sec := rfl
@[simp] theorem State.modGroup_console (s : State) (k : Nat) (f : Group → Group) : (s.modGroup k f).console = s.console := rfl
@[simp] theorem State.modGroup_out (s : State) (k : Nat) (f : Group → Group) : (s.modGroup k f).out = s.out := rfl
@[simp] theorem State.modGroup_freeIx (s : State) (k : Nat) (f : Group → Group) : (s.modGroup k f).freeIx = s.freeIx := rfl
@[simp] theorem State.modGroup_pending (s : State) (k : Nat) (f : Group → Group) : (s.modGroup k f).pending = s.pending := rfl

@[simp] theorem State.emit_power (s : State) (o : Out) : (s.emit o).power = s.power := rfl
@[simp] theorem State.emit_thermal (s : State) (o : Out) : (s.emit o).thermal = s.thermal := rfl
@[simp] theorem State.emit_host (s : State) (o : Out) : (s.emit o).host = s.host := rfl
@[simp] theorem State.emit_tel (s : State) (o : Out) : (s.emit o).tel = s.tel := rfl
@[simp] theorem State.emit_faults (s : State) (o : Out) : (s.emit o).faults = s.faults := rfl
@[simp] theorem State.emit_keeper (s : State) (o : Out) : (s.emit o).keeper = s.keeper := rfl
@[simp] theorem State.emit_flash (s : State) (o : Out) : (s.emit o).flash = s.flash := rfl
@[simp] theorem State.emit_compute (s : State) (o : Out) : (s.emit o).compute = s.compute := rfl
@[simp] theorem State.emit_ops (s : State) (o : Out) : (s.emit o).ops = s.ops := rfl
@[simp] theorem State.emit_mem (s : State) (o : Out) : (s.emit o).mem = s.mem := rfl
@[simp] theorem State.emit_d2d (s : State) (o : Out) : (s.emit o).d2d = s.d2d := rfl
@[simp] theorem State.emit_optics (s : State) (o : Out) : (s.emit o).optics = s.optics := rfl
@[simp] theorem State.emit_domain (s : State) (o : Out) : (s.emit o).domain = s.domain := rfl
@[simp] theorem State.emit_cal (s : State) (o : Out) : (s.emit o).cal = s.cal := rfl
@[simp] theorem State.emit_sec (s : State) (o : Out) : (s.emit o).sec = s.sec := rfl
@[simp] theorem State.emit_console (s : State) (o : Out) : (s.emit o).console = s.console := rfl
@[simp] theorem State.emit_freeIx (s : State) (o : Out) : (s.emit o).freeIx = s.freeIx := rfl
@[simp] theorem State.emit_pending (s : State) (o : Out) : (s.emit o).pending = s.pending := rfl
@[simp] theorem State.emits_power (s : State) (o : List Out) : (s.emits o).power = s.power := rfl
@[simp] theorem State.emits_thermal (s : State) (o : List Out) : (s.emits o).thermal = s.thermal := rfl
@[simp] theorem State.emits_host (s : State) (o : List Out) : (s.emits o).host = s.host := rfl
@[simp] theorem State.emits_tel (s : State) (o : List Out) : (s.emits o).tel = s.tel := rfl
@[simp] theorem State.emits_faults (s : State) (o : List Out) : (s.emits o).faults = s.faults := rfl
@[simp] theorem State.emits_keeper (s : State) (o : List Out) : (s.emits o).keeper = s.keeper := rfl
@[simp] theorem State.emits_flash (s : State) (o : List Out) : (s.emits o).flash = s.flash := rfl
@[simp] theorem State.emits_compute (s : State) (o : List Out) : (s.emits o).compute = s.compute := rfl
@[simp] theorem State.emits_ops (s : State) (o : List Out) : (s.emits o).ops = s.ops := rfl
@[simp] theorem State.emits_mem (s : State) (o : List Out) : (s.emits o).mem = s.mem := rfl
@[simp] theorem State.emits_d2d (s : State) (o : List Out) : (s.emits o).d2d = s.d2d := rfl
@[simp] theorem State.emits_optics (s : State) (o : List Out) : (s.emits o).optics = s.optics := rfl
@[simp] theorem State.emits_domain (s : State) (o : List Out) : (s.emits o).domain = s.domain := rfl
@[simp] theorem State.emits_cal (s : State) (o : List Out) : (s.emits o).cal = s.cal := rfl
@[simp] theorem State.emits_sec (s : State) (o : List Out) : (s.emits o).sec = s.sec := rfl
@[simp] theorem State.emits_console (s : State) (o : List Out) : (s.emits o).console = s.console := rfl
@[simp] theorem State.emits_freeIx (s : State) (o : List Out) : (s.emits o).freeIx = s.freeIx := rfl
@[simp] theorem State.emits_pending (s : State) (o : List Out) : (s.emits o).pending = s.pending := rfl
@[simp] theorem State.spend_power (s : State)  : (s.spend).power = s.power := rfl
@[simp] theorem State.spend_thermal (s : State)  : (s.spend).thermal = s.thermal := rfl
@[simp] theorem State.spend_host (s : State)  : (s.spend).host = s.host := rfl
@[simp] theorem State.spend_tel (s : State)  : (s.spend).tel = s.tel := rfl
@[simp] theorem State.spend_faults (s : State)  : (s.spend).faults = s.faults := rfl
@[simp] theorem State.spend_keeper (s : State)  : (s.spend).keeper = s.keeper := rfl
@[simp] theorem State.spend_flash (s : State)  : (s.spend).flash = s.flash := rfl
@[simp] theorem State.spend_compute (s : State)  : (s.spend).compute = s.compute := rfl
@[simp] theorem State.spend_ops (s : State)  : (s.spend).ops = s.ops := rfl
@[simp] theorem State.spend_mem (s : State)  : (s.spend).mem = s.mem := rfl
@[simp] theorem State.spend_d2d (s : State)  : (s.spend).d2d = s.d2d := rfl
@[simp] theorem State.spend_optics (s : State)  : (s.spend).optics = s.optics := rfl
@[simp] theorem State.spend_domain (s : State)  : (s.spend).domain = s.domain := rfl
@[simp] theorem State.spend_cal (s : State)  : (s.spend).cal = s.cal := rfl
@[simp] theorem State.spend_sec (s : State)  : (s.spend).sec = s.sec := rfl
@[simp] theorem State.spend_console (s : State)  : (s.spend).console = s.console := rfl
@[simp] theorem State.spend_out (s : State)  : (s.spend).out = s.out := rfl
@[simp] theorem State.spend_pending (s : State)  : (s.spend).pending = s.pending := rfl
@[simp] theorem State.countCtx_power (s : State) (k c x i n : Nat) : (s.countCtx k c x i n).power = s.power := rfl
@[simp] theorem State.countCtx_thermal (s : State) (k c x i n : Nat) : (s.countCtx k c x i n).thermal = s.thermal := rfl
@[simp] theorem State.countCtx_host (s : State) (k c x i n : Nat) : (s.countCtx k c x i n).host = s.host := rfl
@[simp] theorem State.countCtx_faults (s : State) (k c x i n : Nat) : (s.countCtx k c x i n).faults = s.faults := rfl
@[simp] theorem State.countCtx_keeper (s : State) (k c x i n : Nat) : (s.countCtx k c x i n).keeper = s.keeper := rfl
@[simp] theorem State.countCtx_flash (s : State) (k c x i n : Nat) : (s.countCtx k c x i n).flash = s.flash := rfl
@[simp] theorem State.countCtx_compute (s : State) (k c x i n : Nat) : (s.countCtx k c x i n).compute = s.compute := rfl
@[simp] theorem State.countCtx_ops (s : State) (k c x i n : Nat) : (s.countCtx k c x i n).ops = s.ops := rfl
@[simp] theorem State.countCtx_mem (s : State) (k c x i n : Nat) : (s.countCtx k c x i n).mem = s.mem := rfl
@[simp] theorem State.countCtx_d2d (s : State) (k c x i n : Nat) : (s.countCtx k c x i n).d2d = s.d2d := rfl
@[simp] theorem State.countCtx_optics (s : State) (k c x i n : Nat) : (s.countCtx k c x i n).optics = s.optics := rfl
@[simp] theorem State.countCtx_domain (s : State) (k c x i n : Nat) : (s.countCtx k c x i n).domain = s.domain := rfl
@[simp] theorem State.countCtx_cal (s : State) (k c x i n : Nat) : (s.countCtx k c x i n).cal = s.cal := rfl
@[simp] theorem State.countCtx_sec (s : State) (k c x i n : Nat) : (s.countCtx k c x i n).sec = s.sec := rfl
@[simp] theorem State.countCtx_console (s : State) (k c x i n : Nat) : (s.countCtx k c x i n).console = s.console := rfl
@[simp] theorem State.countCtx_out (s : State) (k c x i n : Nat) : (s.countCtx k c x i n).out = s.out := rfl
@[simp] theorem State.countCtx_freeIx (s : State) (k c x i n : Nat) : (s.countCtx k c x i n).freeIx = s.freeIx := rfl
@[simp] theorem State.countCtx_pending (s : State) (k c x i n : Nat) : (s.countCtx k c x i n).pending = s.pending := rfl
@[simp] theorem State.count_power (s : State) (k c i n : Nat) : (s.count k c i n).power = s.power := rfl
@[simp] theorem State.count_thermal (s : State) (k c i n : Nat) : (s.count k c i n).thermal = s.thermal := rfl
@[simp] theorem State.count_host (s : State) (k c i n : Nat) : (s.count k c i n).host = s.host := rfl
@[simp] theorem State.count_faults (s : State) (k c i n : Nat) : (s.count k c i n).faults = s.faults := rfl
@[simp] theorem State.count_keeper (s : State) (k c i n : Nat) : (s.count k c i n).keeper = s.keeper := rfl
@[simp] theorem State.count_flash (s : State) (k c i n : Nat) : (s.count k c i n).flash = s.flash := rfl
@[simp] theorem State.count_compute (s : State) (k c i n : Nat) : (s.count k c i n).compute = s.compute := rfl
@[simp] theorem State.count_ops (s : State) (k c i n : Nat) : (s.count k c i n).ops = s.ops := rfl
@[simp] theorem State.count_mem (s : State) (k c i n : Nat) : (s.count k c i n).mem = s.mem := rfl
@[simp] theorem State.count_d2d (s : State) (k c i n : Nat) : (s.count k c i n).d2d = s.d2d := rfl
@[simp] theorem State.count_optics (s : State) (k c i n : Nat) : (s.count k c i n).optics = s.optics := rfl
@[simp] theorem State.count_domain (s : State) (k c i n : Nat) : (s.count k c i n).domain = s.domain := rfl
@[simp] theorem State.count_cal (s : State) (k c i n : Nat) : (s.count k c i n).cal = s.cal := rfl
@[simp] theorem State.count_sec (s : State) (k c i n : Nat) : (s.count k c i n).sec = s.sec := rfl
@[simp] theorem State.count_console (s : State) (k c i n : Nat) : (s.count k c i n).console = s.console := rfl
@[simp] theorem State.count_out (s : State) (k c i n : Nat) : (s.count k c i n).out = s.out := rfl
@[simp] theorem State.count_freeIx (s : State) (k c i n : Nat) : (s.count k c i n).freeIx = s.freeIx := rfl
@[simp] theorem State.count_pending (s : State) (k c i n : Nat) : (s.count k c i n).pending = s.pending := rfl
@[simp] theorem State.setPoison_power (s : State) (h o : Nat) (p : Bool) : (s.setPoison h o p).power = s.power := rfl
@[simp] theorem State.setPoison_thermal (s : State) (h o : Nat) (p : Bool) : (s.setPoison h o p).thermal = s.thermal := rfl
@[simp] theorem State.setPoison_host (s : State) (h o : Nat) (p : Bool) : (s.setPoison h o p).host = s.host := rfl
@[simp] theorem State.setPoison_tel (s : State) (h o : Nat) (p : Bool) : (s.setPoison h o p).tel = s.tel := rfl
@[simp] theorem State.setPoison_faults (s : State) (h o : Nat) (p : Bool) : (s.setPoison h o p).faults = s.faults := rfl
@[simp] theorem State.setPoison_keeper (s : State) (h o : Nat) (p : Bool) : (s.setPoison h o p).keeper = s.keeper := rfl
@[simp] theorem State.setPoison_flash (s : State) (h o : Nat) (p : Bool) : (s.setPoison h o p).flash = s.flash := rfl
@[simp] theorem State.setPoison_compute (s : State) (h o : Nat) (p : Bool) : (s.setPoison h o p).compute = s.compute := rfl
@[simp] theorem State.setPoison_ops (s : State) (h o : Nat) (p : Bool) : (s.setPoison h o p).ops = s.ops := rfl
@[simp] theorem State.setPoison_d2d (s : State) (h o : Nat) (p : Bool) : (s.setPoison h o p).d2d = s.d2d := rfl
@[simp] theorem State.setPoison_optics (s : State) (h o : Nat) (p : Bool) : (s.setPoison h o p).optics = s.optics := rfl
@[simp] theorem State.setPoison_domain (s : State) (h o : Nat) (p : Bool) : (s.setPoison h o p).domain = s.domain := rfl
@[simp] theorem State.setPoison_cal (s : State) (h o : Nat) (p : Bool) : (s.setPoison h o p).cal = s.cal := rfl
@[simp] theorem State.setPoison_sec (s : State) (h o : Nat) (p : Bool) : (s.setPoison h o p).sec = s.sec := rfl
@[simp] theorem State.setPoison_console (s : State) (h o : Nat) (p : Bool) : (s.setPoison h o p).console = s.console := rfl
@[simp] theorem State.setPoison_out (s : State) (h o : Nat) (p : Bool) : (s.setPoison h o p).out = s.out := rfl
@[simp] theorem State.setPoison_freeIx (s : State) (h o : Nat) (p : Bool) : (s.setPoison h o p).freeIx = s.freeIx := rfl
@[simp] theorem State.setPoison_pending (s : State) (h o : Nat) (p : Bool) : (s.setPoison h o p).pending = s.pending := rfl
@[simp] theorem State.putBytes_power (s : State) (h o : Nat) (b : List Byte) : (s.putBytes h o b).power = s.power := rfl
@[simp] theorem State.putBytes_thermal (s : State) (h o : Nat) (b : List Byte) : (s.putBytes h o b).thermal = s.thermal := rfl
@[simp] theorem State.putBytes_host (s : State) (h o : Nat) (b : List Byte) : (s.putBytes h o b).host = s.host := rfl
@[simp] theorem State.putBytes_tel (s : State) (h o : Nat) (b : List Byte) : (s.putBytes h o b).tel = s.tel := rfl
@[simp] theorem State.putBytes_faults (s : State) (h o : Nat) (b : List Byte) : (s.putBytes h o b).faults = s.faults := rfl
@[simp] theorem State.putBytes_keeper (s : State) (h o : Nat) (b : List Byte) : (s.putBytes h o b).keeper = s.keeper := rfl
@[simp] theorem State.putBytes_flash (s : State) (h o : Nat) (b : List Byte) : (s.putBytes h o b).flash = s.flash := rfl
@[simp] theorem State.putBytes_compute (s : State) (h o : Nat) (b : List Byte) : (s.putBytes h o b).compute = s.compute := rfl
@[simp] theorem State.putBytes_ops (s : State) (h o : Nat) (b : List Byte) : (s.putBytes h o b).ops = s.ops := rfl
@[simp] theorem State.putBytes_d2d (s : State) (h o : Nat) (b : List Byte) : (s.putBytes h o b).d2d = s.d2d := rfl
@[simp] theorem State.putBytes_optics (s : State) (h o : Nat) (b : List Byte) : (s.putBytes h o b).optics = s.optics := rfl
@[simp] theorem State.putBytes_domain (s : State) (h o : Nat) (b : List Byte) : (s.putBytes h o b).domain = s.domain := rfl
@[simp] theorem State.putBytes_cal (s : State) (h o : Nat) (b : List Byte) : (s.putBytes h o b).cal = s.cal := rfl
@[simp] theorem State.putBytes_sec (s : State) (h o : Nat) (b : List Byte) : (s.putBytes h o b).sec = s.sec := rfl
@[simp] theorem State.putBytes_console (s : State) (h o : Nat) (b : List Byte) : (s.putBytes h o b).console = s.console := rfl
@[simp] theorem State.putBytes_out (s : State) (h o : Nat) (b : List Byte) : (s.putBytes h o b).out = s.out := rfl
@[simp] theorem State.putBytes_freeIx (s : State) (h o : Nat) (b : List Byte) : (s.putBytes h o b).freeIx = s.freeIx := rfl
@[simp] theorem State.putBytes_pending (s : State) (h o : Nat) (b : List Byte) : (s.putBytes h o b).pending = s.pending := rfl
@[simp] theorem State.putStatus_power (s : State) (v : W32) : (s.putStatus v).power = s.power := rfl
@[simp] theorem State.putStatus_thermal (s : State) (v : W32) : (s.putStatus v).thermal = s.thermal := rfl
@[simp] theorem State.putStatus_host (s : State) (v : W32) : (s.putStatus v).host = s.host := rfl
@[simp] theorem State.putStatus_tel (s : State) (v : W32) : (s.putStatus v).tel = s.tel := rfl
@[simp] theorem State.putStatus_faults (s : State) (v : W32) : (s.putStatus v).faults = s.faults := rfl
@[simp] theorem State.putStatus_flash (s : State) (v : W32) : (s.putStatus v).flash = s.flash := rfl
@[simp] theorem State.putStatus_compute (s : State) (v : W32) : (s.putStatus v).compute = s.compute := rfl
@[simp] theorem State.putStatus_ops (s : State) (v : W32) : (s.putStatus v).ops = s.ops := rfl
@[simp] theorem State.putStatus_mem (s : State) (v : W32) : (s.putStatus v).mem = s.mem := rfl
@[simp] theorem State.putStatus_d2d (s : State) (v : W32) : (s.putStatus v).d2d = s.d2d := rfl
@[simp] theorem State.putStatus_optics (s : State) (v : W32) : (s.putStatus v).optics = s.optics := rfl
@[simp] theorem State.putStatus_domain (s : State) (v : W32) : (s.putStatus v).domain = s.domain := rfl
@[simp] theorem State.putStatus_cal (s : State) (v : W32) : (s.putStatus v).cal = s.cal := rfl
@[simp] theorem State.putStatus_sec (s : State) (v : W32) : (s.putStatus v).sec = s.sec := rfl
@[simp] theorem State.putStatus_console (s : State) (v : W32) : (s.putStatus v).console = s.console := rfl
@[simp] theorem State.putStatus_out (s : State) (v : W32) : (s.putStatus v).out = s.out := rfl
@[simp] theorem State.putStatus_freeIx (s : State) (v : W32) : (s.putStatus v).freeIx = s.freeIx := rfl
@[simp] theorem State.putStatus_pending (s : State) (v : W32) : (s.putStatus v).pending = s.pending := rfl
@[simp] theorem State.statusBit_power (s : State) (k : Nat) (b : Bool) : (s.statusBit k b).power = s.power := rfl
@[simp] theorem State.statusBit_thermal (s : State) (k : Nat) (b : Bool) : (s.statusBit k b).thermal = s.thermal := rfl
@[simp] theorem State.statusBit_host (s : State) (k : Nat) (b : Bool) : (s.statusBit k b).host = s.host := rfl
@[simp] theorem State.statusBit_tel (s : State) (k : Nat) (b : Bool) : (s.statusBit k b).tel = s.tel := rfl
@[simp] theorem State.statusBit_faults (s : State) (k : Nat) (b : Bool) : (s.statusBit k b).faults = s.faults := rfl
@[simp] theorem State.statusBit_flash (s : State) (k : Nat) (b : Bool) : (s.statusBit k b).flash = s.flash := rfl
@[simp] theorem State.statusBit_compute (s : State) (k : Nat) (b : Bool) : (s.statusBit k b).compute = s.compute := rfl
@[simp] theorem State.statusBit_ops (s : State) (k : Nat) (b : Bool) : (s.statusBit k b).ops = s.ops := rfl
@[simp] theorem State.statusBit_mem (s : State) (k : Nat) (b : Bool) : (s.statusBit k b).mem = s.mem := rfl
@[simp] theorem State.statusBit_d2d (s : State) (k : Nat) (b : Bool) : (s.statusBit k b).d2d = s.d2d := rfl
@[simp] theorem State.statusBit_optics (s : State) (k : Nat) (b : Bool) : (s.statusBit k b).optics = s.optics := rfl
@[simp] theorem State.statusBit_domain (s : State) (k : Nat) (b : Bool) : (s.statusBit k b).domain = s.domain := rfl
@[simp] theorem State.statusBit_cal (s : State) (k : Nat) (b : Bool) : (s.statusBit k b).cal = s.cal := rfl
@[simp] theorem State.statusBit_sec (s : State) (k : Nat) (b : Bool) : (s.statusBit k b).sec = s.sec := rfl
@[simp] theorem State.statusBit_console (s : State) (k : Nat) (b : Bool) : (s.statusBit k b).console = s.console := rfl
@[simp] theorem State.statusBit_out (s : State) (k : Nat) (b : Bool) : (s.statusBit k b).out = s.out := rfl
@[simp] theorem State.statusBit_freeIx (s : State) (k : Nat) (b : Bool) : (s.statusBit k b).freeIx = s.freeIx := rfl
@[simp] theorem State.statusBit_pending (s : State) (k : Nat) (b : Bool) : (s.statusBit k b).pending = s.pending := rfl
@[simp] theorem State.emit_out (s : State) (o : Out) : (s.emit o).out = s.out ++ [o] := rfl

@[simp] theorem State.modPort_port (s : State) (p : HostPort) (f : Port → Port) : (s.modPort p f).port p = f (s.port p) := by
  cases p <;> rfl

theorem State.modPort_other (s : State) (p q : HostPort) (f : Port → Port) (h : q ≠ p) : (s.modPort p f).port q = s.port q := by
  cases p <;> cases q <;> first | rfl | exact absurd rfl h
@[simp] theorem State.modPort_power (s : State) (p : HostPort) (f : Port → Port) : (s.modPort p f).power = s.power := by
  cases p <;> rfl
@[simp] theorem State.modPort_thermal (s : State) (p : HostPort) (f : Port → Port) : (s.modPort p f).thermal = s.thermal := by
  cases p <;> rfl
@[simp] theorem State.modPort_tel (s : State) (p : HostPort) (f : Port → Port) : (s.modPort p f).tel = s.tel := by
  cases p <;> rfl
@[simp] theorem State.modPort_faults (s : State) (p : HostPort) (f : Port → Port) : (s.modPort p f).faults = s.faults := by
  cases p <;> rfl
@[simp] theorem State.modPort_keeper (s : State) (p : HostPort) (f : Port → Port) : (s.modPort p f).keeper = s.keeper := by
  cases p <;> rfl
@[simp] theorem State.modPort_flash (s : State) (p : HostPort) (f : Port → Port) : (s.modPort p f).flash = s.flash := by
  cases p <;> rfl
@[simp] theorem State.modPort_compute (s : State) (p : HostPort) (f : Port → Port) : (s.modPort p f).compute = s.compute := by
  cases p <;> rfl
@[simp] theorem State.modPort_ops (s : State) (p : HostPort) (f : Port → Port) : (s.modPort p f).ops = s.ops := by
  cases p <;> rfl
@[simp] theorem State.modPort_mem (s : State) (p : HostPort) (f : Port → Port) : (s.modPort p f).mem = s.mem := by
  cases p <;> rfl
@[simp] theorem State.modPort_d2d (s : State) (p : HostPort) (f : Port → Port) : (s.modPort p f).d2d = s.d2d := by
  cases p <;> rfl
@[simp] theorem State.modPort_optics (s : State) (p : HostPort) (f : Port → Port) : (s.modPort p f).optics = s.optics := by
  cases p <;> rfl
@[simp] theorem State.modPort_domain (s : State) (p : HostPort) (f : Port → Port) : (s.modPort p f).domain = s.domain := by
  cases p <;> rfl
@[simp] theorem State.modPort_cal (s : State) (p : HostPort) (f : Port → Port) : (s.modPort p f).cal = s.cal := by
  cases p <;> rfl
@[simp] theorem State.modPort_sec (s : State) (p : HostPort) (f : Port → Port) : (s.modPort p f).sec = s.sec := by
  cases p <;> rfl
@[simp] theorem State.modPort_console (s : State) (p : HostPort) (f : Port → Port) : (s.modPort p f).console = s.console := by
  cases p <;> rfl
@[simp] theorem State.modPort_out (s : State) (p : HostPort) (f : Port → Port) : (s.modPort p f).out = s.out := by
  cases p <;> rfl
@[simp] theorem State.modPort_freeIx (s : State) (p : HostPort) (f : Port → Port) : (s.modPort p f).freeIx = s.freeIx := by
  cases p <;> rfl
@[simp] theorem State.modPort_pending (s : State) (p : HostPort) (f : Port → Port) : (s.modPort p f).pending = s.pending := by
  cases p <;> rfl

end Sys2Proof.Machine
end

