-- ==== Sys2Proof/Laws/Ops.lean ====
section
/-! SUPPORT. What each shared operation can change: it leaves every other group of the state as it was. -/

namespace Sys2Proof.Machine

/-- A fold of steps that each leave a field keeps it. -/
theorem foldl_keeps {α β γ : Type} (g : β → γ) (f : β → α → β) (h : ∀ b a, g (f b a) = g b) (l : List α) (b : β) :
    g (l.foldl f b) = g b := by
  induction l generalizing b with
  | nil => rfl
  | cons a l ih => rw [List.foldl_cons, ih, h]

/-- The same for a fold that carries a further value beside the state. -/
theorem foldl_keeps_fst {α β γ δ : Type} (g : β → γ) (f : β × δ → α → β × δ) (h : ∀ b a, g (f b a).1 = g b.1) (l : List α)
    (b : β × δ) : g (l.foldl f b).1 = g b.1 := by
  induction l generalizing b with
  | nil => rfl
  | cons a l ih => rw [List.foldl_cons, ih, h]

@[simp] theorem State.vectorOn_power (s : State) (p : HostPort) (v : Nat) : (s.vectorOn p v).power = s.power := by
  unfold State.vectorOn; split <;> simp
@[simp] theorem State.vectorOn_thermal (s : State) (p : HostPort) (v : Nat) : (s.vectorOn p v).thermal = s.thermal := by
  unfold State.vectorOn; split <;> simp
@[simp] theorem State.vectorOn_tel (s : State) (p : HostPort) (v : Nat) : (s.vectorOn p v).tel = s.tel := by
  unfold State.vectorOn; split <;> simp
@[simp] theorem State.vectorOn_faults (s : State) (p : HostPort) (v : Nat) : (s.vectorOn p v).faults = s.faults := by
  unfold State.vectorOn; split <;> simp
@[simp] theorem State.vectorOn_keeper (s : State) (p : HostPort) (v : Nat) : (s.vectorOn p v).keeper = s.keeper := by
  unfold State.vectorOn; split <;> simp
@[simp] theorem State.vectorOn_flash (s : State) (p : HostPort) (v : Nat) : (s.vectorOn p v).flash = s.flash := by
  unfold State.vectorOn; split <;> simp
@[simp] theorem State.vectorOn_compute (s : State) (p : HostPort) (v : Nat) : (s.vectorOn p v).compute = s.compute := by
  unfold State.vectorOn; split <;> simp
@[simp] theorem State.vectorOn_ops (s : State) (p : HostPort) (v : Nat) : (s.vectorOn p v).ops = s.ops := by
  unfold State.vectorOn; split <;> simp
@[simp] theorem State.vectorOn_mem (s : State) (p : HostPort) (v : Nat) : (s.vectorOn p v).mem = s.mem := by
  unfold State.vectorOn; split <;> simp
@[simp] theorem State.vectorOn_d2d (s : State) (p : HostPort) (v : Nat) : (s.vectorOn p v).d2d = s.d2d := by
  unfold State.vectorOn; split <;> simp
@[simp] theorem State.vectorOn_optics (s : State) (p : HostPort) (v : Nat) : (s.vectorOn p v).optics = s.optics := by
  unfold State.vectorOn; split <;> simp
@[simp] theorem State.vectorOn_domain (s : State) (p : HostPort) (v : Nat) : (s.vectorOn p v).domain = s.domain := by
  unfold State.vectorOn; split <;> simp
@[simp] theorem State.vectorOn_cal (s : State) (p : HostPort) (v : Nat) : (s.vectorOn p v).cal = s.cal := by
  unfold State.vectorOn; split <;> simp
@[simp] theorem State.vectorOn_sec (s : State) (p : HostPort) (v : Nat) : (s.vectorOn p v).sec = s.sec := by
  unfold State.vectorOn; split <;> simp
@[simp] theorem State.vectorOn_console (s : State) (p : HostPort) (v : Nat) : (s.vectorOn p v).console = s.console := by
  unfold State.vectorOn; split <;> simp
@[simp] theorem State.vectorOn_freeIx (s : State) (p : HostPort) (v : Nat) : (s.vectorOn p v).freeIx = s.freeIx := by
  unfold State.vectorOn; split <;> simp
@[simp] theorem State.vectorOn_pending (s : State) (p : HostPort) (v : Nat) : (s.vectorOn p v).pending = s.pending := by
  unfold State.vectorOn; split <;> simp
@[simp] theorem State.vector_power (s : State) (v : Nat) : (s.vector v).power = s.power := by
  unfold State.vector; dsimp only; split <;> split <;> simp
@[simp] theorem State.vector_thermal (s : State) (v : Nat) : (s.vector v).thermal = s.thermal := by
  unfold State.vector; dsimp only; split <;> split <;> simp
@[simp] theorem State.vector_tel (s : State) (v : Nat) : (s.vector v).tel = s.tel := by
  unfold State.vector; dsimp only; split <;> split <;> simp
@[simp] theorem State.vector_faults (s : State) (v : Nat) : (s.vector v).faults = s.faults := by
  unfold State.vector; dsimp only; split <;> split <;> simp
@[simp] theorem State.vector_keeper (s : State) (v : Nat) : (s.vector v).keeper = s.keeper := by
  unfold State.vector; dsimp only; split <;> split <;> simp
@[simp] theorem State.vector_flash (s : State) (v : Nat) : (s.vector v).flash = s.flash := by
  unfold State.vector; dsimp only; split <;> split <;> simp
@[simp] theorem State.vector_compute (s : State) (v : Nat) : (s.vector v).compute = s.compute := by
  unfold State.vector; dsimp only; split <;> split <;> simp
@[simp] theorem State.vector_ops (s : State) (v : Nat) : (s.vector v).ops = s.ops := by
  unfold State.vector; dsimp only; split <;> split <;> simp
@[simp] theorem State.vector_mem (s : State) (v : Nat) : (s.vector v).mem = s.mem := by
  unfold State.vector; dsimp only; split <;> split <;> simp
@[simp] theorem State.vector_d2d (s : State) (v : Nat) : (s.vector v).d2d = s.d2d := by
  unfold State.vector; dsimp only; split <;> split <;> simp
@[simp] theorem State.vector_optics (s : State) (v : Nat) : (s.vector v).optics = s.optics := by
  unfold State.vector; dsimp only; split <;> split <;> simp
@[simp] theorem State.vector_domain (s : State) (v : Nat) : (s.vector v).domain = s.domain := by
  unfold State.vector; dsimp only; split <;> split <;> simp
@[simp] theorem State.vector_cal (s : State) (v : Nat) : (s.vector v).cal = s.cal := by
  unfold State.vector; dsimp only; split <;> split <;> simp
@[simp] theorem State.vector_sec (s : State) (v : Nat) : (s.vector v).sec = s.sec := by
  unfold State.vector; dsimp only; split <;> split <;> simp
@[simp] theorem State.vector_console (s : State) (v : Nat) : (s.vector v).console = s.console := by
  unfold State.vector; dsimp only; split <;> split <;> simp
@[simp] theorem State.vector_freeIx (s : State) (v : Nat) : (s.vector v).freeIx = s.freeIx := by
  unfold State.vector; dsimp only; split <;> split <;> simp
@[simp] theorem State.vector_pending (s : State) (v : Nat) : (s.vector v).pending = s.pending := by
  unfold State.vector; dsimp only; split <;> split <;> simp
@[simp] theorem State.vectorTo_power (s : State) (p : HostPort) (v : Nat) : (s.vectorTo p v).power = s.power := by
  simp [State.vectorTo]
@[simp] theorem State.vectorTo_thermal (s : State) (p : HostPort) (v : Nat) : (s.vectorTo p v).thermal = s.thermal := by
  simp [State.vectorTo]
@[simp] theorem State.vectorTo_tel (s : State) (p : HostPort) (v : Nat) : (s.vectorTo p v).tel = s.tel := by
  simp [State.vectorTo]
@[simp] theorem State.vectorTo_faults (s : State) (p : HostPort) (v : Nat) : (s.vectorTo p v).faults = s.faults := by
  simp [State.vectorTo]
@[simp] theorem State.vectorTo_keeper (s : State) (p : HostPort) (v : Nat) : (s.vectorTo p v).keeper = s.keeper := by
  simp [State.vectorTo]
@[simp] theorem State.vectorTo_flash (s : State) (p : HostPort) (v : Nat) : (s.vectorTo p v).flash = s.flash := by
  simp [State.vectorTo]
@[simp] theorem State.vectorTo_compute (s : State) (p : HostPort) (v : Nat) : (s.vectorTo p v).compute = s.compute := by
  simp [State.vectorTo]
@[simp] theorem State.vectorTo_ops (s : State) (p : HostPort) (v : Nat) : (s.vectorTo p v).ops = s.ops := by
  simp [State.vectorTo]
@[simp] theorem State.vectorTo_mem (s : State) (p : HostPort) (v : Nat) : (s.vectorTo p v).mem = s.mem := by
  simp [State.vectorTo]
@[simp] theorem State.vectorTo_d2d (s : State) (p : HostPort) (v : Nat) : (s.vectorTo p v).d2d = s.d2d := by
  simp [State.vectorTo]
@[simp] theorem State.vectorTo_optics (s : State) (p : HostPort) (v : Nat) : (s.vectorTo p v).optics = s.optics := by
  simp [State.vectorTo]
@[simp] theorem State.vectorTo_domain (s : State) (p : HostPort) (v : Nat) : (s.vectorTo p v).domain = s.domain := by
  simp [State.vectorTo]
@[simp] theorem State.vectorTo_cal (s : State) (p : HostPort) (v : Nat) : (s.vectorTo p v).cal = s.cal := by
  simp [State.vectorTo]
@[simp] theorem State.vectorTo_sec (s : State) (p : HostPort) (v : Nat) : (s.vectorTo p v).sec = s.sec := by
  simp [State.vectorTo]
@[simp] theorem State.vectorTo_console (s : State) (p : HostPort) (v : Nat) : (s.vectorTo p v).console = s.console := by
  simp [State.vectorTo]
@[simp] theorem State.vectorTo_freeIx (s : State) (p : HostPort) (v : Nat) : (s.vectorTo p v).freeIx = s.freeIx := by
  simp [State.vectorTo]
@[simp] theorem State.vectorTo_pending (s : State) (p : HostPort) (v : Nat) : (s.vectorTo p v).pending = s.pending := by
  simp [State.vectorTo]
@[simp] theorem State.writeLine_power (s : State) (h o : Nat) (b : List Byte) (e : Bool) : ((s.writeLine h o b e).1).power = s.power := by
  unfold State.writeLine; repeat' split
  all_goals first | rfl | simp
@[simp] theorem State.writeLine_thermal (s : State) (h o : Nat) (b : List Byte) (e : Bool) : ((s.writeLine h o b e).1).thermal = s.thermal := by
  unfold State.writeLine; repeat' split
  all_goals first | rfl | simp
@[simp] theorem State.writeLine_host (s : State) (h o : Nat) (b : List Byte) (e : Bool) : ((s.writeLine h o b e).1).host = s.host := by
  unfold State.writeLine; repeat' split
  all_goals first | rfl | simp
@[simp] theorem State.writeLine_tel (s : State) (h o : Nat) (b : List Byte) (e : Bool) : ((s.writeLine h o b e).1).tel = s.tel := by
  unfold State.writeLine; repeat' split
  all_goals first | rfl | simp
@[simp] theorem State.writeLine_faults (s : State) (h o : Nat) (b : List Byte) (e : Bool) : ((s.writeLine h o b e).1).faults = s.faults := by
  unfold State.writeLine; repeat' split
  all_goals first | rfl | simp
@[simp] theorem State.writeLine_keeper (s : State) (h o : Nat) (b : List Byte) (e : Bool) : ((s.writeLine h o b e).1).keeper = s.keeper := by
  unfold State.writeLine; repeat' split
  all_goals first | rfl | simp
@[simp] theorem State.writeLine_flash (s : State) (h o : Nat) (b : List Byte) (e : Bool) : ((s.writeLine h o b e).1).flash = s.flash := by
  unfold State.writeLine; repeat' split
  all_goals first | rfl | simp
@[simp] theorem State.writeLine_compute (s : State) (h o : Nat) (b : List Byte) (e : Bool) : ((s.writeLine h o b e).1).compute = s.compute := by
  unfold State.writeLine; repeat' split
  all_goals first | rfl | simp
@[simp] theorem State.writeLine_ops (s : State) (h o : Nat) (b : List Byte) (e : Bool) : ((s.writeLine h o b e).1).ops = s.ops := by
  unfold State.writeLine; repeat' split
  all_goals first | rfl | simp
@[simp] theorem State.writeLine_d2d (s : State) (h o : Nat) (b : List Byte) (e : Bool) : ((s.writeLine h o b e).1).d2d = s.d2d := by
  unfold State.writeLine; repeat' split
  all_goals first | rfl | simp
@[simp] theorem State.writeLine_optics (s : State) (h o : Nat) (b : List Byte) (e : Bool) : ((s.writeLine h o b e).1).optics = s.optics := by
  unfold State.writeLine; repeat' split
  all_goals first | rfl | simp
@[simp] theorem State.writeLine_domain (s : State) (h o : Nat) (b : List Byte) (e : Bool) : ((s.writeLine h o b e).1).domain = s.domain := by
  unfold State.writeLine; repeat' split
  all_goals first | rfl | simp
@[simp] theorem State.writeLine_cal (s : State) (h o : Nat) (b : List Byte) (e : Bool) : ((s.writeLine h o b e).1).cal = s.cal := by
  unfold State.writeLine; repeat' split
  all_goals first | rfl | simp
@[simp] theorem State.writeLine_sec (s : State) (h o : Nat) (b : List Byte) (e : Bool) : ((s.writeLine h o b e).1).sec = s.sec := by
  unfold State.writeLine; repeat' split
  all_goals first | rfl | simp
@[simp] theorem State.writeLine_console (s : State) (h o : Nat) (b : List Byte) (e : Bool) : ((s.writeLine h o b e).1).console = s.console := by
  unfold State.writeLine; repeat' split
  all_goals first | rfl | simp
@[simp] theorem State.writeLine_out (s : State) (h o : Nat) (b : List Byte) (e : Bool) : ((s.writeLine h o b e).1).out = s.out := by
  unfold State.writeLine; repeat' split
  all_goals first | rfl | simp
@[simp] theorem State.writeLine_freeIx (s : State) (h o : Nat) (b : List Byte) (e : Bool) : ((s.writeLine h o b e).1).freeIx = s.freeIx := by
  unfold State.writeLine; repeat' split
  all_goals first | rfl | simp
@[simp] theorem State.writeLine_pending (s : State) (h o : Nat) (b : List Byte) (e : Bool) : ((s.writeLine h o b e).1).pending = s.pending := by
  unfold State.writeLine; repeat' split
  all_goals first | rfl | simp
@[simp] theorem State.shelfStore_power (s : State) (d o : Nat) (b : List Byte) : (s.shelfStore d o b).power = s.power := by
  exact foldl_keeps (fun t : State => t.power) _ (fun t p => by simp) _ s
@[simp] theorem State.shelfStore_thermal (s : State) (d o : Nat) (b : List Byte) : (s.shelfStore d o b).thermal = s.thermal := by
  exact foldl_keeps (fun t : State => t.thermal) _ (fun t p => by simp) _ s
@[simp] theorem State.shelfStore_host (s : State) (d o : Nat) (b : List Byte) : (s.shelfStore d o b).host = s.host := by
  exact foldl_keeps (fun t : State => t.host) _ (fun t p => by simp) _ s
@[simp] theorem State.shelfStore_tel (s : State) (d o : Nat) (b : List Byte) : (s.shelfStore d o b).tel = s.tel := by
  exact foldl_keeps (fun t : State => t.tel) _ (fun t p => by simp) _ s
@[simp] theorem State.shelfStore_faults (s : State) (d o : Nat) (b : List Byte) : (s.shelfStore d o b).faults = s.faults := by
  exact foldl_keeps (fun t : State => t.faults) _ (fun t p => by simp) _ s
@[simp] theorem State.shelfStore_keeper (s : State) (d o : Nat) (b : List Byte) : (s.shelfStore d o b).keeper = s.keeper := by
  exact foldl_keeps (fun t : State => t.keeper) _ (fun t p => by simp) _ s
@[simp] theorem State.shelfStore_flash (s : State) (d o : Nat) (b : List Byte) : (s.shelfStore d o b).flash = s.flash := by
  exact foldl_keeps (fun t : State => t.flash) _ (fun t p => by simp) _ s
@[simp] theorem State.shelfStore_compute (s : State) (d o : Nat) (b : List Byte) : (s.shelfStore d o b).compute = s.compute := by
  exact foldl_keeps (fun t : State => t.compute) _ (fun t p => by simp) _ s
@[simp] theorem State.shelfStore_ops (s : State) (d o : Nat) (b : List Byte) : (s.shelfStore d o b).ops = s.ops := by
  exact foldl_keeps (fun t : State => t.ops) _ (fun t p => by simp) _ s
@[simp] theorem State.shelfStore_d2d (s : State) (d o : Nat) (b : List Byte) : (s.shelfStore d o b).d2d = s.d2d := by
  exact foldl_keeps (fun t : State => t.d2d) _ (fun t p => by simp) _ s
@[simp] theorem State.shelfStore_optics (s : State) (d o : Nat) (b : List Byte) : (s.shelfStore d o b).optics = s.optics := by
  exact foldl_keeps (fun t : State => t.optics) _ (fun t p => by simp) _ s
@[simp] theorem State.shelfStore_domain (s : State) (d o : Nat) (b : List Byte) : (s.shelfStore d o b).domain = s.domain := by
  exact foldl_keeps (fun t : State => t.domain) _ (fun t p => by simp) _ s
@[simp] theorem State.shelfStore_cal (s : State) (d o : Nat) (b : List Byte) : (s.shelfStore d o b).cal = s.cal := by
  exact foldl_keeps (fun t : State => t.cal) _ (fun t p => by simp) _ s
@[simp] theorem State.shelfStore_sec (s : State) (d o : Nat) (b : List Byte) : (s.shelfStore d o b).sec = s.sec := by
  exact foldl_keeps (fun t : State => t.sec) _ (fun t p => by simp) _ s
@[simp] theorem State.shelfStore_console (s : State) (d o : Nat) (b : List Byte) : (s.shelfStore d o b).console = s.console := by
  exact foldl_keeps (fun t : State => t.console) _ (fun t p => by simp) _ s
@[simp] theorem State.shelfStore_out (s : State) (d o : Nat) (b : List Byte) : (s.shelfStore d o b).out = s.out := by
  exact foldl_keeps (fun t : State => t.out) _ (fun t p => by simp) _ s
@[simp] theorem State.shelfStore_freeIx (s : State) (d o : Nat) (b : List Byte) : (s.shelfStore d o b).freeIx = s.freeIx := by
  exact foldl_keeps (fun t : State => t.freeIx) _ (fun t p => by simp) _ s
@[simp] theorem State.shelfStore_pending (s : State) (d o : Nat) (b : List Byte) : (s.shelfStore d o b).pending = s.pending := by
  exact foldl_keeps (fun t : State => t.pending) _ (fun t p => by simp) _ s
@[simp] theorem State.ringRecord_power (s : State) (b : List Byte) : ((s.ringRecord b).1).power = s.power := by
  unfold State.ringRecord; dsimp only; repeat' split
  all_goals first | rfl | simp
@[simp] theorem State.ringRecord_thermal (s : State) (b : List Byte) : ((s.ringRecord b).1).thermal = s.thermal := by
  unfold State.ringRecord; dsimp only; repeat' split
  all_goals first | rfl | simp
@[simp] theorem State.ringRecord_host (s : State) (b : List Byte) : ((s.ringRecord b).1).host = s.host := by
  unfold State.ringRecord; dsimp only; repeat' split
  all_goals first | rfl | simp
@[simp] theorem State.ringRecord_tel (s : State) (b : List Byte) : ((s.ringRecord b).1).tel = s.tel := by
  unfold State.ringRecord; dsimp only; repeat' split
  all_goals first | rfl | simp
@[simp] theorem State.ringRecord_faults (s : State) (b : List Byte) : ((s.ringRecord b).1).faults = s.faults := by
  unfold State.ringRecord; dsimp only; repeat' split
  all_goals first | rfl | simp
@[simp] theorem State.ringRecord_flash (s : State) (b : List Byte) : ((s.ringRecord b).1).flash = s.flash := by
  unfold State.ringRecord; dsimp only; repeat' split
  all_goals first | rfl | simp
@[simp] theorem State.ringRecord_compute (s : State) (b : List Byte) : ((s.ringRecord b).1).compute = s.compute := by
  unfold State.ringRecord; dsimp only; repeat' split
  all_goals first | rfl | simp
@[simp] theorem State.ringRecord_ops (s : State) (b : List Byte) : ((s.ringRecord b).1).ops = s.ops := by
  unfold State.ringRecord; dsimp only; repeat' split
  all_goals first | rfl | simp
@[simp] theorem State.ringRecord_d2d (s : State) (b : List Byte) : ((s.ringRecord b).1).d2d = s.d2d := by
  unfold State.ringRecord; dsimp only; repeat' split
  all_goals first | rfl | simp
@[simp] theorem State.ringRecord_optics (s : State) (b : List Byte) : ((s.ringRecord b).1).optics = s.optics := by
  unfold State.ringRecord; dsimp only; repeat' split
  all_goals first | rfl | simp
@[simp] theorem State.ringRecord_domain (s : State) (b : List Byte) : ((s.ringRecord b).1).domain = s.domain := by
  unfold State.ringRecord; dsimp only; repeat' split
  all_goals first | rfl | simp
@[simp] theorem State.ringRecord_cal (s : State) (b : List Byte) : ((s.ringRecord b).1).cal = s.cal := by
  unfold State.ringRecord; dsimp only; repeat' split
  all_goals first | rfl | simp
@[simp] theorem State.ringRecord_sec (s : State) (b : List Byte) : ((s.ringRecord b).1).sec = s.sec := by
  unfold State.ringRecord; dsimp only; repeat' split
  all_goals first | rfl | simp
@[simp] theorem State.ringRecord_console (s : State) (b : List Byte) : ((s.ringRecord b).1).console = s.console := by
  unfold State.ringRecord; dsimp only; repeat' split
  all_goals first | rfl | simp
@[simp] theorem State.ringRecord_out (s : State) (b : List Byte) : ((s.ringRecord b).1).out = s.out := by
  unfold State.ringRecord; dsimp only; repeat' split
  all_goals first | rfl | simp
@[simp] theorem State.ringRecord_freeIx (s : State) (b : List Byte) : ((s.ringRecord b).1).freeIx = s.freeIx := by
  unfold State.ringRecord; dsimp only; repeat' split
  all_goals first | rfl | simp
@[simp] theorem State.ringRecord_pending (s : State) (b : List Byte) : ((s.ringRecord b).1).pending = s.pending := by
  unfold State.ringRecord; dsimp only; repeat' split
  all_goals first | rfl | simp
@[simp] theorem State.event_power (s : State) (c : EventCode) (i : Nat) (p : List Byte) : (s.event c i p).power = s.power := by
  unfold State.event; dsimp only; repeat' split
  all_goals first | rfl | simp
@[simp] theorem State.event_thermal (s : State) (c : EventCode) (i : Nat) (p : List Byte) : (s.event c i p).thermal = s.thermal := by
  unfold State.event; dsimp only; repeat' split
  all_goals first | rfl | simp
@[simp] theorem State.event_faults (s : State) (c : EventCode) (i : Nat) (p : List Byte) : (s.event c i p).faults = s.faults := by
  unfold State.event; dsimp only; repeat' split
  all_goals first | rfl | simp
@[simp] theorem State.event_flash (s : State) (c : EventCode) (i : Nat) (p : List Byte) : (s.event c i p).flash = s.flash := by
  unfold State.event; dsimp only; repeat' split
  all_goals first | rfl | simp
@[simp] theorem State.event_compute (s : State) (c : EventCode) (i : Nat) (p : List Byte) : (s.event c i p).compute = s.compute := by
  unfold State.event; dsimp only; repeat' split
  all_goals first | rfl | simp
@[simp] theorem State.event_ops (s : State) (c : EventCode) (i : Nat) (p : List Byte) : (s.event c i p).ops = s.ops := by
  unfold State.event; dsimp only; repeat' split
  all_goals first | rfl | simp
@[simp] theorem State.event_d2d (s : State) (c : EventCode) (i : Nat) (p : List Byte) : (s.event c i p).d2d = s.d2d := by
  unfold State.event; dsimp only; repeat' split
  all_goals first | rfl | simp
@[simp] theorem State.event_optics (s : State) (c : EventCode) (i : Nat) (p : List Byte) : (s.event c i p).optics = s.optics := by
  unfold State.event; dsimp only; repeat' split
  all_goals first | rfl | simp
@[simp] theorem State.event_domain (s : State) (c : EventCode) (i : Nat) (p : List Byte) : (s.event c i p).domain = s.domain := by
  unfold State.event; dsimp only; repeat' split
  all_goals first | rfl | simp
@[simp] theorem State.event_cal (s : State) (c : EventCode) (i : Nat) (p : List Byte) : (s.event c i p).cal = s.cal := by
  unfold State.event; dsimp only; repeat' split
  all_goals first | rfl | simp
@[simp] theorem State.event_sec (s : State) (c : EventCode) (i : Nat) (p : List Byte) : (s.event c i p).sec = s.sec := by
  unfold State.event; dsimp only; repeat' split
  all_goals first | rfl | simp
@[simp] theorem State.event_console (s : State) (c : EventCode) (i : Nat) (p : List Byte) : (s.event c i p).console = s.console := by
  unfold State.event; dsimp only; repeat' split
  all_goals first | rfl | simp
@[simp] theorem State.event_freeIx (s : State) (c : EventCode) (i : Nat) (p : List Byte) : (s.event c i p).freeIx = s.freeIx := by
  unfold State.event; dsimp only; repeat' split
  all_goals first | rfl | simp
@[simp] theorem State.event_pending (s : State) (c : EventCode) (i : Nat) (p : List Byte) : (s.event c i p).pending = s.pending := by
  unfold State.event; dsimp only; repeat' split
  all_goals first | rfl | simp
@[simp] theorem State.logEvent_power (s : State) (t : String) : (s.logEvent t).power = s.power := by
  simp [State.logEvent]
@[simp] theorem State.logEvent_thermal (s : State) (t : String) : (s.logEvent t).thermal = s.thermal := by
  simp [State.logEvent]
@[simp] theorem State.logEvent_faults (s : State) (t : String) : (s.logEvent t).faults = s.faults := by
  simp [State.logEvent]
@[simp] theorem State.logEvent_flash (s : State) (t : String) : (s.logEvent t).flash = s.flash := by
  simp [State.logEvent]
@[simp] theorem State.logEvent_compute (s : State) (t : String) : (s.logEvent t).compute = s.compute := by
  simp [State.logEvent]
@[simp] theorem State.logEvent_ops (s : State) (t : String) : (s.logEvent t).ops = s.ops := by
  simp [State.logEvent]
@[simp] theorem State.logEvent_d2d (s : State) (t : String) : (s.logEvent t).d2d = s.d2d := by
  simp [State.logEvent]
@[simp] theorem State.logEvent_optics (s : State) (t : String) : (s.logEvent t).optics = s.optics := by
  simp [State.logEvent]
@[simp] theorem State.logEvent_domain (s : State) (t : String) : (s.logEvent t).domain = s.domain := by
  simp [State.logEvent]
@[simp] theorem State.logEvent_cal (s : State) (t : String) : (s.logEvent t).cal = s.cal := by
  simp [State.logEvent]
@[simp] theorem State.logEvent_sec (s : State) (t : String) : (s.logEvent t).sec = s.sec := by
  simp [State.logEvent]
@[simp] theorem State.logEvent_console (s : State) (t : String) : (s.logEvent t).console = s.console := by
  simp [State.logEvent]
@[simp] theorem State.logEvent_freeIx (s : State) (t : String) : (s.logEvent t).freeIx = s.freeIx := by
  simp [State.logEvent]
@[simp] theorem State.logEvent_pending (s : State) (t : String) : (s.logEvent t).pending = s.pending := by
  simp [State.logEvent]
@[simp] theorem State.notice_power (s : State) (n : Notice) : (s.notice n).power = s.power := by
  rfl
@[simp] theorem State.notice_thermal (s : State) (n : Notice) : (s.notice n).thermal = s.thermal := by
  rfl
@[simp] theorem State.notice_host (s : State) (n : Notice) : (s.notice n).host = s.host := by
  rfl
@[simp] theorem State.notice_tel (s : State) (n : Notice) : (s.notice n).tel = s.tel := by
  rfl
@[simp] theorem State.notice_faults (s : State) (n : Notice) : (s.notice n).faults = s.faults := by
  rfl
@[simp] theorem State.notice_keeper (s : State) (n : Notice) : (s.notice n).keeper = s.keeper := by
  rfl
@[simp] theorem State.notice_flash (s : State) (n : Notice) : (s.notice n).flash = s.flash := by
  rfl
@[simp] theorem State.notice_compute (s : State) (n : Notice) : (s.notice n).compute = s.compute := by
  rfl
@[simp] theorem State.notice_ops (s : State) (n : Notice) : (s.notice n).ops = s.ops := by
  rfl
@[simp] theorem State.notice_mem (s : State) (n : Notice) : (s.notice n).mem = s.mem := by
  rfl
@[simp] theorem State.notice_d2d (s : State) (n : Notice) : (s.notice n).d2d = s.d2d := by
  rfl
@[simp] theorem State.notice_optics (s : State) (n : Notice) : (s.notice n).optics = s.optics := by
  rfl
@[simp] theorem State.notice_domain (s : State) (n : Notice) : (s.notice n).domain = s.domain := by
  rfl
@[simp] theorem State.notice_cal (s : State) (n : Notice) : (s.notice n).cal = s.cal := by
  rfl
@[simp] theorem State.notice_sec (s : State) (n : Notice) : (s.notice n).sec = s.sec := by
  rfl
@[simp] theorem State.notice_console (s : State) (n : Notice) : (s.notice n).console = s.console := by
  rfl
@[simp] theorem State.notice_freeIx (s : State) (n : Notice) : (s.notice n).freeIx = s.freeIx := by
  rfl
@[simp] theorem State.notice_pending (s : State) (n : Notice) : (s.notice n).pending = s.pending := by
  rfl
@[simp] theorem State.setModState_power (s : State) (m : ModState) : (s.setModState m).power = s.power := by
  unfold State.setModState; dsimp only; repeat' split
  all_goals first | rfl | simp
@[simp] theorem State.setModState_thermal (s : State) (m : ModState) : (s.setModState m).thermal = s.thermal := by
  unfold State.setModState; dsimp only; repeat' split
  all_goals first | rfl | simp
@[simp] theorem State.setModState_faults (s : State) (m : ModState) : (s.setModState m).faults = s.faults := by
  unfold State.setModState; dsimp only; repeat' split
  all_goals first | rfl | simp
@[simp] theorem State.setModState_flash (s : State) (m : ModState) : (s.setModState m).flash = s.flash := by
  unfold State.setModState; dsimp only; repeat' split
  all_goals first | rfl | simp
@[simp] theorem State.setModState_compute (s : State) (m : ModState) : (s.setModState m).compute = s.compute := by
  unfold State.setModState; dsimp only; repeat' split
  all_goals first | rfl | simp
@[simp] theorem State.setModState_ops (s : State) (m : ModState) : (s.setModState m).ops = s.ops := by
  unfold State.setModState; dsimp only; repeat' split
  all_goals first | rfl | simp
@[simp] theorem State.setModState_d2d (s : State) (m : ModState) : (s.setModState m).d2d = s.d2d := by
  unfold State.setModState; dsimp only; repeat' split
  all_goals first | rfl | simp
@[simp] theorem State.setModState_optics (s : State) (m : ModState) : (s.setModState m).optics = s.optics := by
  unfold State.setModState; dsimp only; repeat' split
  all_goals first | rfl | simp
@[simp] theorem State.setModState_domain (s : State) (m : ModState) : (s.setModState m).domain = s.domain := by
  unfold State.setModState; dsimp only; repeat' split
  all_goals first | rfl | simp
@[simp] theorem State.setModState_cal (s : State) (m : ModState) : (s.setModState m).cal = s.cal := by
  unfold State.setModState; dsimp only; repeat' split
  all_goals first | rfl | simp
@[simp] theorem State.setModState_sec (s : State) (m : ModState) : (s.setModState m).sec = s.sec := by
  unfold State.setModState; dsimp only; repeat' split
  all_goals first | rfl | simp
@[simp] theorem State.setModState_console (s : State) (m : ModState) : (s.setModState m).console = s.console := by
  unfold State.setModState; dsimp only; repeat' split
  all_goals first | rfl | simp
@[simp] theorem State.setModState_freeIx (s : State) (m : ModState) : (s.setModState m).freeIx = s.freeIx := by
  unfold State.setModState; dsimp only; repeat' split
  all_goals first | rfl | simp
@[simp] theorem State.setModState_pending (s : State) (m : ModState) : (s.setModState m).pending = s.pending := by
  unfold State.setModState; dsimp only; repeat' split
  all_goals first | rfl | simp
@[simp] theorem State.setStage_power (s : State) (n : Nat) : (s.setStage n).power = s.power := by
  unfold State.setStage; split <;> simp
@[simp] theorem State.setStage_thermal (s : State) (n : Nat) : (s.setStage n).thermal = s.thermal := by
  unfold State.setStage; split <;> simp
@[simp] theorem State.setStage_host (s : State) (n : Nat) : (s.setStage n).host = s.host := by
  unfold State.setStage; split <;> simp
@[simp] theorem State.setStage_tel (s : State) (n : Nat) : (s.setStage n).tel = s.tel := by
  unfold State.setStage; split <;> simp
@[simp] theorem State.setStage_faults (s : State) (n : Nat) : (s.setStage n).faults = s.faults := by
  unfold State.setStage; split <;> simp
@[simp] theorem State.setStage_flash (s : State) (n : Nat) : (s.setStage n).flash = s.flash := by
  unfold State.setStage; split <;> simp
@[simp] theorem State.setStage_compute (s : State) (n : Nat) : (s.setStage n).compute = s.compute := by
  unfold State.setStage; split <;> simp
@[simp] theorem State.setStage_ops (s : State) (n : Nat) : (s.setStage n).ops = s.ops := by
  unfold State.setStage; split <;> simp
@[simp] theorem State.setStage_mem (s : State) (n : Nat) : (s.setStage n).mem = s.mem := by
  unfold State.setStage; split <;> simp
@[simp] theorem State.setStage_d2d (s : State) (n : Nat) : (s.setStage n).d2d = s.d2d := by
  unfold State.setStage; split <;> simp
@[simp] theorem State.setStage_optics (s : State) (n : Nat) : (s.setStage n).optics = s.optics := by
  unfold State.setStage; split <;> simp
@[simp] theorem State.setStage_domain (s : State) (n : Nat) : (s.setStage n).domain = s.domain := by
  unfold State.setStage; split <;> simp
@[simp] theorem State.setStage_cal (s : State) (n : Nat) : (s.setStage n).cal = s.cal := by
  unfold State.setStage; split <;> simp
@[simp] theorem State.setStage_sec (s : State) (n : Nat) : (s.setStage n).sec = s.sec := by
  unfold State.setStage; split <;> simp
@[simp] theorem State.setStage_console (s : State) (n : Nat) : (s.setStage n).console = s.console := by
  unfold State.setStage; split <;> simp
@[simp] theorem State.setStage_out (s : State) (n : Nat) : (s.setStage n).out = s.out := by
  unfold State.setStage; split <;> simp
@[simp] theorem State.setStage_freeIx (s : State) (n : Nat) : (s.setStage n).freeIx = s.freeIx := by
  unfold State.setStage; split <;> simp
@[simp] theorem State.setStage_pending (s : State) (n : Nat) : (s.setStage n).pending = s.pending := by
  unfold State.setStage; split <;> simp
@[simp] theorem State.beginReset_power (s : State) (c : ResetCause) : (s.beginReset c).power = s.power := by
  unfold State.beginReset; dsimp only; repeat' split
  all_goals first | rfl | simp
@[simp] theorem State.beginReset_thermal (s : State) (c : ResetCause) : (s.beginReset c).thermal = s.thermal := by
  unfold State.beginReset; dsimp only; repeat' split
  all_goals first | rfl | simp
@[simp] theorem State.beginReset_flash (s : State) (c : ResetCause) : (s.beginReset c).flash = s.flash := by
  unfold State.beginReset; dsimp only; repeat' split
  all_goals first | rfl | simp
@[simp] theorem State.beginReset_d2d (s : State) (c : ResetCause) : (s.beginReset c).d2d = s.d2d := by
  unfold State.beginReset; dsimp only; repeat' split
  all_goals first | rfl | simp
@[simp] theorem State.beginReset_domain (s : State) (c : ResetCause) : (s.beginReset c).domain = s.domain := by
  unfold State.beginReset; dsimp only; repeat' split
  all_goals first | rfl | simp
@[simp] theorem State.beginReset_cal (s : State) (c : ResetCause) : (s.beginReset c).cal = s.cal := by
  unfold State.beginReset; dsimp only; repeat' split
  all_goals first | rfl | simp
@[simp] theorem State.beginReset_sec (s : State) (c : ResetCause) : (s.beginReset c).sec = s.sec := by
  unfold State.beginReset; dsimp only; repeat' split
  all_goals first | rfl | simp
@[simp] theorem State.beginReset_console (s : State) (c : ResetCause) : (s.beginReset c).console = s.console := by
  unfold State.beginReset; dsimp only; repeat' split
  all_goals first | rfl | simp
@[simp] theorem State.beginReset_freeIx (s : State) (c : ResetCause) : (s.beginReset c).freeIx = s.freeIx := by
  unfold State.beginReset; dsimp only; repeat' split
  all_goals first | rfl | simp
@[simp] theorem State.beginReset_pending (s : State) (c : ResetCause) : (s.beginReset c).pending = s.pending := by
  unfold State.beginReset; dsimp only; repeat' split
  all_goals first | rfl | simp
@[simp] theorem State.pulseFaultN_power (s : State) (b : Bool) : (s.pulseFaultN b).power = s.power := by
  unfold State.pulseFaultN; dsimp only; repeat' split
  all_goals first | rfl | simp
@[simp] theorem State.pulseFaultN_thermal (s : State) (b : Bool) : (s.pulseFaultN b).thermal = s.thermal := by
  unfold State.pulseFaultN; dsimp only; repeat' split
  all_goals first | rfl | simp
@[simp] theorem State.pulseFaultN_host (s : State) (b : Bool) : (s.pulseFaultN b).host = s.host := by
  unfold State.pulseFaultN; dsimp only; repeat' split
  all_goals first | rfl | simp
@[simp] theorem State.pulseFaultN_tel (s : State) (b : Bool) : (s.pulseFaultN b).tel = s.tel := by
  unfold State.pulseFaultN; dsimp only; repeat' split
  all_goals first | rfl | simp
@[simp] theorem State.pulseFaultN_keeper (s : State) (b : Bool) : (s.pulseFaultN b).keeper = s.keeper := by
  unfold State.pulseFaultN; dsimp only; repeat' split
  all_goals first | rfl | simp
@[simp] theorem State.pulseFaultN_flash (s : State) (b : Bool) : (s.pulseFaultN b).flash = s.flash := by
  unfold State.pulseFaultN; dsimp only; repeat' split
  all_goals first | rfl | simp
@[simp] theorem State.pulseFaultN_compute (s : State) (b : Bool) : (s.pulseFaultN b).compute = s.compute := by
  unfold State.pulseFaultN; dsimp only; repeat' split
  all_goals first | rfl | simp
@[simp] theorem State.pulseFaultN_ops (s : State) (b : Bool) : (s.pulseFaultN b).ops = s.ops := by
  unfold State.pulseFaultN; dsimp only; repeat' split
  all_goals first | rfl | simp
@[simp] theorem State.pulseFaultN_mem (s : State) (b : Bool) : (s.pulseFaultN b).mem = s.mem := by
  unfold State.pulseFaultN; dsimp only; repeat' split
  all_goals first | rfl | simp
@[simp] theorem State.pulseFaultN_d2d (s : State) (b : Bool) : (s.pulseFaultN b).d2d = s.d2d := by
  unfold State.pulseFaultN; dsimp only; repeat' split
  all_goals first | rfl | simp
@[simp] theorem State.pulseFaultN_optics (s : State) (b : Bool) : (s.pulseFaultN b).optics = s.optics := by
  unfold State.pulseFaultN; dsimp only; repeat' split
  all_goals first | rfl | simp
@[simp] theorem State.pulseFaultN_domain (s : State) (b : Bool) : (s.pulseFaultN b).domain = s.domain := by
  unfold State.pulseFaultN; dsimp only; repeat' split
  all_goals first | rfl | simp
@[simp] theorem State.pulseFaultN_cal (s : State) (b : Bool) : (s.pulseFaultN b).cal = s.cal := by
  unfold State.pulseFaultN; dsimp only; repeat' split
  all_goals first | rfl | simp
@[simp] theorem State.pulseFaultN_sec (s : State) (b : Bool) : (s.pulseFaultN b).sec = s.sec := by
  unfold State.pulseFaultN; dsimp only; repeat' split
  all_goals first | rfl | simp
@[simp] theorem State.pulseFaultN_console (s : State) (b : Bool) : (s.pulseFaultN b).console = s.console := by
  unfold State.pulseFaultN; dsimp only; repeat' split
  all_goals first | rfl | simp
@[simp] theorem State.pulseFaultN_freeIx (s : State) (b : Bool) : (s.pulseFaultN b).freeIx = s.freeIx := by
  unfold State.pulseFaultN; dsimp only; repeat' split
  all_goals first | rfl | simp
@[simp] theorem State.pulseFaultN_pending (s : State) (b : Bool) : (s.pulseFaultN b).pending = s.pending := by
  unfold State.pulseFaultN; dsimp only; repeat' split
  all_goals first | rfl | simp
@[simp] theorem State.logWrite_power (s : State) (r : FaultRecord) : (s.logWrite r).power = s.power := by
  unfold State.logWrite; repeat' split
  all_goals first | rfl | simp
@[simp] theorem State.logWrite_thermal (s : State) (r : FaultRecord) : (s.logWrite r).thermal = s.thermal := by
  unfold State.logWrite; repeat' split
  all_goals first | rfl | simp
@[simp] theorem State.logWrite_host (s : State) (r : FaultRecord) : (s.logWrite r).host = s.host := by
  unfold State.logWrite; repeat' split
  all_goals first | rfl | simp
@[simp] theorem State.logWrite_tel (s : State) (r : FaultRecord) : (s.logWrite r).tel = s.tel := by
  unfold State.logWrite; repeat' split
  all_goals first | rfl | simp
@[simp] theorem State.logWrite_faults (s : State) (r : FaultRecord) : (s.logWrite r).faults = s.faults := by
  unfold State.logWrite; repeat' split
  all_goals first | rfl | simp
@[simp] theorem State.logWrite_keeper (s : State) (r : FaultRecord) : (s.logWrite r).keeper = s.keeper := by
  unfold State.logWrite; repeat' split
  all_goals first | rfl | simp
@[simp] theorem State.logWrite_flash (s : State) (r : FaultRecord) : (s.logWrite r).flash = s.flash := by
  unfold State.logWrite; repeat' split
  all_goals first | rfl | simp
@[simp] theorem State.logWrite_compute (s : State) (r : FaultRecord) : (s.logWrite r).compute = s.compute := by
  unfold State.logWrite; repeat' split
  all_goals first | rfl | simp
@[simp] theorem State.logWrite_ops (s : State) (r : FaultRecord) : (s.logWrite r).ops = s.ops := by
  unfold State.logWrite; repeat' split
  all_goals first | rfl | simp
@[simp] theorem State.logWrite_d2d (s : State) (r : FaultRecord) : (s.logWrite r).d2d = s.d2d := by
  unfold State.logWrite; repeat' split
  all_goals first | rfl | simp
@[simp] theorem State.logWrite_optics (s : State) (r : FaultRecord) : (s.logWrite r).optics = s.optics := by
  unfold State.logWrite; repeat' split
  all_goals first | rfl | simp
@[simp] theorem State.logWrite_domain (s : State) (r : FaultRecord) : (s.logWrite r).domain = s.domain := by
  unfold State.logWrite; repeat' split
  all_goals first | rfl | simp
@[simp] theorem State.logWrite_cal (s : State) (r : FaultRecord) : (s.logWrite r).cal = s.cal := by
  unfold State.logWrite; repeat' split
  all_goals first | rfl | simp
@[simp] theorem State.logWrite_sec (s : State) (r : FaultRecord) : (s.logWrite r).sec = s.sec := by
  unfold State.logWrite; repeat' split
  all_goals first | rfl | simp
@[simp] theorem State.logWrite_console (s : State) (r : FaultRecord) : (s.logWrite r).console = s.console := by
  unfold State.logWrite; repeat' split
  all_goals first | rfl | simp
@[simp] theorem State.logWrite_out (s : State) (r : FaultRecord) : (s.logWrite r).out = s.out := by
  unfold State.logWrite; repeat' split
  all_goals first | rfl | simp
@[simp] theorem State.logWrite_freeIx (s : State) (r : FaultRecord) : (s.logWrite r).freeIx = s.freeIx := by
  unfold State.logWrite; repeat' split
  all_goals first | rfl | simp
@[simp] theorem State.logWrite_pending (s : State) (r : FaultRecord) : (s.logWrite r).pending = s.pending := by
  unfold State.logWrite; repeat' split
  all_goals first | rfl | simp
@[simp] theorem State.logAppend_power (s : State) (r : FaultRecord) : (s.logAppend r).power = s.power := by
  simp [State.logAppend]
@[simp] theorem State.logAppend_thermal (s : State) (r : FaultRecord) : (s.logAppend r).thermal = s.thermal := by
  simp [State.logAppend]
@[simp] theorem State.logAppend_host (s : State) (r : FaultRecord) : (s.logAppend r).host = s.host := by
  simp [State.logAppend]
@[simp] theorem State.logAppend_tel (s : State) (r : FaultRecord) : (s.logAppend r).tel = s.tel := by
  simp [State.logAppend]
@[simp] theorem State.logAppend_keeper (s : State) (r : FaultRecord) : (s.logAppend r).keeper = s.keeper := by
  simp [State.logAppend]
@[simp] theorem State.logAppend_flash (s : State) (r : FaultRecord) : (s.logAppend r).flash = s.flash := by
  simp [State.logAppend]
@[simp] theorem State.logAppend_compute (s : State) (r : FaultRecord) : (s.logAppend r).compute = s.compute := by
  simp [State.logAppend]
@[simp] theorem State.logAppend_ops (s : State) (r : FaultRecord) : (s.logAppend r).ops = s.ops := by
  simp [State.logAppend]
@[simp] theorem State.logAppend_d2d (s : State) (r : FaultRecord) : (s.logAppend r).d2d = s.d2d := by
  simp [State.logAppend]
@[simp] theorem State.logAppend_optics (s : State) (r : FaultRecord) : (s.logAppend r).optics = s.optics := by
  simp [State.logAppend]
@[simp] theorem State.logAppend_domain (s : State) (r : FaultRecord) : (s.logAppend r).domain = s.domain := by
  simp [State.logAppend]
@[simp] theorem State.logAppend_cal (s : State) (r : FaultRecord) : (s.logAppend r).cal = s.cal := by
  simp [State.logAppend]
@[simp] theorem State.logAppend_sec (s : State) (r : FaultRecord) : (s.logAppend r).sec = s.sec := by
  simp [State.logAppend]
@[simp] theorem State.logAppend_console (s : State) (r : FaultRecord) : (s.logAppend r).console = s.console := by
  simp [State.logAppend]
@[simp] theorem State.logAppend_out (s : State) (r : FaultRecord) : (s.logAppend r).out = s.out := by
  simp [State.logAppend]
@[simp] theorem State.logAppend_freeIx (s : State) (r : FaultRecord) : (s.logAppend r).freeIx = s.freeIx := by
  simp [State.logAppend]
@[simp] theorem State.logAppend_pending (s : State) (r : FaultRecord) : (s.logAppend r).pending = s.pending := by
  simp [State.logAppend]
@[simp] theorem State.reachedUncorrected_power (s : State) (c : FaultClass) (q : Bool) : (s.reachedUncorrected c q).power = s.power := by
  unfold State.reachedUncorrected; dsimp only; split <;> simp
@[simp] theorem State.reachedUncorrected_thermal (s : State) (c : FaultClass) (q : Bool) : (s.reachedUncorrected c q).thermal = s.thermal := by
  unfold State.reachedUncorrected; dsimp only; split <;> simp
@[simp] theorem State.reachedUncorrected_tel (s : State) (c : FaultClass) (q : Bool) : (s.reachedUncorrected c q).tel = s.tel := by
  unfold State.reachedUncorrected; dsimp only; split <;> simp
@[simp] theorem State.reachedUncorrected_flash (s : State) (c : FaultClass) (q : Bool) : (s.reachedUncorrected c q).flash = s.flash := by
  unfold State.reachedUncorrected; dsimp only; split <;> simp
@[simp] theorem State.reachedUncorrected_compute (s : State) (c : FaultClass) (q : Bool) : (s.reachedUncorrected c q).compute = s.compute := by
  unfold State.reachedUncorrected; dsimp only; split <;> simp
@[simp] theorem State.reachedUncorrected_ops (s : State) (c : FaultClass) (q : Bool) : (s.reachedUncorrected c q).ops = s.ops := by
  unfold State.reachedUncorrected; dsimp only; split <;> simp
@[simp] theorem State.reachedUncorrected_mem (s : State) (c : FaultClass) (q : Bool) : (s.reachedUncorrected c q).mem = s.mem := by
  unfold State.reachedUncorrected; dsimp only; split <;> simp
@[simp] theorem State.reachedUncorrected_d2d (s : State) (c : FaultClass) (q : Bool) : (s.reachedUncorrected c q).d2d = s.d2d := by
  unfold State.reachedUncorrected; dsimp only; split <;> simp
@[simp] theorem State.reachedUncorrected_optics (s : State) (c : FaultClass) (q : Bool) : (s.reachedUncorrected c q).optics = s.optics := by
  unfold State.reachedUncorrected; dsimp only; split <;> simp
@[simp] theorem State.reachedUncorrected_domain (s : State) (c : FaultClass) (q : Bool) : (s.reachedUncorrected c q).domain = s.domain := by
  unfold State.reachedUncorrected; dsimp only; split <;> simp
@[simp] theorem State.reachedUncorrected_cal (s : State) (c : FaultClass) (q : Bool) : (s.reachedUncorrected c q).cal = s.cal := by
  unfold State.reachedUncorrected; dsimp only; split <;> simp
@[simp] theorem State.reachedUncorrected_sec (s : State) (c : FaultClass) (q : Bool) : (s.reachedUncorrected c q).sec = s.sec := by
  unfold State.reachedUncorrected; dsimp only; split <;> simp
@[simp] theorem State.reachedUncorrected_console (s : State) (c : FaultClass) (q : Bool) : (s.reachedUncorrected c q).console = s.console := by
  unfold State.reachedUncorrected; dsimp only; split <;> simp
@[simp] theorem State.reachedUncorrected_freeIx (s : State) (c : FaultClass) (q : Bool) : (s.reachedUncorrected c q).freeIx = s.freeIx := by
  unfold State.reachedUncorrected; dsimp only; split <;> simp
@[simp] theorem State.reachedUncorrected_pending (s : State) (c : FaultClass) (q : Bool) : (s.reachedUncorrected c q).pending = s.pending := by
  unfold State.reachedUncorrected; dsimp only; split <;> simp
@[simp] theorem State.takeFatal_power (s : State) (r : FaultRecord) : (s.takeFatal r).power = s.power := by
  simp [State.takeFatal]
@[simp] theorem State.takeFatal_thermal (s : State) (r : FaultRecord) : (s.takeFatal r).thermal = s.thermal := by
  simp [State.takeFatal]
@[simp] theorem State.takeFatal_flash (s : State) (r : FaultRecord) : (s.takeFatal r).flash = s.flash := by
  simp [State.takeFatal]
@[simp] theorem State.takeFatal_d2d (s : State) (r : FaultRecord) : (s.takeFatal r).d2d = s.d2d := by
  simp [State.takeFatal]
@[simp] theorem State.takeFatal_domain (s : State) (r : FaultRecord) : (s.takeFatal r).domain = s.domain := by
  simp [State.takeFatal]
@[simp] theorem State.takeFatal_cal (s : State) (r : FaultRecord) : (s.takeFatal r).cal = s.cal := by
  simp [State.takeFatal]
@[simp] theorem State.takeFatal_sec (s : State) (r : FaultRecord) : (s.takeFatal r).sec = s.sec := by
  simp [State.takeFatal]
@[simp] theorem State.takeFatal_console (s : State) (r : FaultRecord) : (s.takeFatal r).console = s.console := by
  simp [State.takeFatal]
@[simp] theorem State.takeFatal_freeIx (s : State) (r : FaultRecord) : (s.takeFatal r).freeIx = s.freeIx := by
  simp [State.takeFatal]
@[simp] theorem State.takeFatal_pending (s : State) (r : FaultRecord) : (s.takeFatal r).pending = s.pending := by
  simp [State.takeFatal]
@[simp] theorem State.putRecord_power (s : State) (r : FaultRecord) : (s.putRecord r).power = s.power := by
  simp [State.putRecord]
@[simp] theorem State.putRecord_thermal (s : State) (r : FaultRecord) : (s.putRecord r).thermal = s.thermal := by
  simp [State.putRecord]
@[simp] theorem State.putRecord_host (s : State) (r : FaultRecord) : (s.putRecord r).host = s.host := by
  simp [State.putRecord]
@[simp] theorem State.putRecord_tel (s : State) (r : FaultRecord) : (s.putRecord r).tel = s.tel := by
  simp [State.putRecord]
@[simp] theorem State.putRecord_keeper (s : State) (r : FaultRecord) : (s.putRecord r).keeper = s.keeper := by
  simp [State.putRecord]
@[simp] theorem State.putRecord_flash (s : State) (r : FaultRecord) : (s.putRecord r).flash = s.flash := by
  simp [State.putRecord]
@[simp] theorem State.putRecord_compute (s : State) (r : FaultRecord) : (s.putRecord r).compute = s.compute := by
  simp [State.putRecord]
@[simp] theorem State.putRecord_ops (s : State) (r : FaultRecord) : (s.putRecord r).ops = s.ops := by
  simp [State.putRecord]
@[simp] theorem State.putRecord_d2d (s : State) (r : FaultRecord) : (s.putRecord r).d2d = s.d2d := by
  simp [State.putRecord]
@[simp] theorem State.putRecord_optics (s : State) (r : FaultRecord) : (s.putRecord r).optics = s.optics := by
  simp [State.putRecord]
@[simp] theorem State.putRecord_domain (s : State) (r : FaultRecord) : (s.putRecord r).domain = s.domain := by
  simp [State.putRecord]
@[simp] theorem State.putRecord_cal (s : State) (r : FaultRecord) : (s.putRecord r).cal = s.cal := by
  simp [State.putRecord]
@[simp] theorem State.putRecord_sec (s : State) (r : FaultRecord) : (s.putRecord r).sec = s.sec := by
  simp [State.putRecord]
@[simp] theorem State.putRecord_console (s : State) (r : FaultRecord) : (s.putRecord r).console = s.console := by
  simp [State.putRecord]
@[simp] theorem State.putRecord_out (s : State) (r : FaultRecord) : (s.putRecord r).out = s.out := by
  simp [State.putRecord]
@[simp] theorem State.putRecord_freeIx (s : State) (r : FaultRecord) : (s.putRecord r).freeIx = s.freeIx := by
  simp [State.putRecord]
@[simp] theorem State.putRecord_pending (s : State) (r : FaultRecord) : (s.putRecord r).pending = s.pending := by
  simp [State.putRecord]
@[simp] theorem State.recordChanged_power (s : State) (a b : FaultRecord) : (s.recordChanged a b).power = s.power := by
  unfold State.recordChanged; dsimp only; split <;> split <;> simp
@[simp] theorem State.recordChanged_thermal (s : State) (a b : FaultRecord) : (s.recordChanged a b).thermal = s.thermal := by
  unfold State.recordChanged; dsimp only; split <;> split <;> simp
@[simp] theorem State.recordChanged_flash (s : State) (a b : FaultRecord) : (s.recordChanged a b).flash = s.flash := by
  unfold State.recordChanged; dsimp only; split <;> split <;> simp
@[simp] theorem State.recordChanged_d2d (s : State) (a b : FaultRecord) : (s.recordChanged a b).d2d = s.d2d := by
  unfold State.recordChanged; dsimp only; split <;> split <;> simp
@[simp] theorem State.recordChanged_domain (s : State) (a b : FaultRecord) : (s.recordChanged a b).domain = s.domain := by
  unfold State.recordChanged; dsimp only; split <;> split <;> simp
@[simp] theorem State.recordChanged_cal (s : State) (a b : FaultRecord) : (s.recordChanged a b).cal = s.cal := by
  unfold State.recordChanged; dsimp only; split <;> split <;> simp
@[simp] theorem State.recordChanged_sec (s : State) (a b : FaultRecord) : (s.recordChanged a b).sec = s.sec := by
  unfold State.recordChanged; dsimp only; split <;> split <;> simp
@[simp] theorem State.recordChanged_console (s : State) (a b : FaultRecord) : (s.recordChanged a b).console = s.console := by
  unfold State.recordChanged; dsimp only; split <;> split <;> simp
@[simp] theorem State.recordChanged_freeIx (s : State) (a b : FaultRecord) : (s.recordChanged a b).freeIx = s.freeIx := by
  unfold State.recordChanged; dsimp only; split <;> split <;> simp
@[simp] theorem State.recordChanged_pending (s : State) (a b : FaultRecord) : (s.recordChanged a b).pending = s.pending := by
  unfold State.recordChanged; dsimp only; split <;> split <;> simp
@[simp] theorem State.tell_power (s : State) (l : List W32) (n : Option W32) : (s.tell l n).power = s.power := by
  unfold State.tell; split <;> rfl
@[simp] theorem State.tell_thermal (s : State) (l : List W32) (n : Option W32) : (s.tell l n).thermal = s.thermal := by
  unfold State.tell; split <;> rfl
@[simp] theorem State.tell_host (s : State) (l : List W32) (n : Option W32) : (s.tell l n).host = s.host := by
  unfold State.tell; split <;> rfl
@[simp] theorem State.tell_tel (s : State) (l : List W32) (n : Option W32) : (s.tell l n).tel = s.tel := by
  unfold State.tell; split <;> rfl
@[simp] theorem State.tell_faults (s : State) (l : List W32) (n : Option W32) : (s.tell l n).faults = s.faults := by
  unfold State.tell; split <;> rfl
@[simp] theorem State.tell_keeper (s : State) (l : List W32) (n : Option W32) : (s.tell l n).keeper = s.keeper := by
  unfold State.tell; split <;> rfl
@[simp] theorem State.tell_flash (s : State) (l : List W32) (n : Option W32) : (s.tell l n).flash = s.flash := by
  unfold State.tell; split <;> rfl
@[simp] theorem State.tell_compute (s : State) (l : List W32) (n : Option W32) : (s.tell l n).compute = s.compute := by
  unfold State.tell; split <;> rfl
@[simp] theorem State.tell_mem (s : State) (l : List W32) (n : Option W32) : (s.tell l n).mem = s.mem := by
  unfold State.tell; split <;> rfl
@[simp] theorem State.tell_d2d (s : State) (l : List W32) (n : Option W32) : (s.tell l n).d2d = s.d2d := by
  unfold State.tell; split <;> rfl
@[simp] theorem State.tell_optics (s : State) (l : List W32) (n : Option W32) : (s.tell l n).optics = s.optics := by
  unfold State.tell; split <;> rfl
@[simp] theorem State.tell_domain (s : State) (l : List W32) (n : Option W32) : (s.tell l n).domain = s.domain := by
  unfold State.tell; split <;> rfl
@[simp] theorem State.tell_cal (s : State) (l : List W32) (n : Option W32) : (s.tell l n).cal = s.cal := by
  unfold State.tell; split <;> rfl
@[simp] theorem State.tell_sec (s : State) (l : List W32) (n : Option W32) : (s.tell l n).sec = s.sec := by
  unfold State.tell; split <;> rfl
@[simp] theorem State.tell_console (s : State) (l : List W32) (n : Option W32) : (s.tell l n).console = s.console := by
  unfold State.tell; split <;> rfl
@[simp] theorem State.tell_out (s : State) (l : List W32) (n : Option W32) : (s.tell l n).out = s.out := by
  unfold State.tell; split <;> rfl
@[simp] theorem State.tell_freeIx (s : State) (l : List W32) (n : Option W32) : (s.tell l n).freeIx = s.freeIx := by
  unfold State.tell; split <;> rfl
@[simp] theorem State.tell_pending (s : State) (l : List W32) (n : Option W32) : (s.tell l n).pending = s.pending := by
  unfold State.tell; split <;> rfl
@[simp] theorem State.keeperTake_power (s : State) (r : FaultRecord) : (s.keeperTake r).power = s.power := by
  unfold State.keeperTake; dsimp only; repeat' split
  all_goals simp
@[simp] theorem State.keeperTake_thermal (s : State) (r : FaultRecord) : (s.keeperTake r).thermal = s.thermal := by
  unfold State.keeperTake; dsimp only; repeat' split
  all_goals simp
@[simp] theorem State.keeperTake_flash (s : State) (r : FaultRecord) : (s.keeperTake r).flash = s.flash := by
  unfold State.keeperTake; dsimp only; repeat' split
  all_goals simp
@[simp] theorem State.keeperTake_d2d (s : State) (r : FaultRecord) : (s.keeperTake r).d2d = s.d2d := by
  unfold State.keeperTake; dsimp only; repeat' split
  all_goals simp
@[simp] theorem State.keeperTake_domain (s : State) (r : FaultRecord) : (s.keeperTake r).domain = s.domain := by
  unfold State.keeperTake; dsimp only; repeat' split
  all_goals simp
@[simp] theorem State.keeperTake_cal (s : State) (r : FaultRecord) : (s.keeperTake r).cal = s.cal := by
  unfold State.keeperTake; dsimp only; repeat' split
  all_goals simp
@[simp] theorem State.keeperTake_sec (s : State) (r : FaultRecord) : (s.keeperTake r).sec = s.sec := by
  unfold State.keeperTake; dsimp only; repeat' split
  all_goals simp
@[simp] theorem State.keeperTake_console (s : State) (r : FaultRecord) : (s.keeperTake r).console = s.console := by
  unfold State.keeperTake; dsimp only; repeat' split
  all_goals simp
@[simp] theorem State.keeperTake_freeIx (s : State) (r : FaultRecord) : (s.keeperTake r).freeIx = s.freeIx := by
  unfold State.keeperTake; dsimp only; repeat' split
  all_goals simp
@[simp] theorem State.keeperTake_pending (s : State) (r : FaultRecord) : (s.keeperTake r).pending = s.pending := by
  unfold State.keeperTake; dsimp only; repeat' split
  all_goals simp
@[simp] theorem State.raise_power (s : State) (d : BaseDie) (r : Raise) : (s.raise d r).power = s.power := by
  unfold State.raise; dsimp only; repeat' split
  all_goals simp
@[simp] theorem State.raise_thermal (s : State) (d : BaseDie) (r : Raise) : (s.raise d r).thermal = s.thermal := by
  unfold State.raise; dsimp only; repeat' split
  all_goals simp
@[simp] theorem State.raise_flash (s : State) (d : BaseDie) (r : Raise) : (s.raise d r).flash = s.flash := by
  unfold State.raise; dsimp only; repeat' split
  all_goals simp
@[simp] theorem State.raise_d2d (s : State) (d : BaseDie) (r : Raise) : (s.raise d r).d2d = s.d2d := by
  unfold State.raise; dsimp only; repeat' split
  all_goals simp
@[simp] theorem State.raise_domain (s : State) (d : BaseDie) (r : Raise) : (s.raise d r).domain = s.domain := by
  unfold State.raise; dsimp only; repeat' split
  all_goals simp
@[simp] theorem State.raise_cal (s : State) (d : BaseDie) (r : Raise) : (s.raise d r).cal = s.cal := by
  unfold State.raise; dsimp only; repeat' split
  all_goals simp
@[simp] theorem State.raise_sec (s : State) (d : BaseDie) (r : Raise) : (s.raise d r).sec = s.sec := by
  unfold State.raise; dsimp only; repeat' split
  all_goals simp
@[simp] theorem State.raise_console (s : State) (d : BaseDie) (r : Raise) : (s.raise d r).console = s.console := by
  unfold State.raise; dsimp only; repeat' split
  all_goals simp
@[simp] theorem State.raise_freeIx (s : State) (d : BaseDie) (r : Raise) : (s.raise d r).freeIx = s.freeIx := by
  unfold State.raise; dsimp only; repeat' split
  all_goals simp
@[simp] theorem State.raise_pending (s : State) (d : BaseDie) (r : Raise) : (s.raise d r).pending = s.pending := by
  unfold State.raise; dsimp only; repeat' split
  all_goals simp
@[simp] theorem State.onRecord_power (s : State) (c : Chan) (k : Cause) (f : FaultRecord → FaultRecord) : (s.onRecord c k f).power = s.power := by
  unfold State.onRecord; dsimp only; split <;> simp
@[simp] theorem State.onRecord_thermal (s : State) (c : Chan) (k : Cause) (f : FaultRecord → FaultRecord) : (s.onRecord c k f).thermal = s.thermal := by
  unfold State.onRecord; dsimp only; split <;> simp
@[simp] theorem State.onRecord_flash (s : State) (c : Chan) (k : Cause) (f : FaultRecord → FaultRecord) : (s.onRecord c k f).flash = s.flash := by
  unfold State.onRecord; dsimp only; split <;> simp
@[simp] theorem State.onRecord_d2d (s : State) (c : Chan) (k : Cause) (f : FaultRecord → FaultRecord) : (s.onRecord c k f).d2d = s.d2d := by
  unfold State.onRecord; dsimp only; split <;> simp
@[simp] theorem State.onRecord_domain (s : State) (c : Chan) (k : Cause) (f : FaultRecord → FaultRecord) : (s.onRecord c k f).domain = s.domain := by
  unfold State.onRecord; dsimp only; split <;> simp
@[simp] theorem State.onRecord_cal (s : State) (c : Chan) (k : Cause) (f : FaultRecord → FaultRecord) : (s.onRecord c k f).cal = s.cal := by
  unfold State.onRecord; dsimp only; split <;> simp
@[simp] theorem State.onRecord_sec (s : State) (c : Chan) (k : Cause) (f : FaultRecord → FaultRecord) : (s.onRecord c k f).sec = s.sec := by
  unfold State.onRecord; dsimp only; split <;> simp
@[simp] theorem State.onRecord_console (s : State) (c : Chan) (k : Cause) (f : FaultRecord → FaultRecord) : (s.onRecord c k f).console = s.console := by
  unfold State.onRecord; dsimp only; split <;> simp
@[simp] theorem State.onRecord_freeIx (s : State) (c : Chan) (k : Cause) (f : FaultRecord → FaultRecord) : (s.onRecord c k f).freeIx = s.freeIx := by
  unfold State.onRecord; dsimp only; split <;> simp
@[simp] theorem State.onRecord_pending (s : State) (c : Chan) (k : Cause) (f : FaultRecord → FaultRecord) : (s.onRecord c k f).pending = s.pending := by
  unfold State.onRecord; dsimp only; split <;> simp
@[simp] theorem State.criticalAbsent_power (s : State) (d : BaseDie) (c : Chan) (w : W64) (b : Bool) : (s.criticalAbsent d c w b).power = s.power := by
  simp [State.criticalAbsent]
@[simp] theorem State.criticalAbsent_thermal (s : State) (d : BaseDie) (c : Chan) (w : W64) (b : Bool) : (s.criticalAbsent d c w b).thermal = s.thermal := by
  simp [State.criticalAbsent]
@[simp] theorem State.criticalAbsent_flash (s : State) (d : BaseDie) (c : Chan) (w : W64) (b : Bool) : (s.criticalAbsent d c w b).flash = s.flash := by
  simp [State.criticalAbsent]
@[simp] theorem State.criticalAbsent_d2d (s : State) (d : BaseDie) (c : Chan) (w : W64) (b : Bool) : (s.criticalAbsent d c w b).d2d = s.d2d := by
  simp [State.criticalAbsent]
@[simp] theorem State.criticalAbsent_domain (s : State) (d : BaseDie) (c : Chan) (w : W64) (b : Bool) : (s.criticalAbsent d c w b).domain = s.domain := by
  simp [State.criticalAbsent]
@[simp] theorem State.criticalAbsent_cal (s : State) (d : BaseDie) (c : Chan) (w : W64) (b : Bool) : (s.criticalAbsent d c w b).cal = s.cal := by
  simp [State.criticalAbsent]
@[simp] theorem State.criticalAbsent_sec (s : State) (d : BaseDie) (c : Chan) (w : W64) (b : Bool) : (s.criticalAbsent d c w b).sec = s.sec := by
  simp [State.criticalAbsent]
@[simp] theorem State.criticalAbsent_console (s : State) (d : BaseDie) (c : Chan) (w : W64) (b : Bool) : (s.criticalAbsent d c w b).console = s.console := by
  simp [State.criticalAbsent]
@[simp] theorem State.criticalAbsent_freeIx (s : State) (d : BaseDie) (c : Chan) (w : W64) (b : Bool) : (s.criticalAbsent d c w b).freeIx = s.freeIx := by
  simp [State.criticalAbsent]
@[simp] theorem State.criticalAbsent_pending (s : State) (d : BaseDie) (c : Chan) (w : W64) (b : Bool) : (s.criticalAbsent d c w b).pending = s.pending := by
  simp [State.criticalAbsent]

end Sys2Proof.Machine
end

