-- ==== Sys2Proof/WellFormed.lean ====
section
/-! DEFINITION. Which commands are commands of their row: operands that the row's rule does not let the event carry are
refused. The meanings are total and stand on their own guards; this predicate says what a sender may send. -/

namespace Sys2Proof

/-- A host memory request carries at least one byte and does not cross a 4 KiB boundary (R309). -/
def hostRequest (offset len : Nat) : Bool := decide (0 < len ∧ offset % 4096 + len ≤ 4096)

/-- Widths of one store: 1, 2, 4 or 8 bytes; narrower ones than a register are counted and discarded (R104, R308). -/
def storeWidth (bytes : Nat) : Bool := decide (bytes = 1 ∨ bytes = 2 ∨ bytes = 4 ∨ bytes = 8)

/-- Width codes of a PLAN: one of 0 to 3 for each of the eight groups (Table 6.7). -/
def widthCodes (ws : List Nat) : Bool := decide (ws.length = 8) && ws.all fun w => decide (w ≤ 3)

/-- The data an opcode carries (Table 9.3): none for READ, WRITE_ACK and FENCE, 8 bytes for FENCE_DONE (Table 9.2 calls its
length 0: log entry 25), the header's length for the others; a READ_DATA or ATOMIC_RESP that reports a failure, or of which
nothing was requested, may carry none. Log: DEDUCED 25. -/
def dataFits (opcode : Byte) (length : Nat) (data : List Byte) : Bool :=
  match opcode.toNat with
  | 0x01 | 0x04 | 0x20 => data.isEmpty
  | 0x21 => decide (data.length = 8)
  | 0x02 | 0x06 => data.isEmpty || decide (data.length = length)
  | _ => decide (data.length = length)

/-- Virtual channel of a known opcode (Table 9.3). -/
def channelOf (opcode : Byte) : Nat :=
  match opcode.toNat with
  | 0x01 | 0x05 => 1
  | 0x03 => 3
  | 0x10 => 4
  | 0x11 => 5
  | 0x20 | 0x21 => 6
  | _ => 2

/-- A domain message of an opcode: its VC, a header length of at most 4 KiB, and its data (Table 9.2, Table 9.3). -/
def domainMessage (opcode : Byte) (m : DomMsg) : Bool :=
  decide (m.opcode = opcode) && decide (m.vc.val = channelOf opcode) && decide (m.length ≤ 4096)
    && dataFits opcode m.length m.data

/-- Command codes that Table 11.14 does not list. -/
def isReservedCode (code : Byte) : Bool := !(List.contains [
    0x01, 0x02, 0x03, 0x05, 0x06, 0x07, 0x08, 0x10, 0x11, 0x12, 0x13, 0x14,
    0x15, 0x16, 0x17, 0x18, 0x20, 0x21, 0x22, 0x30, 0x31, 0x32, 0x33, 0x34,
    0x35, 0x36, 0x37, 0x38, 0x39, 0x3A, 0x40, 0x41, 0x42, 0x43, 0x44, 0x45,
    0x50, 0x51, 0x52, 0x53, 0x54, 0x60, 0x61, 0x62, 0x70, 0x71] code)

/-- A command that its row admits. -/
def Instr.wellFormed : Instr → Bool
  | .planMessage _ _ plan _ => widthCodes plan.widthsUp && widthCodes plan.widthsDown
  | .applyMessage _ seqUp seqDown _ => decide (seqUp.length = 8 ∧ seqDown.length = 8)
  | .isolationTestComplete _ _ errUp errDown _ _ _ _ => decide (errUp.length = 16 ∧ errDown.length = 16)
  | .stepFire _ _ loads writes _ => loads.all (fun r => decide (0 < r.len ∧ r.len ≤ 4096)) && writes.all (fun r => decide (0 < r.len ∧ r.len ≤ 256))
  | .loadDataLand _ _ data => decide (0 < data.length ∧ data.length ≤ 256)
  | .doorbellWrite _ _ _ bytes => storeWidth bytes
  | .appcoreRingSlotStore _ _ data => decide (0 < data.length)
  | .homeRead _ _ len => decide (0 < len)
  | .homeWrite _ _ data _ => decide (0 < data.length)
  | .statusMessageSend _ margins => decide (margins.length = 16)
  | .statusMessageReceive _ msg => decide (msg.margins.length = 16 ∧ msg.slots.length = 16)
  | .migrationCompareComplete _ _ pairs _ _ _ => decide (pairs.length ≤ 4096) && pairs.all fun p => decide (p.1.length = 272) && decide (p.2.length = 272)
  | .marginTestComplete _ tx rx => decide (tx.length ≤ 16) && decide (rx.length ≤ 16) && (tx ++ rx).all fun m => decide (m.length ≤ 4)
  | .flowUnitReceive _ unit _ => decide (unit.bytes.length = 256) && unit.copies.all fun c => decide (c.length = 256)
  | .unitForward _ msg => decide (msg.data.length ≤ 4096)
  | .readMessage _ msg => domainMessage 0x01 msg
  | .readDataMessage _ msg => domainMessage 0x02 msg
  | .writeMessage _ msg => domainMessage 0x03 msg
  | .writeAckMessage _ msg => domainMessage 0x04 msg
  | .atomicMessage _ msg => domainMessage 0x05 msg
  | .atomicRespMessage _ msg => domainMessage 0x06 msg
  | .redOperandMessage _ msg => domainMessage 0x10 msg
  | .redResultMessage _ msg => domainMessage 0x11 msg
  | .fenceMessage _ msg => domainMessage 0x20 msg
  | .fenceDoneMessage _ msg => domainMessage 0x21 msg
  | .bar2Read _ offset len => hostRequest offset len
  | .bar2Write _ offset data _ => hostRequest offset data.length
  | .bar2Atomic _ _ _ bytes _ _ => decide (bytes = 4 ∨ bytes = 8 ∨ bytes = 16)
  | .bar0WindowWrite _ offset data => hostRequest offset data.length
  | .telTimestampRead _ bytes _ => decide (bytes = 4 ∨ bytes = 8)
  | .registerWrite _ _ _ bytes => storeWidth bytes
  | .reservedCommandCode _ code => isReservedCode code
  | .cmdProfileWrite _ words _ => decide (words.length = 22)
  | .appcoreMemoryAccess _ _ len write => decide (0 < len) && (match write with | some d => decide (d.length = len) | none => true)
  | .pcieConfigWrite _ _ barGiBLog _ => (match barGiBLog with | some n => decide (n ≤ 6) | none => true)
  | .mctpUnsupportedType _ type => decide (type ≠ 0x00 ∧ type ≠ 0x01 ∧ type ≠ 0x05 ∧ type ≠ 0x7E)
  | .inputPowerApplied .. | .inputUndervoltage | .inputOvervoltage | .overvoltageRestart .. | .inputBandChange ..
  | .psStop .. | .psRestartTimer | .liveInputMate | .railSequence | .railRegulationTimeout .. | .moduleStart ..
  | .pllLock .. | .bootImageVerified | .latchImageDelivery .. | .stackTrainingComplete .. | .hbmClearComplete ..
  | .dumpCopyComplete | .readyEntry | .posMessage .. | .edgePrbsComplete .. | .edgeOpenTimeout .. | .maskMessage ..
  | .retrainReqMessage .. | .qtestMessage .. | .timeMessage .. | .sidebandRoundTimeout .. | .quarterTestComplete ..
  | .flitReceive .. | .retryRequestReceive .. | .retryResendTimeout .. | .d2dRoleMapWrite .. | .clockInputLoss ..
  | .refclkLoss | .refclkRestored | .siteDescriptorReceive .. | .siteDescriptorTimeout .. | .ucieMainbandTrained ..
  | .startTokenArrival .. | .operatorStartOnTumbler .. | .imageLoadComplete .. | .stepEnd .. | .writeAck ..
  | .tokenForward .. | .tokenArrival .. | .creditTokenArrival .. | .tokenWaitTimeout .. | .wardCompletionSend ..
  | .generationChangeArrival .. | .wardDrainedSend .. | .abortArrival .. | .probeArrival .. | .probeAnswerReceive ..
  | .probeTimeout .. | .spareSelftestComplete .. | .ringNop .. | .ringDispatch .. | .descriptorFetchComplete ..
  | .ringSignal .. | .ringWait .. | .ringBarrier .. | .ringReservedOpcode .. | .fenceWordWriteNotify ..
  | .startOrderLockAcquire .. | .startQueueCreditReturn .. | .regionTableFreed .. | .completionTokenReceive ..
  | .opxCplHeadWrite .. | .interruptClaimRead .. | .dispatcherStopConfirm .. | .drainedTokenReceive .. | .drainProbeTimer ..
  | .drainTimeExpiry .. | .localDrainComplete .. | .scrubComplete .. | .homeAtomic .. | .patrolScrubRead ..
  | .refreshRateFall .. | .laneRemapApply .. | .pageCopyComplete .. | .hbmMapCtrlWrite .. | .ringLockLoss ..
  | .resonanceToneMeasured .. | .ringSearchTimeout .. | .dropRingResearch .. | .ringToneRecheck .. | .heaterSegmentFault ..
  | .ffWordPublish .. | .ffWordReceive .. | .ffFeedStale .. | .ffFeedRecovered .. | .laserFadeThreshold ..
  | .migrationBegin .. | .tunableLaserTuned .. | .migOfferReceive .. | .migDoneReceive .. | .migOfferTimeout ..
  | .migrationTimeout .. | .laserFailure .. | .laneReqReceive .. | .fiberDark .. | .attenuatorShut .. | .attenuatorProbe ..
  | .fiberLightReturn .. | .cartridgePresenceLoss .. | .cartridgeBlockOvertemp .. | .nakReceive .. | .nakResendTimeout ..
  | .ackTimer .. | .noAcceptTimeout .. | .encryptedKeepalive .. | .linkIdleTimeout .. | .linkWidthChange ..
  | .retrainMessage .. | .trainMessage .. | .openMessage .. | .openEchoMessage .. | .trainRoundTimeout .. | .trainRepeat ..
  | .retrainLimitMiss .. | .activeStableTimer .. | .linkLostReceive .. | .linkLostTimeout .. | .downTrainingAttempt ..
  | .keySlotSwitch .. | .keyUseThreshold .. | .fenceRequestsAnswered .. | .perstAssert .. | .perstPairAssert | .resetNAssert
  | .portDown .. | .portUp .. | .vectorDelivery .. | .mctpControlMessage .. | .smbusLowTimeout | .pldmBaseRequest ..
  | .pldmSensorRequest .. | .pldmFruRequest .. | .pldmRequestUpdate .. | .pldmFirmwareData .. | .pldmActivateFirmware ..
  | .pldmCancelUpdate .. | .updateIdleTimeout | .telemetryBoundary | .telIntervalWrite .. | .rcRegisterRead ..
  | .mailboxWriteWhileBusy .. | .fwrHeadWrite .. | .cmdIdentify .. | .cmdStatusAck .. | .cmdCancel .. | .cancelSafePoint ..
  | .cmdFmName .. | .cmdPortRole .. | .cmdReset .. | .cmdServiceHoldEnter .. | .cmdServiceHoldLeave .. | .cmdCtxCreate ..
  | .cmdCtxTeardown .. | .cmdCtxQuery .. | .cmdCtxRelease .. | .cmdRingCreate .. | .cmdRingDelete .. | .cmdBar2Map ..
  | .cmdAppcoreStart .. | .cmdAppcoreStop .. | .cmdImageInstall .. | .cmdImageRemove .. | .cmdImageList ..
  | .cmdDomainAssign .. | .cmdWindowWrite .. | .cmdWindowRemove .. | .cmdLinksetWrite .. | .cmdFwdWrite ..
  | .cmdGroupWrite .. | .cmdTwinSet .. | .cmdF8Mode .. | .cmdLinkKey .. | .cmdLinkRelease .. | .cmdPeerResetMark ..
  | .cmdPeerResetClear .. | .cmdFwWrite .. | .cmdFwVerify .. | .cmdFwActivate .. | .cmdFwInfo .. | .cmdProfileRead ..
  | .cmdFaultRead .. | .cmdFaultNClear .. | .cmdLedgerRead .. | .cmdDumpRead .. | .cmdDumpRelease .. | .cmdSelftest ..
  | .cmdLinkMargin .. | .cmdCalRun .. | .cmdOwnerKeyProgram .. | .cmdOwnerKeyRevoke .. | .cmdVendorDebugOff ..
  | .cmdDebugUnlock .. | .latchHeartbeat .. | .latchHeartbeatTimeout .. | .keeperAnswerTimeout .. | .watchdogExpiry
  | .statusHeartbeatTick | .ledgerCommitComplete .. | .faultReport .. | .faultRecordArrival .. | .faultRecordHandle
  | .faultRecordClose .. | .wholeModuleReset .. | .quiesceComplete | .quiesceEscalation .. | .thermalModelStep ..
  | .thermalResetLimit .. | .bandFallTimer .. | .governorLoop .. | .powerCapStep .. | .fastLimitAssert | .fastLimitRelease
  | .throttleNAssert | .throttleNDeassert | .throttleHoldEnd | .throttleNLongHold | .phaseOvercurrent .. | .phaseRestart ..
  | .coolantFlowCheck .. | .senseElementCompare .. | .spdmGetVersion .. | .spdmGetCapabilities ..
  | .spdmNegotiateAlgorithms .. | .spdmGetDigests .. | .spdmGetCertificate .. | .spdmChallenge .. | .spdmGetMeasurements ..
  | .spdmKeyExchange .. | .spdmFinish .. | .spdmEndSession .. | .spdmKeyUpdate .. | .spdmHeartbeat ..
  | .spdmUnsupportedRequest .. | .consoleLine .. | .consoleCtrlC | .uartBreak | .consoleTest .. | .consoleReadRail ..
  | .flashFormat .. | .romInfo | .romLoad .. | .romBoot | .escalationRailReapply | .longOperationEnd ..
  | .hbmEyeTestComplete .. | .cartridgePresenceGain .. | .perstDeassert .. | .doeDiscoveryRequest .. | .mbxHeaderAbsent ..
  | .faultNPulseEnd | .dumpSlotEraseComplete .. | .ucieSidebandTrained .. | .linkWaitReportTimeout .. => true

end Sys2Proof
end

