-- ==== Sys2Proof/Tests/Slice0.lean ====
section
/-! SUPPORT. Tests: ill-formed commands are refused; a few single commands on small states; and for every statement with
hypotheses, states and operands that meet them. -/

namespace Sys2Proof.Tests

open Sys2Proof Sys2Proof.Machine

set_option maxRecDepth 100000

/-! ### States and records that the witnesses share -/

/-- The six base dies locked at their own positions. -/
def bases : Store BaseState :=
  (List.range 6).map fun d => (d, { BaseState.reset with position := some (Fin.ofNat 8 d), pllLocked := true })

/-- A module that serves: Idore runs, both ports are up, A active, every stack is cleared, and endpoint 5 on SMBus is the fabric
manager. -/
def rdy : State :=
  { State.reset with
    keeper.started := true, keeper.rom := true, keeper.idore := true, keeper.status := 0x20000000, keeper.statusWritten := true
    keeper.shelfCleared := true, keeper.eventRing := true
    host.everReady := true, host.portA := { Port.reset with released := true, up := true, active := true }
    host.portB := { Port.reset with released := true, up := true }, host.fm := some (2, 5)
    d2d.bases := bases
    mem.hbm := (List.range 12).map fun k => (k, { Stack.reset with trained := true, cleared := true }) }

/-- A command of host mailbox 0. -/
def hc : CmdHdr := { caller := .host 0 .a, seq := 1, buffer := false, userTag := 7, argsOk := true }

/-- A command of the fabric manager. -/
def hm : CmdHdr := { hc with caller := .mctp 2 5 }

/-- A command of the console. -/
def ho : CmdHdr := { hc with caller := .console }

/-- Tumbler 0 of ward 0 of C0. -/
def t0 : TumId := { die := 0, ward := 0, tum := 0 }

/-- A step that needs nothing. -/
def freeStep : StepDesc := { needs := [], makes := [], groups := [], writeSlots := 1, readSlots := 1, staging := 0 }

/-- An operator of context 1 with one step. -/
def res0 : Resident :=
  { ctx := 1, gen := 0, opSerial := 9, image := 0, index := 0, origin := [], extent := [], empty := false, desc := 0, word := 0, tensors := []
    program := { steps := [freeStep], outputs := [], senders := [] }, last := 0, running := none, computing := false, toIssue := []
    reserved := 0, toSend := [], stepped := false, waitReported := false, failed := none }

/-- A state with one resident operator on tumbler 0. -/
def withRes (s : State) (r : Resident) : State :=
  s.setTumbler 0 { Tumbler.reset with resident := some r, slots := [(0, [])], tables := some 0 }

/-- A start token of context 1 for tumbler 0. -/
def tok0 : StartTok :=
  { ctx := 1, gen := 0, dest := t0, opSerial := 9, image := 0, index := 0, origin := [], extent := [], empty := false, desc := 0
    word := 0, tensors := [] }

/-- An Open context over the first 4 KiB of C0's capacity and the first MiB of P1's shelf SRAM. -/
def ctx0 : Context :=
  { Context.reset with state := .opened, regions := [{ base := 0, len := 4096 }, { base := 0x020010000000, len := 0x100000 }] }

/-- A data token from tumbler 0 to tumbler 0 on its input queue 0. -/
def data0 : Token := { header := tokenHeader 1 0 tkData t0.toEnd 0 1 0 t0.toEnd, beats := [0] }

/-- The last tumbler of the last ward of C11, and a data token to it. -/
def t9 : TumId := { die := 11, ward := 23, tum := 63 }
def afar0 : Token := { header := tokenHeader 1 0 tkData t9.toEnd 0 1 0 t0.toEnd, beats := [0] }

/-- A fault record of stack 0. -/
def rec0 : FaultRecord :=
  { cause := .critAbsent, suspect := stackChan 0, spare := 0, reporter := stackChan 0, detail := 0, count := 1, firstTime := 0
    lastTime := 0, seq := none, ctx := none, cls := 1, collector := 0, merged := false, closed := false, action := .pending
    opStatus := 0, ops := [] }

/-- A ring of context 1 on P0 with one entry not yet read. -/
def ring0 : Ring := { Ring.reset with enabled := true, ctx := 1, tail := 1 }

/-- The ring's first entry, with a given opcode and fence address in P1's shelf SRAM; context 1, generation 0. -/
def entryWord (op : Nat) : BitVec 512 :=
  BitVec.ofNat 512 (op * 2 ^ 192 + 0x020010080000 * (if op = 2 ∨ op = 3 then 2 ^ 352 else 0)
    + (critWord 16).toNat + (if op = 1 then (critWord 0x80).toNat * 2 ^ 64 + (critWord 0).toNat * 2 ^ 128 else 0))

/-- A module with context 1 Open and the ring of context 1, whose first slot holds an entry of an opcode. -/
def ringState (op : Nat) : State :=
  let s := (rdy.setContext 1 ctx0).setRing 0 ring0
  (s.storeAt 0x020000000000 (leBytes 64 (entryWord op).toNat) false).1

/-- An entry of the ring, read and not completed. -/
def live0 (op : Nat) (phase : EntryPhase) : RingEntry :=
  { count := 0, word := entryWord op, prev := none, phase, desc := 0, tensors := [], placement := { dies := [0], wardFirst := 0, wardCount := 1, perWard := 1 }
    opSerial := 9, tokens := [], drainedFirst := [], fault := none, faultSeq := none }

/-- The module with one live entry on ring 0. -/
def liveState (e : RingEntry) : State := (rdy.setContext 1 ctx0).setRing 0 { ring0 with head := 1, live := [e] }

/-- A teardown of context 1 in progress. -/
def td0 : Teardown :=
  { named := [0], stopped := [], changed := true, reported := [], expired := false, fences := [], step := 4, stragglers := 0, aborted := 0
    scrubbed := 0 }

/-- Context 1 Draining under a teardown. -/
def drainState (td : Teardown) : State := rdy.setContext 1 { ctx0 with state := .draining, gen := 1, teardown := some td }

/-- An ACTIVE link. -/
def link0 : Link := { Link.reset with state := .active, txLanes := 0xFFFF, rxLanes := 0xFFFF, twin := none }

/-- A ready module whose link 0 is as given. -/
def linkState (x : Link) : State := rdy.setLink 0 x

/-- A data unit in a replay buffer. -/
def unit0 : TxUnit := { header := unitHeader 1 true true false 16 1 0 3 2 0, payload := List.replicate 232 0 }

/-- A ready module that is module 2 of a domain of four, and reaches module 3 over link 0. -/
def domState : State :=
  { rdy.setLink 0 link0 with
    domain.id := some 2, domain.size := 4, domain.linkSets := [(1, [0])], domain.forward := [(3, some 1)] }

/-- A message from module 3 to module 2. -/
def msg0 (op : Byte) : DomMsg :=
  { vc := (opcodeVc op).getD 0, opcode := op, srcModule := 3, destModule := 2, ctx := 1, gen := 0, hops := 0, poison := false, targetCtx := 1
    targetGen := 0, offset := 0, length := 8, tag := 5, status := 0, returnDie := 0, data := List.replicate 8 0xA5 }

/-- A request of the operator on tumbler 0 to module 3. -/
def req0 (write : Bool) : Request :=
  { tag := 5, module := 3, ctx := 1, gen := 0, tumbler := 0, sram := 0, group := 0, len := 8, write, opSerial := 9 }

/-- A write part that rides request 5. -/
def write0 (global : Bool) : WritePart :=
  { global, module := 3, addr := 0, len := 8, sram := 0, ctx := 1, gen := 0, opSerial := 9, tag := 5, op := none }

/-- A load part that rides request 5. -/
def load0 (global : Bool) : LoadPart :=
  { global, module := 3, addr := 0, len := 8, sram := 0, group := 0, ctx := 1, gen := 0, tag := 5 }

/-- A migration of laser 0 to spare slot 16. -/
def mig0 : Migration :=
  { laser := 0, cls := .urgent, slot := 16, single := false, tunable := some 16, begun := false, ledgered := false
    fibers := [{ fiber := 0, lane := 0, stage := .offered 1 }] }

/-- A ready module whose engine 0 is as given. -/
def engState (x : Engine) : State := rdy.setEngine 0 x

/-- A long operation of mailbox 0. -/
def long0 (k : LongKind) : LongOp :=
  { mbx := 0, seq := 1, code := .identify, kind := k, caller := .host 0 .a, done := 0, total := 8, word2 := 0, word3 := 0, word4 := 0
    cancelling := false }

/-- A ready module in which a long operation runs. -/
def longState (o : LongOp) : State := { rdy with keeper.longOps := [o] }

/-- A TRAIN from the peer of a link. -/
def train0 : TrainMsg :=
  { ok := true, version := 1, moduleId := 3, linkIx := 0, serial := 77, bootCount := 1, txMask := 0xFFFF, rxMask := 0xFFFF
    slots := List.range 16, expect := 0, extCount := 0, restart := true, encrypt := false, keyIds := [0, 0], rttNs := 300, round := 0 }

/-- An OPEN. -/
def open0 : OpenMsg :=
  { ok := true, widthTx := 0xFFFF, widthRx := 0xFFFF, resumeTx := 0, resumeRx := 0, restart := true, rtu := 268, extTx := 0, extRx := 0, round := 0 }

/-- An SPDM connection over SMBus that has negotiated, with Idore holding the Alias key. -/
def spdmState : State :=
  { rdy with sec.aliasKey := some 3, sec.phases := [(.mctp 2 5, .algorithms)] }

/-- A ledger entry not yet committed. -/
def entry0 : LedgerEntry := { action := 1, seq := 4, chan := stackChan 0, spare := 0, data := 0 }

/-- An operator descriptor with its table at 0x200, image 6, one input and one output, on one tumbler of C0. -/
def descWord : Nat :=
  (critWord 16).toNat + (critWord 0x200).toNat * 2 ^ 64 + (critWord 0).toNat * 2 ^ 128 + 6 * 2 ^ 192 + 2 ^ 224 + 2 ^ 240 + 2 ^ 244
    + 2 ^ 384 + 2 ^ 401 + 2 ^ 406

/-- The module whose ring fetched that descriptor. -/
def descState : State :=
  ({ liveState (live0 1 .descriptor) with compute.images := [{ id := 6, bytes := [] }] }.storeAt 0x80 (leBytes 128 descWord) false).1

/-- A flow unit with a header and the check that a prefix gives it. -/
def unitOf (header : BitVec 128) (pre : BitVec 16) : FlowUnit :=
  let b := leBytes 16 header.toNat ++ List.replicate 232 0
  { bytes := b ++ leBytes 8 (crc64 pre b).toNat }

/-- A calibration item that commits. -/
def item0 : CalItem := { index := 0, word := critWord 0x10000001, plausible := true, refPresent := true }

/-- Engine 0 with laser 0 lit, and link 0 ACTIVE. -/
def fadeState : State := (linkState link0).setEngine 0 { Engine.reset with lasers := [(0, { Laser.reset with lit := true })] }

/-- Sixteen lanes at the bound of R220, and fifteen not tested with one above it. -/
def goodMargins : List LaneMargin := List.replicate 16 (List.replicate 4 { errors := 24192, uncorrectable := false })
def oneBadMargin : List LaneMargin := List.replicate 15 [] ++ [List.replicate 4 { errors := 24193, uncorrectable := false }]

/-- The domain module with context 1 Open. -/
def domOpen : State := domState.setContext 1 ctx0

/-- A ready module whose last drop ring of engine 0 is in a state. -/
def ringOf (x : RingState) : State :=
  engState { Engine.reset with rings := [(36 * 8 + 2 * 17 + 1, { OptRing.reset with state := x, driving := true })] }

/-- A migration that has duplicated on two fibers. -/
def mig2 : Migration :=
  { mig0 with begun := true, ledgered := true
              fibers := [{ fiber := 0, lane := 0, stage := .offered 1 }, { fiber := 1, lane := 0, stage := .offered 1 }] }

/-! ### Commands that no row admits, and the words that spell none -/

/-- A READ of 64 bytes to module 1. -/
def askRead : DomMsg :=
  { vc := 1, opcode := 0x01, srcModule := 2, destModule := 1, ctx := 1, gen := 0, hops := 0, poison := false, targetCtx := 1, targetGen := 0
    offset := 0, length := 64, tag := 5, status := 0, returnDie := 0, data := [] }

/-- A load and a write of a step. -/
def ldReq (len : Nat) : LoadReq := { global := false, module := 0, addr := 0, len, sram := 0, group := 0 }
def wrReq (len : Nat) : WriteReq := { global := false, module := 0, addr := 0, len, sram := 0, op := none }

theorem test_wf_plan : (Instr.planMessage 0 true ⟨[3], [3], 0, 0, 1⟩ true).wellFormed = false := by decide
theorem test_wf_apply : (Instr.applyMessage 0 [0] [0] true).wellFormed = false := by decide
theorem test_wf_isolation : (Instr.isolationTestComplete 0 0 [] [] 0 0 0 .up).wellFormed = false := by decide
theorem test_wf_load_too_long : (Instr.stepFire t0 0 [ldReq 4097] [] none).wellFormed = false := by decide
theorem test_wf_write_too_long : (Instr.stepFire t0 0 [] [wrReq 257] none).wellFormed = false := by decide
theorem test_wf_load_data : (Instr.loadDataLand t0 0 []).wellFormed = false := by decide
theorem test_wf_doorbell : (Instr.doorbellWrite .keeper 0 0 3).wellFormed = false := by decide
theorem test_wf_slot_store : (Instr.appcoreRingSlotStore 0 0 []).wellFormed = false := by decide
theorem test_wf_home_read : (Instr.homeRead .keeper 0 0).wellFormed = false := by decide
theorem test_wf_home_write : (Instr.homeWrite .keeper 0 [] false).wellFormed = false := by decide
theorem test_wf_status_send : (Instr.statusMessageSend 0 [0]).wellFormed = false := by decide
theorem test_wf_status_receive : (Instr.statusMessageReceive 0 ⟨[], [], 0, true⟩).wellFormed = false := by decide
theorem test_wf_flow_unit : (Instr.flowUnitReceive 0 { bytes := [0], copies := [] } true).wellFormed = false := by decide
theorem test_wf_forward :
    (Instr.unitForward 0 { askRead with data := List.replicate 4097 0 }).wellFormed = false := by decide +kernel
theorem test_wf_read : (Instr.readMessage 0 askRead).wellFormed = true := by decide
theorem test_wf_read_channel : (Instr.readMessage 0 { askRead with vc := 3 }).wellFormed = false := by decide
theorem test_wf_read_data : (Instr.readMessage 0 { askRead with data := [1] }).wellFormed = false := by decide
theorem test_wf_write_data : (Instr.writeMessage 0 { askRead with opcode := 0x03, vc := 3 }).wellFormed = false := by decide
theorem test_wf_fence_done : (Instr.fenceDoneMessage 0 { askRead with opcode := 0x21, vc := 6 }).wellFormed = false := by decide
theorem test_wf_bar2_read : (Instr.bar2Read .a 4095 2).wellFormed = false := by decide
theorem test_wf_bar2_write : (Instr.bar2Write .a 0 [] false).wellFormed = false := by decide
theorem test_wf_bar2_atomic : (Instr.bar2Atomic .a .swap 0 2 0 0).wellFormed = false := by decide
theorem test_wf_bar0_write : (Instr.bar0WindowWrite .a 4095 [0, 0]).wellFormed = false := by decide
theorem test_wf_timestamp : (Instr.telTimestampRead .keeper 2 false).wellFormed = false := by decide
theorem test_wf_register : (Instr.registerWrite .keeper .telCtrl 0 16).wellFormed = false := by decide
theorem test_wf_reserved_code : (Instr.reservedCommandCode hc 0x01).wellFormed = false := by decide
theorem test_wf_profile : (Instr.cmdProfileWrite hc [] 176).wellFormed = false := by decide
theorem test_wf_core_access : (Instr.appcoreMemoryAccess 0 0 2 (some [1])).wellFormed = false := by decide
theorem test_wf_bar_size : (Instr.pcieConfigWrite .a none (some 7) none).wellFormed = false := by decide
theorem test_wf_mctp_type : (Instr.mctpUnsupportedType 0 0x05).wellFormed = false := by decide

/-- No row of the table has bits. -/
theorem test_no_word_spells_a_command : decodeTableWord 64 0xFFFF = none := rfl

/-! ### The manual's worked examples -/

/-- FP32 0x3E99999A (0.3) in E4M3 (chapter 3, "FP32 to FP8 E4M3 under each rounding mode"). -/
theorem test_e4m3_of_three_tenths :
    (encodeElem .e4m3 .none .even false (ofFp32 0x3E99999A)).1 = 0x2A ∧ (encodeElem .e4m3 .none .zero false (ofFp32 0x3E99999A)).1 = 0x29 ∧
    (encodeElem .e4m3 .none (.stoch 26215) false (ofFp32 0x3E99999A)).1 = 0x2A ∧
    (encodeElem .e4m3 .none (.stoch 26214) false (ofFp32 0x3E99999A)).1 = 0x29 := by decide +kernel

/-- −0.7 and 5.2 as a block of MX FP4, and 7.5 saturating (chapter 3, "A block written as MX FP4"). -/
theorem test_mx_fp4_block :
    (writeBlocks .e2m1 .mx .nearest false 32 1 0 [] [ofFp32 0xBF333333, ofFp32 0x40A66666]).elems.head? = some 0x79 ∧
    (writeBlocks .e2m1 .mx .nearest false 32 1 0 [] [ofFp32 0xBF333333, ofFp32 0x40A66666]).scales = [0x7F] ∧
    (writeBlocks .e2m1 .mx .nearest false 32 1 0 [] [ofFp32 0x40F00000]).events = [avSaturate] := by decide +kernel

/-- Trits +1, 0, −1, −1, +1 as elements 10 to 14 of a Pewter block are code byte 2 (chapter 3, "packing one Pewter byte"). -/
theorem test_pewter_byte :
    (packPewter (List.replicate 10 1 ++ [2, 1, 0, 0, 2] ++ List.replicate 25 1) 0x30)[2]? = some 0xA7 ∧
    (List.range 5).map (tritOf 0xA7) = [2, 1, 0, 0, 2] := by decide

/-- With I = 8 and all twelve stacks, 0x0100_0003_5123 is at offset 0x0009_C000_4123 of H5, which has no direct address (chapter 5,
"decoding an interleaved address"). -/
theorem test_interleaved_address :
    rdy.place 0x010000035123 = .cell 5 0x0009C0004123 ∧ rdy.place (5 * 0x1000000000 + 0x0009C0004123) = .unmapped := by decide

/-- The progress of a teardown in the example of chapter 11, and of a scrub that has done nothing or all. -/
theorem test_progress : progressOf 0 64425 = 0 ∧ progressOf 5418 64425 = 344 ∧ progressOf 64425 64425 = 4095 := by decide

/-- A round trip of 700 ns is 626 units of 893.1 million a second, rounded up (R254). -/
theorem test_round_trip : rtuOf 700 = 626 := by decide

/-- A critical word holds its value's complement above it (R362). -/
theorem test_critical_word : critWord 0x252 = 0xFFFFFDAD00000252 ∧ critValue 0xFFFFFDAD00000252 = some 0x252 ∧ critValue 0x252 = none := by
  decide

/-- Rail 0x04 with the gains of the example of chapter 14: errors of 0.9 % and 0.4 % on elements 1 and 2 of phase 3. -/
def senseState : State :=
  { rdy with
    cal.words := [(131072 + 524 + 1, critWord 0x5001024E), (131072 + 524 + 2, critWord 0x50010106)]
    power.rails := [(4, { Rail.reset with readings := [(3, [5200, 5540, 5500])], badElements := [12] })] }

/-- Element 0 gives way to element 2, whose error is smaller, and the phase still reads 52.00 A with an offset of −3.00 A (chapter 14,
"a current-sense element on VCORE_C4"). -/
theorem test_sense_element_on_vcore_c4 :
    nextElement (senseState.cal.gainError 4 3) [0] 0 = some 2 ∧
    ((senseState.switchElement 4 3 2).cal.offset 4 3) = (-300, 1) ∧
    (senseState.switchElement 4 3 2).cal.sensed 4 3 5500 = 5200 := by decide

/-- Two readings of 55.40 A and 55.00 A agree within 2 %; 52.00 A and their mean do not within 3 % (chapter 14). -/
theorem test_sense_agreement : agree 2 5540 5500 = true ∧ agree 3 5200 5520 = false := by decide

/-- The copies of the body store are present as reset leaves them, for their own serial number alone (R417). -/
theorem test_cal_copy_present :
    CalCopy.reset.present 0 = true ∧ CalCopy.reset.present 1 = false ∧ CalCopy.reset.header = calHeader 0 0 0 := by decide

/-- A lost reference fails its item and every later one (R422). -/
theorem test_lost_reference :
    (loseReference false [item0, { item0 with refPresent := false }, item0]).map (fun i => i.refPresent) = [true, false, false] := by decide

/-- FP32 addition rounds to nearest even (R97): 1 + 2^−24 is 1, and 1 + 2^−23 is exact. -/
theorem test_fp32_add : fAdd 0x3F800000 0x33800000 = 0x3F800000 ∧ fAdd 0x3F800000 0x34000000 = 0x3F800001 := by decide +kernel


/-- Tumbler 77 of a grid of 8 by 16 has row tile 4 and column tile 13 (chapter 2, "a matrix multiply on two wards"). -/
theorem test_tile_of_tumbler_77 :
    tileOf (BitVec.ofNat 1024 (8 * 2 ^ 256 + 16 * 2 ^ 272 + 128 * 2 ^ 320 + 64 * 2 ^ 336)) 77 = some [4, 13, 0, 0] := by decide +kernel

/-- With lane 37 bad, spare 128 carries it and every group keeps width 16 (chapter 6, Table 6.8a). -/
theorem test_lane_37_retired :
    (planOf (BitVec.allOnes 136 ^^^ BitVec.twoPow 136 37) []).spares = [(37, some 128)] ∧
    (planOf (BitVec.allOnes 136 ^^^ BitVec.twoPow 136 37) []).widths = List.replicate 8 16 := by decide +kernel

/-- Words go to the active lanes in turn (R243): lanes 0, 2 and 3 of the mask 0b1101. -/
theorem test_words_dealt : dealWords 0xD 0 [10, 11, 12, 13] = [(0, 10), (2, 11), (3, 12), (0, 13)] := by decide
/-! ### Hypotheses that can be met, statement by statement -/

/-- States and operands that meet the hypotheses of `Obligations.InputStageFollowsInputVoltage`. -/
theorem witness_InputStageFollowsInputVoltage :
    (∃ (s : State) (mv : Nat), s.power.ps = .off ∧ 52000 ≤ mv ∧ mv ≤ 72000) ∧
    (∃ (s : State), s.power.ps = .running) ∧
    (∃ (s : State) (mv : Nat), s.power.ps = .overvoltage ∧ 52000 ≤ mv ∧ mv ≤ 72000) ∧
    (∃ (s : State) (mv : Nat), s.power.ps = .running ∧ 48000 ≤ mv ∧ mv ≤ 76000) ∧
    (∃ (s : State), s.power.ps = .running) ∧
    (∃ (s : State), s.power.ps = .off) :=
  ⟨⟨{ State.reset with power.ps := .off }, 52000, by decide, by decide, by decide⟩,
    ⟨State.reset, by decide⟩,
    ⟨{ State.reset with power.ps := .overvoltage }, 72000, by decide, by decide, by decide⟩,
    ⟨State.reset, 48000, by decide, by decide, by decide⟩,
    ⟨State.reset, by decide⟩,
    ⟨{ State.reset with power.ps := .off }, by decide⟩⟩

/-- States and operands that meet the hypotheses of `Obligations.RailsAndPhasesFollowTable`. -/
theorem witness_RailsAndPhasesFollowTable :
    (∃ (s : State), s.power.bus12 = true ∧ s.power.railsUp = false ∧ s.power.escalated = false) ∧
    (∃ (r : Byte), r = 0x78 ∨ r = 0x79 ∨ r = 0x28 ∨ r = 0x20) ∧
    (∃ (s : State) (r : Byte) (p : Nat), p < 32 ∧ (s.rail r.toNat).padlocked.contains p = false ∧
      Store.get 0 s.faults.transients (phaseChan r.toNat p).toNat < 2 ∧ s.isPadlocked (phaseChan r.toNat p) = false) ∧
    (∃ (s : State) (r : Byte) (p : Nat) (x : Nat) (y : Nat) (z : Nat), Store.get 0 (s.rail r.toNat).element p = 0 ∧
      agree 3 x y = true ∧ agree 3 x z = true ∧ agree 2 y z = false) ∧
    (∃ (s : State) (r : Nat) (p : Nat) (seen : List Nat), seen = Store.get [] (s.rail r).readings p ∧
      0 < (s.cal.offset r p).2) :=
  ⟨⟨{ State.reset with power.railsUp := false }, by decide, by decide, by decide⟩,
    ⟨0x20, by decide⟩,
    ⟨State.reset, 0x28, 31, by decide, by decide, by decide, by decide⟩,
    ⟨State.reset, 0x28, 0, 1000, 990, 1015, by decide, by decide, by decide, by decide⟩,
    ⟨State.reset, 0, 3, [], by decide, by decide⟩⟩

/-- States and operands that meet the hypotheses of `Obligations.ThrottleHoldAndPowerCap`. -/
theorem witness_ThrottleHoldAndPowerCap :
    (∃ (s : State), s.power.throttleN = false) ∧
    (∃ (s : State), s.power.throttleN = true) ∧
    (∃ (s : State) (mw : Nat), s.keeper.idore = true ∧ s.pCap < mw) ∧
    (∃ (s : State), s.power.throttleN = true) ∧
    (∃ (s : State), s.power.throttleN = true) :=
  ⟨⟨State.reset, by decide⟩,
    ⟨{ State.reset with power.throttleN := true }, by decide⟩,
    ⟨rdy, 5400001, by decide, by decide⟩,
    ⟨{ State.reset with power.throttleN := true }, by decide⟩,
    ⟨{ State.reset with power.throttleN := true }, by decide⟩⟩

/-- States and operands that meet the hypotheses of `Obligations.ThermalLimitsAndBands`. -/
theorem witness_ThermalLimitsAndBands :
    (∃ (k : Nat), k < 448) ∧
    (∃ (c : Chan) (p : Nat), chanPart c = some p ∧ banded p = true) ∧
    (∃ (s : State) (d : Die), 11500 ≤ Store.get 0 s.thermal.hotspot d.val ∧ s.faults.seqr.active = none ∧
      s.isPadlocked (dieChan d.val) = false ∧ s.faults.log = [] ∧ s.faults.openRecs = [] ∧ d.val < 2) :=
  ⟨⟨447, by decide⟩,
    ⟨dieChan 11, 11, by decide, by decide⟩,
    ⟨{ State.reset with thermal.hotspot := [(1, 11500)] }, 1, by decide, by decide, by decide, by decide, by decide,
      by decide⟩⟩

/-- States and operands that meet the hypotheses of `Obligations.StartFromRailsToIdore`. -/
theorem witness_StartFromRailsToIdore :
    (∃ (s : State), s.power.railsUp = true ∧ s.power.refclk = true ∧ s.faults.seqr.active = none ∧ s.keeper.started = false) ∧
    (∃ (s : State), s.keeper.started = true ∧ (s.base 0).pllLocked = false ∧ (s.base 0).position = some 0 ∧
      s.keeper.idore = false) ∧
    (∃ (s : State) (d : BaseDie) (p : Port4), d ≠ 0 ∧ s.keeper.started = true ∧ (s.base d.val).pllLocked = false ∧
      (s.base d.val).position = some (Fin.ofNat 8 d.val) ∧ s.clockInput d.val = some p ∧
      (s.base (neighbour d.val p)).pllLocked = true) ∧
    (∃ (s : State), s.keeper.rom = true ∧ s.keeper.idore = false ∧ s.modState = .booting ∧ s.flash.partA.journal = [] ∧
      s.flash.partB.journal = [] ∧ (s.cal.load (Store.get 0 s.keeper.serials 0)).absent = []) ∧
    (∃ (s : State) (d : BaseDie), (s.base d.val).pllLocked = true) :=
  ⟨⟨State.reset, by decide, by decide, by decide, by decide⟩,
    ⟨{ State.reset with keeper.started := true, d2d.bases := [(0, { BaseState.reset with position := some 0 })] },
      by decide, by decide, by decide, by decide⟩,
    ⟨{ State.reset with keeper.started := true, d2d.bases := [(0, { BaseState.reset with position := some 0, pllLocked := true }), (1, { BaseState.reset with position := some 1 })] },
      1, .w, by decide, by decide, by decide, by decide, by decide, by decide⟩,
    ⟨{ State.reset with keeper.rom := true, keeper.status := 0x10000000 }, by decide, by decide, by decide, by decide,
      by decide, by decide⟩,
    ⟨rdy, 5, by decide⟩⟩

/-- States and operands that meet the hypotheses of `Obligations.StacksClearedThenReady`. -/
theorem witness_StacksClearedThenReady :
    (∃ (s : State) (d : BaseDie), s.keeper.idore = true ∧ d ≠ 0 ∧ (s.base d.val).pllLocked = true ∧
      3 ≤ s.controlCores d.val) ∧
    (∃ (s : State) (k : StackIx), (s.stack k.val).padlocked = false ∧ (s.stack k.val).trained = false ∧
      s.stackOn k.val = true) ∧
    (∃ (s : State) (k : StackIx), (s.stack k.val).padlocked = false ∧ (s.stack k.val).trained = false ∧
      s.stackOn k.val = true) ∧
    (∃ (s : State) (k : StackIx), (s.stack k.val).trained = true) ∧
    (∃ (s : State), s.keeper.idore = true ∧ s.keeper.shelfCleared = false) ∧
    (∃ (s : State), s.keeper.idore = true ∧ s.keeper.shelfCleared = true ∧ s.stacksDone = true ∧ s.modState = .booting) :=
  ⟨⟨rdy, 1, by decide, by decide, by decide, by decide⟩,
    ⟨(rdy.setStack 11 Stack.reset), 11, by decide, by decide, by decide⟩,
    ⟨(rdy.setStack 11 Stack.reset), 11, by decide, by decide, by decide⟩,
    ⟨rdy, 11, by decide⟩,
    ⟨{ State.reset with keeper.idore := true }, by decide, by decide⟩,
    ⟨{ rdy with keeper.status := 0x10000000, host.everReady := false }, by decide, by decide, by decide, by decide⟩⟩

/-- States and operands that meet the hypotheses of `Obligations.EdgesTrainOpenAndClose`. -/
theorem witness_EdgesTrainOpenAndClose :
    (∃ (s : State) (d : BaseDie) (p : Port4) (e : Nat), portEdge d.val p = some e ∧ (s.edge e).state = .sideband ∧
      (s.base d.val).position = some (Fin.ofNat 8 d.val) ∧ (s.base d.val).pllLocked = true ∧ s.latchShort d.val = false) ∧
    (∃ (s : State) (e : EdgeIx), (s.edge e.val).state = .testing ∧ (s.base (edgeEnds e.val).1).pllLocked = true ∧
      (s.base (edgeEnds e.val).2).pllLocked = true) ∧
    (∃ (s : State) (e : EdgeIx), (s.edge e.val).state ≠ .opened ∧ (s.edge e.val).state ≠ .closed) ∧
    (∃ (s : State) (e : EdgeIx), (s.edge e.val).retraining = true) ∧
    (∃ (s : State) (e : EdgeIx), (s.edge e.val).retraining = true) ∧
    (∃ (s : State) (e : EdgeIx), (s.edge e.val).retraining = true ∧ (s.edge e.val).state ≠ .closed) ∧
    (∃ (s : State) (e : EdgeIx), (s.edge e.val).state = .opened ∧ (s.edge e.val).fallback = false ∧
      (s.edge e.val).retraining = false) ∧
    (∃ (s : State) (e : EdgeIx), (s.edge e.val).retraining = true ∧ (s.edge e.val).asked = true) :=
  ⟨⟨{ State.reset with d2d.bases := bases }, 1, .e, 1, by decide, by decide, by decide, by decide, by decide⟩,
    ⟨(rdy.setEdge 6 { Edge.reset with state := .testing }), 6, by decide, by decide, by decide⟩,
    ⟨State.reset, 6, by decide, by decide⟩,
    ⟨(rdy.setEdge 6 { Edge.reset with state := .masking, retraining := true }), 6, by decide⟩,
    ⟨(rdy.setEdge 6 { Edge.reset with state := .masking, retraining := true }), 6, by decide⟩,
    ⟨(rdy.setEdge 6 { Edge.reset with state := .masking, retraining := true }), 6, by decide, by decide⟩,
    ⟨(rdy.setEdge 6 { Edge.reset with state := .opened }), 6, by decide, by decide, by decide⟩,
    ⟨(rdy.setEdge 6 { Edge.reset with state := .masking, retraining := true, asked := true, disagreed := 2 }), 6, by decide,
      by decide⟩⟩

/-- States and operands that meet the hypotheses of `Obligations.NarrowestWidthOfFallback`. -/
theorem witness_NarrowestWidthOfFallback :
    (∃ (s : State) (e : EdgeIx), (s.edge e.val).fallback = true) ∧
    (∃ (s : State) (e : EdgeIx) (g : Nat), (s.edge e.val).fallback = true ∧ (s.edge e.val).qtestLow = false ∧ g < 8) ∧
    (∃ (s : State) (d : BaseDie) (p : Port4) (e : Nat), portEdge d.val p = some e ∧ (edgeEnds e).1 = d.val ∧
      (s.base d.val).locked = false ∧ (s.edge e).state ≠ .opened) ∧
    (∃ (s : State) (e : EdgeIx) (g : Fin 8), ((s.edge e.val).groupState .up g.val).stopped = true ∧
      ((s.edge e.val).groupState .up g.val).clean = 0) :=
  ⟨⟨(rdy.setEdge 6 { Edge.reset with state := .masking, fallback := true }), 6, by decide⟩,
    ⟨(rdy.setEdge 6 { Edge.reset with state := .masking, fallback := true }), 6, 7, by decide, by decide, by decide⟩,
    ⟨State.reset, 0, .e, 0, by decide, by decide, by decide, by decide⟩,
    ⟨(rdy.setEdge 6 { Edge.reset with state := .opened, groupsUp := [(7, { GroupState.reset with stopped := true })] }), 6,
      7, by decide, by decide⟩⟩

/-- States and operands that meet the hypotheses of `Obligations.FlitsAcceptedOnlyInSequence`. -/
theorem witness_FlitsAcceptedOnlyInSequence :
    (∃ (s : State) (e : EdgeIx) (d : Dir) (g : Fin 8) (f : BitVec 576), (s.edge e.val).carries d g.val = true ∧
      flitCheck f = true ∧ flitKind f = 0 ∧ flitClass f ≤ 4) ∧
    (∃ (s : State) (e : EdgeIx) (d : Dir) (g : Fin 8) (f : BitVec 576), (s.edge e.val).carries d g.val = true ∧
      flitCheck f = false ∧ ((s.edge e.val).groupState d g.val).retries < 4) ∧
    (∃ (s : State) (e : EdgeIx) (d : Dir) (g : Fin 8), (s.edge e.val).carries d g.val = true ∧
      (s.edge e.val).fallback = false) ∧
    (∃ (s : State) (e : EdgeIx) (d : Dir) (g : Fin 8), (s.edge e.val).carries d g.val = true ∧
      ((s.edge e.val).groupState d g.val).retrying = true ∧ ((s.edge e.val).groupState d g.val).retries < 4) ∧
    (∃ (kind : Nat) (cls : Nat) (credit : Nat × Nat), kind < 4 ∧ cls < 8 ∧ credit.1 < 16 ∧ credit.2 < 4) ∧
    (∃ (q : GroupState), q.replay.length ≤ 256) :=
  ⟨⟨(rdy.setEdge 6 { Edge.reset with state := .opened }), 6, .up, 7, BitVec.ofNat 576 (crc32c 544 0).toNat, by decide,
      by decide +kernel, by decide +kernel, by decide +kernel⟩,
    ⟨(rdy.setEdge 6 { Edge.reset with state := .opened }), 6, .up, 7, BitVec.ofNat 576 ((crc32c 544 0).toNat + 1),
      by decide, by decide +kernel, by decide⟩,
    ⟨(rdy.setEdge 6 { Edge.reset with state := .opened }), 6, .up, 7, by decide, by decide⟩,
    ⟨(rdy.setEdge 6 { Edge.reset with state := .opened, groupsUp := [(7, { GroupState.reset with retrying := true, retries := 3 })] }),
      6, .up, 7, by decide, by decide, by decide⟩,
    ⟨1, 4, (9, 3), by decide, by decide, by decide, by decide⟩,
    ⟨GroupState.reset, by decide⟩⟩

/-- States and operands that meet the hypotheses of `Obligations.EngineSitesFollowDescriptors`. -/
theorem witness_EngineSitesFollowDescriptors :
    (∃ (s : State) (e : EngineIx), (s.site e.val).closed = false ∧ s.siteOn e.val = true) ∧
    (∃ (s : State) (e : EngineIx), (s.site e.val).closed = false ∧ (s.site e.val).configured = false ∧
      (s.site e.val).sideband = true) ∧
    (∃ (s : State) (e : EngineIx), (s.site e.val).closed = false ∧ (s.site e.val).configured = false) ∧
    (∃ (s : State) (e : EngineIx), (s.site e.val).closed = false ∧ (s.site e.val).configured = true ∧
      (s.site e.val).trained = false) :=
  ⟨⟨rdy, 7, by decide, by decide⟩,
    ⟨(rdy.setSite 7 { Site.reset with sideband := true }), 7, by decide, by decide, by decide⟩,
    ⟨State.reset, 7, by decide, by decide⟩,
    ⟨(rdy.setSite 7 { Site.reset with configured := true }), 7, by decide, by decide, by decide⟩⟩

/-- States and operands that meet the hypotheses of `Obligations.ResetQuiescesThenStartsAfresh`. -/
theorem witness_ResetQuiescesThenStartsAfresh :
    (∃ (s : State) (c : ResetCause), c ≠ .refclk ∧ s.faults.seqr.active = none) ∧
    (∃ (s : State) (c : ResetCause) (a : ResetCause), c ≠ .refclk ∧ s.faults.seqr.active = some a) ∧
    (∃ (s : State) (c : ResetCause), s.faults.seqr.active = some c ∧ s.faults.seqr.escalated = false) ∧
    (∃ (s : State) (c : ResetCause), s.faults.seqr.active = some c) ∧
    (∃ (s : State) (c : ResetCause), s.power.escalated = true ∧ s.faults.seqr.active = some c ∧
      s.faults.seqr.escalated = true) :=
  ⟨⟨rdy, .watchdog, by decide, by decide⟩,
    ⟨{ rdy with faults.seqr.active := some .watchdog }, .resetN, .watchdog, by decide, by decide⟩,
    ⟨{ rdy with faults.seqr.active := some .watchdog }, .watchdog, by decide, by decide⟩,
    ⟨{ rdy with faults.seqr.active := some .watchdog }, .watchdog, by decide⟩,
    ⟨{ rdy with faults.seqr.active := some .watchdog, faults.seqr.escalated := true, power.escalated := true }, .watchdog,
      by decide, by decide, by decide⟩⟩

/-- States and operands that meet the hypotheses of `Obligations.ResetInputsAndClockLosses`. -/
theorem witness_ResetInputsAndClockLosses :
    (∃ (s : State), s.power.railsUp = true) ∧
    (∃ (s : State), s.power.railsUp = true ∧ s.faults.seqr.active = none) ∧
    (∃ (s : State), s.keeper.rom = true) ∧
    (∃ (s : State), s.power.railsUp = true) ∧
    (∃ (s : State) (d : BaseDie), d ≠ 0 ∧ (s.base d.val).pllLocked = true) ∧
    (∃ (s : State), s.singleMode = false) ∧
    (∃ (s : State), s.singleMode = true ∧ s.power.railsUp = true ∧ s.faults.seqr.active = none) :=
  ⟨⟨State.reset, by decide⟩,
    ⟨rdy, by decide, by decide⟩,
    ⟨rdy, by decide⟩,
    ⟨State.reset, by decide⟩,
    ⟨rdy, 5, by decide, by decide⟩,
    ⟨rdy, by decide⟩,
    ⟨State.reset, by decide, by decide, by decide⟩⟩

/-- States and operands that meet the hypotheses of `Obligations.HeartbeatsAndWatchedUnits`. -/
theorem witness_HeartbeatsAndWatchedUnits :
    (∃ (s : State) (d : BaseDie), d ≠ 0 ∧ (s.latch d.val).running = true ∧ s.keeper.idore = true) ∧
    (∃ (s : State) (d : BaseDie), d ≠ 0 ∧ (s.latch d.val).loaded = true) ∧
    (∃ (s : State) (d : BaseDie), d ≠ 0 ∧ (s.latch d.val).running = true) ∧
    (∃ (s : State), s.keeper.statusWritten = true ∧ s.keeper.idore = true) ∧
    (∃ (s : State) (e : LedgerEntry), s.faults.uncommitted.find? (fun x => x.seq = e.seq) = some e ∧
      s.flash.partA.out = false ∧ s.flash.partB.out = false ∧ s.flash.partA.formatted = true ∧
      s.flash.partB.formatted = true ∧ ((s.faults.seqr.active = none ∨ s.faults.seqr.commits.contains e = true))) :=
  ⟨⟨(rdy.setLatch 5 { Latch.reset with running := true, loaded := true }), 5, by decide, by decide, by decide⟩,
    ⟨(rdy.setLatch 5 { Latch.reset with running := true, loaded := true }), 5, by decide, by decide⟩,
    ⟨(rdy.setLatch 5 { Latch.reset with running := true, loaded := true }), 5, by decide, by decide⟩,
    ⟨{ rdy with keeper.status := 0x2000FF00 }, by decide, by decide⟩,
    ⟨{ rdy with faults.uncommitted := [entry0] }, entry0, by decide, by decide, by decide, by decide, by decide, by decide⟩⟩

/-- States and operands that meet the hypotheses of `Obligations.FaultRecordsFromUnitToKeeper`. -/
theorem witness_FaultRecordsFromUnitToKeeper :
    (∃ (s : State) (c : Chan) (n : Nat), s.isPadlocked c = false ∧ (s.transient c n).2 = false) ∧
    (∃ (w : W64) (v : W32), critValue w = some v) ∧
    (∃ (s : State) (r : FaultRecord), s.faults.openRecs = [r] ∧ r.collector = 0 ∧ r.closed = false ∧ s.faults.log = [r] ∧
      r.cause = .critAbsent ∧ s.isPadlocked r.suspect = false) ∧
    (∃ (s : State) (r : FaultRecord), s.faults.sent = [r] ∧ s.keeper.idore = true ∧ s.faults.log = [] ∧
      s.faults.openRecs = [r] ∧ r.seq = none ∧ r.cls.val < 3 ∧ s.faults.queue = [] ∧ s.ops.rings = []) ∧
    (∃ (s : State) (n : W32) (rest : List W32) (r : FaultRecord), s.keeper.idore = true ∧ s.faults.queue = n :: rest ∧
      s.faults.log.find? (fun x => x.seq = some n) = some r ∧ s.faults.probes.contains r.suspect = false) ∧
    (∃ (s : State) (r : FaultRecord),
      s.faults.openRecs.find? (fun q => q.isKey r.collector r.suspect r.cause && !q.closed) = some r ∧ s.awaits r = false ∧
      s.faults.sent = []) ∧
    (∃ (s : State), s.faults.faultN.pulsing = true) :=
  ⟨⟨State.reset, stackChan 0, 1, by decide, by decide⟩,
    ⟨critWord 5, 5, by decide⟩,
    ⟨{ State.reset with faults.openRecs := [rec0], faults.log := [rec0] }, rec0, by decide, by decide, by decide, by decide,
      by decide, by decide⟩,
    ⟨{ rdy with faults.openRecs := [rec0], faults.sent := [rec0] }, rec0, by decide, by decide, by decide, by decide,
      by decide, by decide, by decide, by decide⟩,
    ⟨{ rdy with faults.queue := [7], faults.log := [{ rec0 with seq := some 7 }] }, 7, [], { rec0 with seq := some 7 },
      by decide, by decide, by decide, by decide⟩,
    ⟨{ rdy with faults.openRecs := [{ rec0 with action := .padlocked }] }, { rec0 with action := .padlocked }, by decide,
      by decide, by decide⟩,
    ⟨{ State.reset with faults.faultN.pulsing := true }, by decide⟩⟩

/-- States and operands that meet the hypotheses of `Obligations.StartTokensQueueThenStart`. -/
theorem witness_StartTokensQueueThenStart :
    (∃ (s : State) (k : StartTok) (i : Nat), s.physTum k.dest.die.val k.dest.ward.val k.dest.tum.val = .phys i ∧
      s.acceptsGen k.ctx k.gen = true ∧ (s.ward (wkey k.dest)).stale k.ctx k.gen = false ∧
      (s.ward (wkey k.dest)).completed.contains (k.ctx, k.opSerial) = false ∧ (s.tumbler (tkey k.dest)).startq.length < 4) ∧
    (∃ (s : State) (k : StartTok) (i : Nat), s.physTum k.dest.die.val k.dest.ward.val k.dest.tum.val = .phys i ∧
      s.findOp (serialDie k.opSerial).val k.ctx k.opSerial = none) ∧
    (∃ (s : State) (q : TumId) (k : StartTok) (rest : List StartTok), (s.tumbler (tkey q)).startq = k :: rest ∧
      (s.tumbler (tkey q)).resident = none ∧ (s.ward (wkey q)).inserting = false ∧ s.clocked (dieBase q.die.val) = true ∧
      (s.ward (wkey q)).completed.contains (k.ctx, k.opSerial) = false ∧
      s.written q.die.val q.ward.val k.ctx k.opSerial = true) ∧
    (∃ (s : State) (q : TumId) (image : W32) (r : Resident), (s.compute.images.any fun i => i.id = image) = true ∧
      (s.tumbler (tkey q)).resident = some r ∧ r.image = image) :=
  ⟨⟨(rdy.setContext 1 ctx0), tok0, 0, by decide, by decide, by decide, by decide, by decide⟩,
    ⟨rdy, tok0, 0, by decide, by decide⟩,
    ⟨(rdy.setTumbler 0 { Tumbler.reset with startq := [tok0] }), t0, tok0, [], by decide, by decide, by decide, by decide,
      by decide, by decide⟩,
    ⟨{ withRes rdy res0 with compute.images := [{ id := 0, bytes := [] }] }, t0, 0, res0, by decide, by decide, by decide⟩⟩

/-- States and operands that meet the hypotheses of `Obligations.StepsFireRunAndEnd`. -/
theorem witness_StepsFireRunAndEnd :
    (∃ (s : State) (q : TumId) (step : Fin 16) (loads : List LoadReq) (writes : List WriteReq) (touched : Option Nat) (r : Resident),
      (s.tumbler (tkey q)).resident = some r ∧ (s.tumbler (tkey q)).evaluates = true ∧
      (s.tumbler (tkey q)).nextStep = some step.val ∧ (r.step step.val).fits loads writes = true ∧
      (s.ward (wkey q)).stale r.ctx r.gen = false ∧ s.clocked (dieBase q.die.val) = true ∧
      s.refusedIn q r (r.step step.val) loads writes touched = none ∧ (∀ l ∈ loads, l.global = false)) ∧
    (∃ (s : State) (q : TumId) (work : List ArithOp) (beats : List Nat) (r : Resident) (i : Nat),
      (s.tumbler (tkey q)).resident = some r ∧ r.running = some i ∧ r.computing = true ∧
      s.clocked (dieBase q.die.val) = true ∧ (r.stepped = true ∨ s.inconsistent r = false) ∧
      reservedTouch ((work.map fun w => ArithOp.touches r.tensors w).flatten ++ beats.map fun a => (a, 64)) = none ∧
      (∀ p ∈ r.toIssue, p.global = false) ∧ (s.tumbler (tkey q)).writes.length + r.toIssue.length ≤ 32) ∧
    (∃ (s : State) (q : TumId) (r : Resident) (i : Nat), (s.tumbler (tkey q)).resident = some r ∧ r.running = some i ∧
      r.computing = true ∧ s.clocked (dieBase q.die.val) = true ∧ r.stepped = false ∧ s.inconsistent r = true ∧
      (s.ward (wkey q)).completed.contains (r.ctx, r.opSerial) = false ∧
      s.written q.die.val q.ward.val r.ctx r.opSerial = true) ∧
    (∃ (s : State) (q : TumId) (n : Nat) (p : LoadPart), (s.tumbler (tkey q)).loads[n]? = some p ∧ p.global = false ∧
      s.faults.insertions = [] ∧ (s.ward (wkey q)).owed = []) ∧
    (∃ (s : State) (q : TumId) (n : Nat) (p : WritePart),
      ((s.tumbler (tkey q)).writes.filter fun w => !w.global)[n]? = some p ∧
      (∀ r, (s.tumbler (tkey q)).resident = some r → r.toIssue = []) ∧ s.faults.insertions = [] ∧
      (s.ward (wkey q)).owed = []) :=
  ⟨⟨withRes rdy res0, t0, 0, [], [], some 0, res0, by decide, by decide, by decide, by decide, by decide, by decide,
      by decide, by decide⟩,
    ⟨withRes rdy { res0 with running := some 0, computing := true, stepped := true }, t0, [], [],
      { res0 with running := some 0, computing := true, stepped := true }, 0, by decide, by decide, by decide, by decide,
      by decide, by decide, by decide, by decide⟩,
    ⟨withRes rdy { res0 with running := some 0, computing := true, word := 1 <<< 224 }, t0,
      { res0 with running := some 0, computing := true, word := 1 <<< 224 }, 0, by decide, by decide, by decide, by decide,
      by decide, by decide, by decide, by decide⟩,
    ⟨(rdy.setTumbler 0 { Tumbler.reset with loads := [load0 false] }), t0, 0, load0 false, by decide, by decide, by decide,
      by decide⟩,
    ⟨(rdy.setTumbler 0 { Tumbler.reset with writes := [write0 false] }), t0, 0, write0 false, by decide, by decide,
      by decide, by decide⟩⟩

/-- States and operands that meet the hypotheses of `Obligations.TokensTravelAndCreditReturns`. -/
theorem witness_TokensTravelAndCreditReturns :
    (∃ (s : State) (q : TumId) (n : Fin 4) (tok : Token) (rest : List Token) (d : TumId) (w : Nat),
      (s.tumbler (tkey q)).outQueue n.val = tok :: rest ∧ tok.dst.tumbler? = some d ∧ wkey d ≠ wkey q ∧
      s.wardRemap d.die.val d.ward.val = .phys w) ∧
    (∃ (s : State) (q : TumId) (n : Fin 4) (tok : Token) (rest : List Token) (d : TumId) (i : Nat),
      (s.tumbler (tkey q)).outQueue n.val = tok :: rest ∧ tok.dst.tumbler? = some d ∧ wkey d = wkey q ∧
      tok.beats.length = tok.beatCount ∧ tok.beatCount ≤ 4 ∧ s.physTum d.die.val d.ward.val d.tum.val = .phys i ∧
      (s.ward (wkey d)).stale tok.ctx tok.gen = false ∧ (s.tumbler (tkey d)).expects tok.ctx tok.gen = true) ∧
    (∃ (s : State) (q : TumId) (n : Fin 4) (tok : Token) (rest : List Token) (d : TumId),
      (s.tumbler (tkey q)).outQueue n.val = tok :: rest ∧ tok.dst.tumbler? = some d ∧ wkey d ≠ wkey q ∧
      s.wardRemap d.die.val d.ward.val = .unserved) ∧
    (∃ (s : State) (tok : Token) (d : TumId) (src : TumId) (i : Nat), tok.kind = 0 ∧ tok.dst.tumbler? = some d ∧
      tok.src.tumbler? = some src ∧ tok.beats.length = tok.beatCount ∧ tok.beatCount ≤ 4 ∧
      s.physTum d.die.val d.ward.val d.tum.val = .phys i ∧ (s.ward (wkey d)).stale tok.ctx tok.gen = false ∧
      (s.tumbler (tkey d)).expects tok.ctx tok.gen = true) ∧
    (∃ (s : State) (tok : Token) (d : TumId) (src : TumId) (i : Nat), tok.kind = 0 ∧ tok.dst.tumbler? = some d ∧
      tok.src.tumbler? = some src ∧ tok.beats.length = tok.beatCount ∧ tok.beatCount ≤ 4 ∧
      s.physTum d.die.val d.ward.val d.tum.val = .phys i ∧ (s.tumbler (tkey d)).expects tok.ctx tok.gen = false) ∧
    (∃ (s : State) (tok : Token) (d : TumId) (r : Resident), tok.kind = 1 ∧ tok.dst.tumbler? = some d ∧
      (s.tumbler (tkey d)).resident = some r ∧ r.ctx = tok.ctx ∧ r.gen = tok.gen ∧ r.failed = none) :=
  ⟨⟨(rdy.setTumbler 0 { Tumbler.reset with outq := [(3, [afar0])] }), t0, 3, afar0, [], t9, 23, by decide, by decide,
      by decide, by decide⟩,
    ⟨(rdy.setTumbler 0 { Tumbler.reset with outq := [(3, [data0])], resident := some res0 }), t0, 3, data0, [], t0, 0,
      by decide, by decide, by decide, by decide, by decide, by decide, by decide, by decide⟩,
    ⟨{ (rdy.setTumbler 0 { Tumbler.reset with outq := [(3, [afar0])] }) with compute.wardRemap := [(wkey t9, some (critWord 0))] },
      t0, 3, afar0, [], t9, by decide, by decide, by decide, by decide⟩,
    ⟨withRes rdy res0, data0, t0, t0, 0, by decide, by decide, by decide, by decide, by decide, by decide, by decide,
      by decide⟩,
    ⟨rdy, data0, t0, t0, 0, by decide, by decide, by decide, by decide, by decide, by decide, by decide⟩,
    ⟨withRes rdy res0, { data0 with header := tokenHeader 1 0 tkCredit t0.toEnd 0 1 0 t0.toEnd }, t0, res0, by decide,
      by decide, by decide, by decide, by decide, by decide⟩⟩

/-- States and operands that meet the hypotheses of `Obligations.WardsCompleteDrainAndAbort`. -/
theorem witness_WardsCompleteDrainAndAbort :
    (∃ (s : State) (d : Die) (w : LWard) (c : CtxId) (op : W32) (gen : Gen),
      ((s.wardOps d.val w.val).find? fun o => o.1 = c && o.2.2 = op) = some (c, gen, op) ∧
      (∀ x ∈ s.wardTums d.val w.val, ∀ r ∈ x.resident, x.runs op c = true → odPerWard r.word ≤ ((s.wardTums d.val w.val).filter fun y => y.runs op c).length)
      ∧ ((s.wardTums d.val w.val).all fun x => !x.runs op c || (x.finished && x.outq.isEmpty)) = true ∧
      (s.ward (wardKey d.val w.val)).completed.contains (c, op) = false ∧ s.faults.insertions = [] ∧
      (s.ward (wardKey d.val w.val)).owed = []) ∧
    (∃ (s : State), s.faults.insertions = []) ∧
    (∃ (s : State) (d : Die) (w : LWard) (c : CtxId) (gen : Gen) (arg : BitVec 16),
      ((s.ward (wardKey d.val w.val)).draining.find? fun x => x.1 = c) = some (c, gen, arg) ∧ arg ≠ 0 ∧
      (∀ i < 64, ∀ r, (s.tumbler (tumKey d.val w.val i)).resident = some r → r.ctx = c → r.gen = gen)) ∧
    (∃ (s : State) (d : Die) (w : LWard) (c : CtxId) (op : W32), s.faults.insertions = [] ∧
      (s.ward (wardKey d.val w.val)).completed.contains (c, op) = false) :=
  ⟨⟨withRes rdy { res0 with program.steps := [] }, 0, 0, 1, 9, 0, by decide, by decide, by decide, by decide, by decide,
      by decide⟩,
    ⟨rdy, by decide⟩,
    ⟨(rdy.setWard 0 { Ward.reset with draining := [(1, 1, 1)] }), 0, 0, 1, 1, 1, by decide, by decide, by decide⟩,
    ⟨rdy, 0, 0, 1, 9, by decide, by decide⟩⟩

/-- States and operands that meet the hypotheses of `Obligations.WaitsAreProbedAndSparesTested`. -/
theorem witness_WaitsAreProbedAndSparesTested :
    (∃ (s : State) (q : TumId) (r : Resident) (i : Nat) (why : Lack), (s.tumbler (tkey q)).resident = some r ∧
      r.waitReported = false ∧ r.running = none ∧ r.failed = none ∧ (s.tumbler (tkey q)).nextStep = none ∧
      r.order.head? = some i ∧ (s.tumbler (tkey q)).lack (r.step i) = some why) ∧
    (∃ (s : State) (d : Die) (w : LWard) (p : Nat), s.physWard d.val w.val = some p ∧
      s.isPadlocked (wardChan d.val p) = false) ∧
    (∃ (s : State) (c : Chan), s.faults.probes.contains c = true) ∧
    (∃ (s : State) (c : Chan), s.faults.probes.contains c = true ∧ s.isPadlocked c = true ∧ s.ledgerTarget c = c) ∧
    (∃ (s : State) (c : Chan), s.faults.probes.contains c = true ∧ s.ledgerTarget c = c ∧
      (((∃ d < 12, ∃ p < 25, c = wardChan d p) ∨ (∃ k < 12, c = stackChan k) ∨ (∃ h < 18, c = lineChan h)))) ∧
    (∃ (s : State) (d : Die) (w : Fin 25) (p : Fin 68) (c : Chan) (l : Nat),
      (s.faults.spareTests.find? fun x => x.1 = tumblerChan d.val w.val p.val) = some (tumblerChan d.val w.val p.val, c) ∧
      s.logWard d.val w.val = some l) :=
  ⟨⟨withRes rdy { res0 with program.steps := [{ freeStep with needs := [1] }] }, t0,
      { res0 with program.steps := [{ freeStep with needs := [1] }] }, 0, .beats 0, by decide, by decide, by decide,
      by decide, by decide, by decide, by decide⟩,
    ⟨rdy, 11, 23, 23, by decide, by decide⟩,
    ⟨{ rdy with faults.probes := [wardChan 0 0] }, wardChan 0 0, by decide⟩,
    ⟨{ rdy with faults.probes := [wardChan 0 0], faults.padlocked := [wardChan 0 0] }, wardChan 0 0, by decide, by decide,
      by decide⟩,
    ⟨{ rdy with faults.probes := [wardChan 0 0] }, wardChan 0 0, by decide, by decide, by decide⟩,
    ⟨{ rdy with faults.spareTests := [(tumblerChan 0 0 64, tumblerChan 0 0 0)] }, 0, 0, 64, tumblerChan 0 0 0, 0, by decide,
      by decide⟩⟩

/-- States and operands that meet the hypotheses of `Obligations.DoorbellsHeadsAndClaims`. -/
theorem witness_DoorbellsHeadsAndClaims :
    (∃ (s : State) (c : CoreIx) (a : PAddr) (data : List Byte), s.coreSlot c a.toNat data.length = true) ∧
    (∃ (s : State) (c : CoreIx) (a : PAddr) (data : List Byte) (h : Nat) (o : Nat), s.coreSlot c a.toNat data.length = false
      ∧ s.place a.toNat = .cell h o ∧ s.isPadlocked (lineChan h) = false ∧ s.faults.openRecs.length < 64) ∧
    (∃ (v : W64), v.getLsbD 0 = true) :=
  ⟨⟨(rdy.setRing 0 { ring0 with owner := .core 0 }), 0, 0x020000000000, [1, 2], by decide⟩,
    ⟨rdy, 0, 0x020000000000, [1], 12, 0, by decide, by decide, by decide, by decide⟩,
    ⟨1, by decide⟩⟩

/-- States and operands that meet the hypotheses of `Obligations.RingEntriesReadAndComplete`. -/
theorem witness_RingEntriesReadAndComplete :
    (∃ (s : State) (d : BaseDie) (ring : RingIx), s.canRead (s.ring (ringKeyOf d ring)) = true ∧
      (∀ x ∈ (s.ring (ringKeyOf d ring)).live, x.phase ≠ .signal ∧ x.phase ≠ .barrier) ∧
      (s.headEntry (ringKeyOf d ring)).2 = false ∧ enOpcode (s.headEntry (ringKeyOf d ring)).1 = 0 ∧
      firstFailed (s.checkStage1 (s.ring (ringKeyOf d ring)) (s.headEntry (ringKeyOf d ring)).1 ((s.ring (ringKeyOf d ring)).slotAddr (ringKeyOf d ring) (s.ring (ringKeyOf d ring)).head.toNat)) = none) ∧
    (∃ (s : State) (d : BaseDie) (ring : RingIx), s.canRead (s.ring (ringKeyOf d ring)) = true ∧
      (s.headEntry (ringKeyOf d ring)).2 = false ∧ enOpcode (s.headEntry (ringKeyOf d ring)).1 = 1 ∧
      firstFailed (s.checkStage1 (s.ring (ringKeyOf d ring)) (s.headEntry (ringKeyOf d ring)).1 ((s.ring (ringKeyOf d ring)).slotAddr (ringKeyOf d ring) (s.ring (ringKeyOf d ring)).head.toNat)) = none) ∧
    (∃ (s : State) (d : BaseDie) (ring : RingIx) (h : Nat) (o : Nat), s.canRead (s.ring (ringKeyOf d ring)) = true ∧
      (s.ring (ringKeyOf d ring)).live = [] ∧ (s.headEntry (ringKeyOf d ring)).2 = false ∧
      enOpcode (s.headEntry (ringKeyOf d ring)).1 = 2 ∧
      firstFailed (s.checkStage1 (s.ring (ringKeyOf d ring)) (s.headEntry (ringKeyOf d ring)).1 ((s.ring (ringKeyOf d ring)).slotAddr (ringKeyOf d ring) (s.ring (ringKeyOf d ring)).head.toNat)) = none
      ∧ s.place (enFence (s.headEntry (ringKeyOf d ring)).1).toNat = .cell h o ∧ s.poisoned h o = false ∧ h ≠ 12 + d.val ∧
      o < 0x10000000000 - 8) ∧
    (∃ (s : State) (d : BaseDie) (ring : RingIx), s.canRead (s.ring (ringKeyOf d ring)) = true ∧
      (∀ x ∈ (s.ring (ringKeyOf d ring)).live, x.phase ≠ .signal ∧ x.phase ≠ .barrier) ∧
      (s.headEntry (ringKeyOf d ring)).2 = false ∧ enOpcode (s.headEntry (ringKeyOf d ring)).1 = 3 ∧
      firstFailed (s.checkStage1 (s.ring (ringKeyOf d ring)) (s.headEntry (ringKeyOf d ring)).1 ((s.ring (ringKeyOf d ring)).slotAddr (ringKeyOf d ring) (s.ring (ringKeyOf d ring)).head.toNat)) = none
      ∧ (s.load (enFence (s.headEntry (ringKeyOf d ring)).1).toNat 8).2 = false) ∧
    (∃ (s : State) (d : BaseDie) (ring : RingIx), s.canRead (s.ring (ringKeyOf d ring)) = true ∧
      (∀ x ∈ (s.ring (ringKeyOf d ring)).live, x.phase = .started) ∧ (s.headEntry (ringKeyOf d ring)).2 = false ∧
      enOpcode (s.headEntry (ringKeyOf d ring)).1 = 4 ∧
      firstFailed (s.checkStage1 (s.ring (ringKeyOf d ring)) (s.headEntry (ringKeyOf d ring)).1 ((s.ring (ringKeyOf d ring)).slotAddr (ringKeyOf d ring) (s.ring (ringKeyOf d ring)).head.toNat)) = none) ∧
    (∃ (s : State) (d : BaseDie) (ring : RingIx), s.canRead (s.ring (ringKeyOf d ring)) = true ∧
      (∀ x ∈ (s.ring (ringKeyOf d ring)).live, x.phase ≠ .signal ∧ x.phase ≠ .barrier) ∧
      (s.headEntry (ringKeyOf d ring)).2 = false ∧ 4 < enOpcode (s.headEntry (ringKeyOf d ring)).1) ∧
    (∃ (s : State) (k : Nat) (r : Ring) (e : RingEntry), s.ops.rings = [(k, r)] ∧ r.live = [e] ∧ e.phase = .wait ∧
      (s.load (enFence e.word).toNat 8).2 = false) :=
  ⟨⟨ringState 0, 0, 0, by decide, by decide, by decide, by decide, by decide⟩,
    ⟨ringState 1, 0, 0, by decide, by decide, by decide, by decide⟩,
    ⟨ringState 2, 0, 0, 13, 0x80000, by decide, by decide, by decide, by decide, by decide, by decide, by decide, by decide,
      by decide⟩,
    ⟨ringState 3, 0, 0, by decide, by decide, by decide, by decide, by decide, by decide⟩,
    ⟨ringState 4, 0, 0, by decide, by decide, by decide, by decide, by decide⟩,
    ⟨ringState 5, 0, 0, by decide, by decide, by decide, by decide⟩,
    ⟨liveState (live0 3 .wait), 0, (liveState (live0 3 .wait)).ring 0, live0 3 .wait, by decide, by decide, by decide,
      by decide⟩⟩

/-- States and operands that meet the hypotheses of `Obligations.OperatorsCheckedStartedCompleted`. -/
theorem witness_OperatorsCheckedStartedCompleted :
    (∃ (s : State) (d : BaseDie) (ring : RingIx) (e : RingEntry),
      ((s.ring (ringKeyOf d ring)).live.find? fun x => x.phase = .descriptor || decide (x.phase = .tensors)) = some e ∧
      e.phase = .descriptor ∧ s.poisonAt (enDesc e.word).toNat 128 = none ∧
      firstFailed (s.checkStage2 (s.ring (ringKeyOf d ring)) e.word (BitVec.ofNat 1024 (leNat (s.load (enDesc e.word).toNat 128).1)) (enDesc e.word).toNat) = none) ∧
    (∃ (s : State) (d : BaseDie) (ring : RingIx) (e : RingEntry) (f : Failed), (s.ring (ringKeyOf d ring)).live = [e] ∧
      e.phase = .descriptor ∧ s.poisonAt (enDesc e.word).toNat 128 = none ∧
      firstFailed (s.checkStage2 (s.ring (ringKeyOf d ring)) e.word (BitVec.ofNat 1024 (leNat (s.load (enDesc e.word).toNat 128).1)) (enDesc e.word).toNat) = some f) ∧
    (∃ (s : State) (d : BaseDie) (ring : RingIx) (e : RingEntry),
      ((s.ring (ringKeyOf d ring)).live.find? fun x => x.phase = .descriptor || decide (x.phase = .tensors)) = some e ∧
      e.phase = .tensors ∧ s.poisonAt (odTable e.desc).toNat (64 * (odInputs e.desc + odOutputs e.desc)) = none) ∧
    (∃ (s : State) (d : BaseDie) (ring : RingIx) (e : RingEntry) (q : TumId) (rest : List TumId),
      ((s.ring (ringKeyOf d ring)).live.find? fun x => decide (x.phase = .checked)) = some e ∧
      mayStart (s.ring (ringKeyOf d ring)).live e = true ∧ s.startedOn d.val < 256 ∧
      ((s.ring (ringKeyOf d ring)).live.filter fun x => match x.phase with | .starting _ _ | .started => true | _ => false).length < 16
      ∧ (∀ x ∈ e.placement.dies, Store.get none s.ops.locks x.val = none) ∧ e.placement.tumblers = q :: rest ∧
      Store.get 0 s.ops.startTaken (tkey q) < 4 ∧ (s.ward (wkey q)).tableFree (enCtx e.word) (enGen e.word) = true) ∧
    (∃ (s : State) (d : BaseDie) (ring : RingIx) (e : RingEntry) (x : Die) (k : Nat),
      ((s.ring (ringKeyOf d ring)).live.find? fun x => decide (x.phase = .checked)) = some e ∧ x ∈ e.placement.dies ∧
      Store.get none s.ops.locks x.val = some k) ∧
    (∃ (s : State), (∀ p ∈ s.ops.rings, ∀ e ∈ p.2.live, ∀ l n, e.phase ≠ .starting l n)) ∧
    (∃ (s : State) (d : Die) (w : LWard) (c : CtxId), (∀ p ∈ s.ops.rings, ∀ e ∈ p.2.live, ∀ l n, e.phase ≠ .starting l n) ∧
      ((s.wardTums d.val w.val).any fun x => x.holds c) = false) ∧
    (∃ (s : State) (p : BaseDie) (d : Die) (w : LWard) (c : CtxId) (op : W32) (k : Nat) (e : RingEntry),
      s.findOp p.val c op = some (k, e) ∧ (s.ring k).live = [e] ∧ e.phase = .started ∧ e.drainedFirst = [] ∧ e.fault = none
      ∧ e.tokens.contains (wardKey d.val w.val) = false) ∧
    (∃ (s : State) (p : BaseDie) (d : Die) (w : LWard) (c : CtxId) (op : W32) (st : Byte) (k : Nat) (e : RingEntry),
      s.findOp p.val c op = some (k, e) ∧ e.fault = none ∧ e.tokens.contains (wardKey d.val w.val) = false ∧ st ≠ 0) :=
  ⟨⟨descState, 0, 0, live0 1 .descriptor, by decide, by decide, by decide, by decide⟩,
    ⟨liveState (live0 1 .descriptor), 0, 0, live0 1 .descriptor, { status := 2, detail := 3, absent := some 0x80 },
      by decide, by decide, by decide, by decide⟩,
    ⟨liveState (live0 1 .tensors), 0, 0, live0 1 .tensors, by decide, by decide, by decide⟩,
    ⟨liveState { live0 1 .checked with placement.dies := [0] }, 0, 0, live0 1 .checked, t0, [], by decide, by decide,
      by decide, by decide, by decide, by decide, by decide, by decide⟩,
    ⟨{ liveState (live0 1 .checked) with ops.locks := [(0, some 64)] }, 0, 0, live0 1 .checked, 0, 64, by decide, by decide,
      by decide⟩,
    ⟨rdy, (by intro p hp; cases hp)⟩,
    ⟨rdy, 0, 0, 1, (by intro p hp; cases hp), by decide⟩,
    ⟨liveState (live0 1 .started), 0, 0, 0, 1, 9, 0, live0 1 .started, by decide, by decide, by decide, by decide,
      by decide, by decide⟩,
    ⟨liveState (live0 1 .started), 0, 0, 0, 1, 9, 0x84, 0, live0 1 .started, by decide, by decide, by decide, by decide⟩⟩

/-- States and operands that meet the hypotheses of `Obligations.TeardownDrainsThenScrubs`. -/
theorem witness_TeardownDrainsThenScrubs :
    (∃ (s : State) (d : BaseDie) (c : CtxId) (td : Teardown), (s.context c.val).teardown = some td ∧
      (s.context c.val).state = .draining ∧ td.named.contains d = true ∧ td.stopped.contains d = false ∧
      ((s.ringsOf c).any fun k => k / 64 = d.val && (s.ring k).live.any fun e => match e.phase with | .starting _ _ => true | _ => false) = false) ∧
    (∃ (s : State) (p : BaseDie) (d : Die) (w : LWard) (c : CtxId) (td : Teardown), (s.context c.val).teardown = some td ∧
      td.changed = true ∧ td.named.contains p = true ∧ td.reported.contains p = false ∧
      (s.drainedAt p.val c).contains (wardKey d.val w.val) = false) ∧
    (∃ (s : State) (c : CtxId) (td : Teardown), (s.context c.val).teardown = some td ∧ td.changed = true ∧
      (∀ d, s.faults.capacity.wardCount d ≤ 24)) ∧
    (∃ (s : State) (c : CtxId) (td : Teardown), (s.context c.val).teardown = some td ∧ td.changed = true ∧
      td.expired = false) ∧
    (∃ (s : State) (c : CtxId) (td : Teardown), (s.context c.val).teardown = some td ∧ (s.context c.val).state = .draining ∧
      td.changed = true ∧ (td.named.all fun d => td.reported.contains d) = true ∧ td.fences = []) ∧
    (∃ (s : State) (c : CtxId) (td : Teardown), (s.context c.val).teardown = some td ∧ (s.context c.val).state = .draining ∧
      td.changed = true ∧ (td.named.all fun d => td.reported.contains d) = true ∧ td.fences ≠ [] ∧ td.expired = true) ∧
    (∃ (s : State) (c : CtxId), (s.context c.val).state = .scrubbing) :=
  ⟨⟨drainState { td0 with changed := false }, 0, 1, { td0 with changed := false }, by decide, by decide, by decide,
      by decide, by decide⟩,
    ⟨drainState td0, 0, 0, 0, 1, td0, by decide, by decide, by decide, by decide, by decide⟩,
    ⟨drainState td0, 1, td0, by decide, by decide, fun _ => Nat.le_refl _⟩,
    ⟨drainState td0, 1, td0, by decide, by decide, by decide⟩,
    ⟨drainState { td0 with reported := [0] }, 1, { td0 with reported := [0] }, by decide, by decide, by decide, by decide,
      by decide⟩,
    ⟨drainState { td0 with reported := [0], fences := [3], expired := true }, 1,
      { td0 with reported := [0], fences := [3], expired := true }, by decide, by decide, by decide, by decide, by decide,
      by decide⟩,
    ⟨(rdy.setContext 1 { ctx0 with state := .scrubbing, gen := 1, teardown := some td0 }), 1, by decide⟩⟩

/-- States and operands that meet the hypotheses of `Obligations.HomesAnswerReadsWritesAtomics`. -/
theorem witness_HomesAnswerReadsWritesAtomics :
    (∃ (s : State) (a : PAddr) (n : Nat), s.poisonLines a.toNat n = [] ∧ s.homesRun a.toNat n = true) ∧
    (∃ (s : State) (a : PAddr) (n : Nat), s.homesRun a.toNat n = false) ∧
    (∃ (s : State) (a : PAddr) (data : List Byte), s.homesRun a.toNat data.length = false) ∧
    (∃ (s : State) (op : AtomicOp) (a : PAddr), s.homesRun a.toNat (atomicBytes op) = false) ∧
    (∃ (s : State) (a : PAddr) (n : Nat), s.poisonLines a.toNat n ≠ [] ∧ s.homesRun a.toNat n = true) ∧
    (∃ (s : State) (w : Writer) (a : PAddr) (data : List Byte) (p : Bool) (h : Nat) (o : Nat),
      (∀ x, writerGen w = some x → s.acceptsGen x.1 x.2 = true) ∧ s.protectedAt w a.toNat data.length = none ∧
      s.homesRun a.toNat data.length = true ∧ data ≠ [] ∧ a.toNat % 64 + data.length ≤ 64 ∧ s.place a.toNat = .cell h o ∧
      o + data.length ≤ 0x10000000000 ∧ ((data.length = 64 ∨ (p = false ∧ s.poisoned h o = false)))) ∧
    (∃ (s : State) (w : Writer) (c : CtxId) (g : Gen), writerGen w = some (c, g) ∧ s.acceptsGen c g = false) ∧
    (∃ (s : State) (r : Reader) (op : AtomicOp) (a : PAddr) (h : Nat) (o : Nat), a.toNat % atomicBytes op = 0 ∧
      s.place a.toNat = .cell h o ∧ s.poisoned h o = false ∧ o + 8 ≤ 0x10000000000 ∧
      s.homesRun a.toNat (atomicBytes op) = true ∧ s.protectedAt (s.atomicWriter r) a.toNat (atomicBytes op) = none) ∧
    (∃ (s : State) (r : Reader) (op : AtomicOp) (a : PAddr) (h : Nat) (b : Nat), a.toNat % atomicBytes op = 0 ∧
      s.poisonLines a.toNat (atomicBytes op) = [] ∧ s.homesRun a.toNat (atomicBytes op) = true ∧
      s.protectedAt (s.atomicWriter r) a.toNat (atomicBytes op) = some (h, b) ∧ s.isPadlocked (lineChan h) = false ∧
      s.faults.openRecs.length < 64) ∧
    (∃ (s : State) (c : CoreIx) (a : PAddr) (n : Nat) (w : Option (List Byte)), (s.core c.val).running = true ∧
      coreLocal a.toNat = false ∧
      (s.core c.val).ctxs.any (fun x => inRegions (s.context x.val).regions a.toNat ((w.map List.length).getD n)) = true ∧
      s.badPlace a.toNat ((w.map List.length).getD n) = none) ∧
    (∃ (s : State) (c : CoreIx) (a : PAddr) (n : Nat), (s.core c.val).running = true ∧ coreLocal a.toNat = false ∧
      s.coreRing c a.toNat n = false ∧
      (s.core c.val).ctxs.any (fun x => inRegions (s.context x.val).regions a.toNat n) = false) :=
  ⟨⟨rdy, 0, 64, by decide, by decide⟩,
    ⟨(rdy.setBase 0 BaseState.reset), 0, 64, by decide⟩,
    ⟨(rdy.setBase 0 BaseState.reset), 0, [1], by decide⟩,
    ⟨(rdy.setBase 0 BaseState.reset), .addU64, 0, by decide⟩,
    ⟨{ rdy with mem.poison := [(0, true)] }, 0, 1, by decide, by decide⟩,
    ⟨rdy, .keeper, 0xFC0, List.replicate 64 7, true, 0, 0xFC0, (fun _ h => nomatch h), by decide, by decide, by decide,
      by decide, by decide, by decide, by decide⟩,
    ⟨(rdy.setContext 1 { ctx0 with gen := 1 }), .tumbler t0 1 0 9, 1, 0, by decide, by decide⟩,
    ⟨rdy, .keeper, .addU64, 8, 0, 8, by decide, by decide, by decide, by decide, by decide, by decide⟩,
    ⟨rdy, .host .a, .addU64, 0x020000000000, 12, 0x020000000000, by decide, by decide, by decide, by decide, by decide,
      by decide⟩,
    ⟨((rdy.setContext 1 ctx0).setCore 0 { AppCore.reset with running := true, ctxs := [1] }), 0, 0, 8, none, by decide,
      by decide, by decide, by decide⟩,
    ⟨((rdy.setContext 1 ctx0).setCore 0 { AppCore.reset with running := true, ctxs := [1] }), 0, 0x1000, 8, by decide,
      by decide, by decide, by decide⟩⟩

/-- States and operands that meet the hypotheses of `Obligations.StacksPatrolRefreshAndRepair`. -/
theorem witness_StacksPatrolRefreshAndRepair :
    (∃ (s : State) (k : StackIx), (s.stack k.val).trained = true ∧ (s.stack k.val).padlocked = false ∧
      Store.get false s.mem.patrolOff (k.val / 2) = false ∧
      (∀ l, (s.stack k.val).dataLine (s.stack k.val).patrol = some l → s.poisoned k.val (64 * l) = false)) ∧
    (∃ (s : State) (k : StackIx), (s.stack k.val).trained = true ∧ (s.stack k.val).padlocked = false ∧
      Store.get false s.mem.patrolOff (k.val / 2) = false ∧ (s.stack k.val).patrol / 1024 < 770048 ∧
      Store.get none (s.stack k.val).retired ((s.stack k.val).patrol / 1024) = none ∧
      s.poisoned k.val (64 * (s.stack k.val).patrol) = false) ∧
    (∃ (s : State) (k : StackIx) (page : BitVec 20) (j : Nat), Store.get none (s.stack k.val).copying page.toNat = some j) ∧
    (∃ (s : State) (k : StackIx) (pc : Fin 64), (s.stack k.val).eyeTests.contains pc.val = true) :=
  ⟨⟨rdy, 11, by decide, by decide, by decide, by decide⟩,
    ⟨rdy, 11, by decide, by decide, by decide, by decide, by decide, by decide⟩,
    ⟨(rdy.setStack 11 { Stack.reset with copying := [(9, some 3)] }), 11, 9, 3, by decide⟩,
    ⟨(rdy.setStack 11 { Stack.reset with eyeTests := [63] }), 11, 63, by decide⟩⟩

/-- States and operands that meet the hypotheses of `Obligations.RingsLockReleaseAndSearch`. -/
theorem witness_RingsLockReleaseAndSearch :
    (∃ (s : State) (r : RingId),
      let d := decide (r.kind = .drop); let k := ringKey r.fiber.val r.slot.val d; ((s.engine r.engine.val).ring k).state = .locked) ∧
    (∃ (s : State) (r : RingId),
      let d := decide (r.kind = .drop); let k := ringKey r.fiber.val r.slot.val d; (((s.engine r.engine.val).ring k).state = .sweeping ∨ ((s.engine r.engine.val).ring k).state = .searching)) ∧
    (∃ (s : State) (r : RingId),
      let d := decide (r.kind = .drop); let k := ringKey r.fiber.val r.slot.val d; (((s.engine r.engine.val).ring k).state = .sweeping ∨ ((s.engine r.engine.val).ring k).state = .searching)) ∧
    (∃ (s : State) (r : RingId), let k := ringKey r.fiber.val r.slot.val true; r.kind = .drop ∧
      ((s.engine r.engine.val).ring k).state = .waiting) ∧
    (∃ (s : State) (r : RingId),
      let k := ringKey r.fiber.val r.slot.val (decide (r.kind = .drop)); ((s.engine r.engine.val).ring k).state = .locked ∧
      ((s.engine r.engine.val).ring k).releases < 2) ∧
    (∃ (s : State) (r : RingId) (j : Nat),
      let k := ringKey r.fiber.val r.slot.val (decide (r.kind = .drop)); ((s.engine r.engine.val).ring k).state ≠ .permanent
      ∧ ((s.engine r.engine.val).ring k).segment < 3 ∧ j < 3 ∧ j ≠ ((s.engine r.engine.val).ring k).segment ∧
      ((s.engine r.engine.val).ring k).badSegments.contains j = false) :=
  ⟨⟨ringOf .locked, ⟨0, 8, 17, .drop⟩, by decide⟩,
    ⟨ringOf .searching, ⟨0, 8, 17, .drop⟩, by decide⟩,
    ⟨ringOf .searching, ⟨0, 8, 17, .drop⟩, by decide⟩,
    ⟨ringOf .waiting, ⟨0, 8, 17, .drop⟩, by decide⟩,
    ⟨ringOf .locked, ⟨0, 8, 17, .drop⟩, by decide⟩,
    ⟨ringOf .locked, ⟨0, 8, 17, .drop⟩, 1, by decide⟩⟩

/-- States and operands that meet the hypotheses of `Obligations.FeedsPublishedAndJudged`. -/
theorem witness_FeedsPublishedAndJudged :
    (∃ (s : State) (e : EngineIx) (w : W32),
      let d := field w 24 8; let f := Store.get Feed.reset (s.engine e.val).feeds d; d < 12 ∧
      (dieEngines d).contains e.val = true ∧ field w 0 16 ≤ 4000 ∧
      (∀ q, f.seq = some q → (BitVec.ofNat 8 (field w 16 8) - q).toNat ≤ 2)) ∧
    (∃ (s : State) (e : EngineIx) (w : W32),
      let d := field w 24 8; let f := Store.get Feed.reset (s.engine e.val).feeds d; d < 12 ∧
      (dieEngines d).contains e.val = true ∧
      ((4000 < field w 0 16 ∨ ∃ q, f.seq = some q ∧ 2 < (BitVec.ofNat 8 (field w 16 8) - q).toNat))) ∧
    (∃ (e : EngineIx) (d : Die), (dieEngines d.val).contains e.val = true) :=
  ⟨⟨rdy, 0, 0x00010FA0, by decide⟩,
    ⟨rdy, 0, 4001, by decide⟩,
    ⟨0, 0, by decide⟩⟩

/-- States and operands that meet the hypotheses of `Obligations.LasersFadeMigrateAndRetire`. -/
theorem witness_LasersFadeMigrateAndRetire :
    (∃ (s : State) (l : LinkIx), (s.link l.val).state = .active) ∧
    (∃ (s : State) (e : EngineIx) (k : LaserIx) (c : FadeClass) (sl : Nat) (tn : Option Nat), c ≠ .failed ∧
      s.quiet e.val = false ∧ ((s.engine e.val).laser k.val).lit = true ∧ ((s.engine e.val).laser k.val).retired = false ∧
      (s.engine e.val).migrations = [] ∧
      s.chooseSlot e.val (s.fibersOn e.val (((s.engine e.val).laserSlot k.val).getD k.val)) = some (sl, tn)) ∧
    (∃ (s : State) (e : EngineIx) (k : LaserIx) (sl : Nat) (tn : Option Nat), s.quiet e.val = true ∧
      ((s.engine e.val).laser k.val).lit = true ∧ ((s.engine e.val).laser k.val).retired = false ∧
      (s.engine e.val).migrations = [] ∧
      s.chooseSlot e.val (s.fibersOn e.val (((s.engine e.val).laserSlot k.val).getD k.val)) = some (sl, tn)) ∧
    (∃ (s : State) (e : EngineIx) (k : LaserIx) (m : Migration), (s.engine e.val).migrations = [m] ∧ m.laser = k.val ∧
      m.begun = false ∧ (∀ x, m.tunable = some x → 16 ≤ x) ∧ (m.cls = .scheduled → (s.engine e.val).tuning = false)) ∧
    (∃ (s : State) (e : EngineIx), (∀ m ∈ (s.engine e.val).migrations, m.cls = .scheduled) ∧ (s.engine e.val).tuning = true) ∧
    (∃ (s : State) (e : EngineIx) (k : LaserIx) (m : Migration) (f : Int), (s.engine e.val).migrations = [m] ∧
      m.tunable = some k.val ∧ m.begun = true ∧ m.ledgered = false ∧ -10 ≤ f ∧ f ≤ 10) ∧
    (∃ (s : State) (l : LinkIx) (i : LaneIx) (m : Migration) (p : MigFiber) (n : Nat),
      (s.engine (l.val / 8)).migrations = [m] ∧ m.ledgered = true ∧ m.fibers = [p] ∧ p.fiber = s.linkFiber l.val ∧
      p.lane = i.val ∧ p.stage = .offered n) ∧
    (∃ (s : State) (e : EngineIx) (k : LaserIx) (m : Migration),
      ((s.engine e.val).migrations.find? fun x => x.laser = k.val && x.begun && !x.single) = some m) ∧
    (∃ (s : State) (e : EngineIx) (k : LaserIx), ((s.engine e.val).laser k.val).lit = true) :=
  ⟨⟨linkState link0, 0, by decide⟩,
    ⟨fadeState, 0, 0, .urgent, 16, some 16, by decide, by decide, by decide, by decide, by decide, by decide⟩,
    ⟨engState { Engine.reset with lasers := [(0, { Laser.reset with lit := true })] }, 0, 0, 16, some 16, by decide,
      by decide, by decide, by decide, by decide⟩,
    ⟨engState { Engine.reset with migrations := [mig0] }, 0, 0, mig0, by decide, by decide, by decide, by decide, by decide⟩,
    ⟨engState { Engine.reset with rings := [(0, { OptRing.reset with state := .searching })], migrations := [{ mig0 with cls := .scheduled }] },
      0, by decide, by decide⟩,
    ⟨engState { Engine.reset with migrations := [{ mig0 with begun := true }] }, 0, 16, { mig0 with begun := true }, 10,
      by decide, by decide, by decide, by decide, by decide, by decide⟩,
    ⟨engState { Engine.reset with migrations := [{ mig0 with begun := true, ledgered := true }] }, 0, 0,
      { mig0 with begun := true, ledgered := true }, { fiber := 0, lane := 0, stage := .offered 1 }, 1, by decide,
      by decide, by decide, by decide, by decide, by decide⟩,
    ⟨engState { Engine.reset with migrations := [{ mig0 with begun := true }] }, 0, 0, { mig0 with begun := true },
      by decide⟩,
    ⟨engState { Engine.reset with lasers := [(17, { Laser.reset with lit := true })] }, 0, 17, by decide⟩⟩

/-- States and operands that meet the hypotheses of `Obligations.OffersComparedAndAnswered`. -/
theorem witness_OffersComparedAndAnswered :
    (∃ (s : State) (l : LinkIx) (i : LaneIx) (sl : Nat),
      let e := l.val / 8; let f := s.linkFiber l.val; ((s.engine e).offers.find? fun o => o.1 = f && decide (o.2.1 = i.val)) = some (f, i.val, sl)) ∧
    (∃ (s : State) (l : LinkIx) (i : LaneIx) (b : SlotIx) (m : Migration) (p : MigFiber) (r : MigFiber),
      let e := l.val / 8; let f := s.linkFiber l.val; (s.engine e).migrations = [m] ∧ m.slot = b.val ∧ m.ledgered = true ∧
      m.fibers = [p, r] ∧ p.fiber = f ∧ p.lane = i.val ∧ p.stage = .offered 1 ∧ r.fiber ≠ f ∧ r.stage = .offered 1) :=
  ⟨⟨engState { Engine.reset with offers := [(0, 0, 16)] }, 0, 0, 16, by decide⟩,
    ⟨engState { Engine.reset with migrations := [mig2] }, 0, 0, 16, mig2, { fiber := 0, lane := 0, stage := .offered 1 },
      { fiber := 1, lane := 0, stage := .offered 1 }, by decide⟩⟩

/-- States and operands that meet the hypotheses of `Obligations.FibersAndCartridges`. -/
theorem witness_FibersAndCartridges :
    (∃ (s : State) (l : LinkIx) (tx : List LaneMargin),
      (((s.link l.val).state = .optical ∨ (s.link l.val).state = .waiting ∨ (s.link l.val).state = .down)) ∧
      ((s.unmargined (l.val / 8) (s.linkFiber l.val) = true ∨ failingLanes tx = []))) ∧
    (∃ (s : State) (l : LinkIx) (tx : List LaneMargin) (i : Nat),
      let e := l.val / 8; let f := s.linkFiber l.val; (((s.link l.val).state = .optical ∨ (s.link l.val).state = .waiting ∨ (s.link l.val).state = .down))
      ∧ s.unmargined e f = false ∧ failingLanes tx = [i] ∧ (s.engine e).dropped.contains (laneKey f false i) = false) ∧
    (∃ (n : Nat), n < 12) ∧
    (∃ (s : State) (e : EngineIx) (f : FiberIx) (n : Nat), 12 ≤ n ∧ (s.engine e.val).deadFibers.contains f.val = false) ∧
    (∃ (s : State) (e : EngineIx) (f : FiberIx), (s.engine e.val).shut.contains f.val = true ∧
      (s.engine e.val).idleF8 f.val = false) ∧
    (∃ (s : State) (e : EngineIx) (f : FiberIx), (s.engine e.val).idleF8 f.val = false) ∧
    (∃ (s : State) (e : EngineIx) (f : FiberIx), (s.engine e.val).idleF8 f.val = true) ∧
    (∃ (s : State) (c : Fin 2), (s.cart c.val).present = true) ∧
    (∃ (s : State) (c : Fin 2), (s.cart c.val).present = false) ∧
    (∃ (s : State) (c : Fin 2), (s.cart c.val).present = true ∧ (s.cart c.val).overtemp = false) :=
  ⟨⟨linkState { link0 with state := .waiting }, 0, goodMargins, by decide, by decide⟩,
    ⟨linkState { link0 with state := .waiting }, 0, oneBadMargin, 15, by decide⟩,
    ⟨11, by decide⟩,
    ⟨State.reset, 7, 7, 12, by decide, by decide⟩,
    ⟨engState { Engine.reset with shut := [7] }, 0, 7, by decide, by decide⟩,
    ⟨engState { Engine.reset with shut := [7] }, 0, 7, by decide⟩,
    ⟨engState { Engine.reset with shut := [8] }, 0, 8, by decide⟩,
    ⟨State.reset, 1, by decide⟩,
    ⟨{ State.reset with optics.cart1.present := false }, 1, by decide⟩,
    ⟨State.reset, 1, by decide, by decide⟩⟩

/-- States and operands that meet the hypotheses of `Obligations.UnitsAcceptedInOrder`. -/
theorem witness_UnitsAcceptedInOrder :
    (∃ (s : State) (l : LinkIx) (u : FlowUnit) (tag : Bool), (s.link l.val).state = .active ∧ uKind (unitHead u) = 0 ∧
      checks u ((s.link l.val).e.setWidth 16) = true ∧ malformed (unitHead u) = false ∧
      (uEnc (unitHead u) = true → tag = true ∧ ((s.link l.val).rxKey (uSlot (unitHead u))).isSome = true)) ∧
    (∃ (s : State) (l : LinkIx) (u : FlowUnit), (s.link l.val).state = .active ∧
      ((uKind (unitHead u) = 1 ∨ uKind (unitHead u) = 2)) ∧ checks u 0xF000 = true ∧ malformed (unitHead u) = false) ∧
    (∃ (s : State) (l : LinkIx) (u : FlowUnit) (tag : Bool), (s.link l.val).state = .active ∧
      (((uKind (unitHead u) = 0 ∧ checks u ((s.link l.val).e.setWidth 16) = false) ∨ (uKind (unitHead u) ≠ 0 ∧ checks u 0xF000 = false) ∨ uKind (unitHead u) = 3 ∨ malformed (unitHead u) = true ∨ (uKind (unitHead u) = 0 ∧ uEnc (unitHead u) = true ∧ (tag = false ∨ ((s.link l.val).rxKey (uSlot (unitHead u))).isNone = true))))) :=
  ⟨⟨linkState link0, 0, unitOf 0 0, true, by decide, by decide, by decide +kernel, by decide, by decide⟩,
    ⟨linkState link0, 0, unitOf (1 <<< 124) 0xF000, by decide, by decide, by decide +kernel, by decide⟩,
    ⟨linkState link0, 0, { bytes := [] }, true, by decide, by decide⟩⟩

/-- States and operands that meet the hypotheses of `Obligations.NaksReplayAndAcksGoOut`. -/
theorem witness_NaksReplayAndAcksGoOut :
    (∃ (s : State) (l : LinkIx) (q : BitVec 12), (s.link l.val).state = .active ∧ (s.link l.val).inWindow q = false) ∧
    (∃ (s : State) (l : LinkIx) (q : BitVec 12), (s.link l.val).state = .active ∧ (s.link l.val).inWindow q = true) ∧
    (∃ (s : State) (l : LinkIx) (q : BitVec 12) (u : TxUnit) (us : List TxUnit), (s.link l.val).state = .active ∧
      (s.link l.val).inWindow q = true ∧ q ≠ (s.link l.val).n ∧ (s.link l.val).naks < 8 ∧
      (s.link l.val).replay.drop (q - (s.link l.val).a).toNat = u :: us) ∧
    (∃ (s : State) (l : LinkIx) (q : BitVec 12), (s.link l.val).state = .active ∧ (s.link l.val).inWindow q = true ∧
      q ≠ (s.link l.val).n ∧ (s.link l.val).naks = 8 ∧ (s.link l.val).nakFrom = q) ∧
    (∃ (s : State) (l : LinkIx), (s.link l.val).state = .active ∧ (s.link l.val).nakSent = true) ∧
    (∃ (s : State) (l : LinkIx), (s.link l.val).state = .active ∧ (s.link l.val).timing = true) ∧
    (∃ (s : State) (l : LinkIx), (s.link l.val).state = .active) ∧
    (∃ (s : State) (l : LinkIx), (s.link l.val).state = .active ∧ (s.link l.val).encrypt = true ∧ (s.link l.val).queue = []
      ∧ (s.link l.val).moved = false ∧ (s.link l.val).open_ < 1024 ∧ ((s.link l.val).permit 0).isSome = true) ∧
    (∃ (s : State) (l : LinkIx), (s.link l.val).state = .active) ∧
    (∃ (s : State) (l : LinkIx), (s.link l.val).state ≠ .active) :=
  ⟨⟨linkState link0, 0, 1, by decide, by decide⟩,
    ⟨linkState link0, 0, 0, by decide, by decide⟩,
    ⟨linkState { link0 with n := 1, replay := [unit0] }, 0, 0, unit0, [], by decide, by decide, by decide, by decide,
      by decide⟩,
    ⟨linkState { link0 with n := 1, replay := [unit0], naks := 8 }, 0, 0, by decide, by decide, by decide, by decide,
      by decide⟩,
    ⟨linkState { link0 with nakSent := true }, 0, by decide, by decide⟩,
    ⟨linkState { link0 with timing := true }, 0, by decide, by decide⟩,
    ⟨(rdy.setLink 63 link0), 63, by decide⟩,
    ⟨linkState { link0 with encrypt := true }, 0, by decide, by decide, by decide, by decide, by decide, by decide⟩,
    ⟨linkState link0, 0, by decide⟩,
    ⟨State.reset, 0, by decide⟩⟩

/-- States and operands that meet the hypotheses of `Obligations.TrainingAgreesOrStartsAfresh`. -/
theorem witness_TrainingAgreesOrStartsAfresh :
    (∃ (s : State) (l : LinkIx) (tx : BitVec 16) (rx : BitVec 16), (s.link l.val).state = .active ∧
      ¬((s.link l.val).txLanes = tx ∧ (s.link l.val).rxLanes = rx)) ∧
    (∃ (s : State) (l : LinkIx), (s.link l.val).state = .active) ∧
    (∃ (s : State) (l : LinkIx) (m : TrainMsg), m.ok = true ∧ (s.link l.val).trains = true ∧
      m.serial ≠ Store.get 0 s.keeper.serials 0 ∧ m.encrypt = (s.link l.val).encrypt ∧
      (m.encrypt = true → m.keyIds = (s.link l.val).keyIds.reverse) ∧ rtuOf m.rttNs ≤ 768 ∧
      4 ≤ (setBits ((s.link l.val).txLanes &&& m.rxMask)).length ∧
      4 ≤ (setBits ((s.link l.val).rxLanes &&& m.txMask)).length) ∧
    (∃ (m : TrainMsg), m.ok = false) ∧
    (∃ (s : State) (l : LinkIx) (o : OpenMsg) (m : TrainMsg), o.ok = true ∧ (s.link l.val).train = some m ∧
      (s.link l.val).trains = true ∧ (s.link l.val).leader = false) ∧
    (∃ (s : State) (l : LinkIx) (o : OpenMsg) (p : OpenMsg), p.ok = true ∧ (s.link l.val).openSent = some o ∧
      (s.link l.val).trains = true ∧ (s.link l.val).leader = true) ∧
    (∃ (s : State) (l : LinkIx), (s.link l.val).trains = true ∧ (s.link l.val).train.isSome = true ∧
      (s.link l.val).disagreed < 2) ∧
    (∃ (s : State) (l : LinkIx), ((s.link l.val).state = .waiting ∨ (s.link l.val).state = .retrain)) ∧
    (∃ (s : State) (l : LinkIx), (s.link l.val).state = .down) ∧
    (∃ (s : State) (l : LinkIx), (s.link l.val).state = .retrain) ∧
    (∃ (s : State) (l : LinkIx), (s.link l.val).state = .active) ∧
    (∃ (s : State) (l : LinkIx), (s.link l.val).state = .waiting ∧ (s.link l.val).waitReported = false) :=
  ⟨⟨linkState link0, 0, 0xFFFF, 0xFFF, by decide, by decide⟩,
    ⟨linkState link0, 0, by decide⟩,
    ⟨linkState { link0 with state := .waiting }, 0, train0, by decide, by decide, by decide, by decide, by decide,
      by decide, by decide, by decide⟩,
    ⟨{ train0 with ok := false }, by decide⟩,
    ⟨linkState { link0 with state := .waiting, train := some train0 }, 0, open0, train0, by decide, by decide, by decide,
      by decide⟩,
    ⟨linkState { link0 with state := .waiting, train := some train0, leader := true, openSent := some open0 }, 0, open0,
      open0, by decide, by decide, by decide, by decide⟩,
    ⟨linkState { link0 with state := .waiting, train := some train0, disagreed := 1 }, 0, by decide, by decide, by decide⟩,
    ⟨linkState { link0 with state := .waiting }, 0, by decide⟩,
    ⟨linkState { link0 with state := .down }, 0, by decide⟩,
    ⟨linkState { link0 with state := .retrain }, 0, by decide⟩,
    ⟨linkState { link0 with failed := 1 }, 0, by decide⟩,
    ⟨linkState { link0 with state := .waiting }, 0, by decide, by decide⟩⟩

/-- States and operands that meet the hypotheses of `Obligations.DownLinksMoveOrHoldAndKeysRotate`. -/
theorem witness_DownLinksMoveOrHoldAndKeysRotate :
    (∃ (s : State) (l : LinkIx), (s.link l.val).state = .down ∧ (s.link l.val).moved = false ∧ (s.link l.val).held = false) ∧
    (∃ (s : State) (l : LinkIx), (s.link l.val).state = .down ∧ (s.link l.val).moved = false ∧ (s.link l.val).held = false ∧
      (s.link l.val).lostReceived = none) ∧
    (∃ (s : State) (l : LinkIx), ((s.link l.val).txKey ((s.link l.val).txSlot + 1)).isSome = true) ∧
    (∃ (s : State) (l : LinkIx), ((s.link l.val).txKey ((s.link l.val).txSlot + 1)).isSome = false) ∧
    (∃ (s : State) (l : LinkIx), ((s.link l.val).rxKey ((s.link l.val).rxSlot + 1)).isSome = true) ∧
    (∃ (s : State) (l : LinkIx), 2 ^ 48 ≤ (s.link l.val).underKey ∧ (s.link l.val).state = .active) ∧
    (∃ (s : State) (l : LinkIx), 2 ^ 47 ≤ (s.link l.val).underKey ∧ (s.link l.val).underKey < 2 ^ 48 ∧
      (s.link l.val).rotation = false) ∧
    (∃ (s : State) (l : LinkIx), (s.link l.val).underKey < 2 ^ 47) :=
  ⟨⟨linkState { link0 with state := .down, n := 1, replay := [unit0] }, 0, by decide, by decide, by decide⟩,
    ⟨linkState { link0 with state := .down, n := 1, replay := [unit0] }, 0, by decide, by decide, by decide, by decide⟩,
    ⟨linkState { link0 with tx1 := some { key := 1, salt := 2, keyId := 3 } }, 0, by decide⟩,
    ⟨linkState link0, 0, by decide⟩,
    ⟨linkState { link0 with rx1 := some { key := 1, salt := 2, keyId := 3 } }, 0, by decide⟩,
    ⟨linkState { link0 with underKey := 2 ^ 48 }, 0, by decide, by decide⟩,
    ⟨linkState { link0 with underKey := 2 ^ 47 }, 0, by decide, by decide, by decide⟩,
    ⟨linkState { link0 with underKey := 2 ^ 47 - 1 }, 0, by decide⟩⟩

/-- States and operands that meet the hypotheses of `Obligations.UnitsForwardedOrDiscarded`. -/
theorem witness_UnitsForwardedOrDiscarded :
    (∃ (s : State) (k : LinkIx) (m : DomMsg), s.domain.id.isSome = true ∧ m.destModule ≠ s.moduleId ∧ m.hops ≠ 15 ∧
      s.forwardLink m.srcModule m.ctx m.destModule = some k) ∧
    (∃ (s : State) (m : DomMsg), s.domain.id.isSome = true ∧ m.destModule ≠ s.moduleId ∧
      ((m.hops = 15 ∨ s.forwardLink m.srcModule m.ctx m.destModule = none))) ∧
    (∃ (s : State) (m : DomMsg), s.domain.id.isSome = true ∧ m.destModule = s.moduleId ∧ (opcodeVc m.opcode).isSome = true) ∧
    (∃ (s : State), s.domain.id = none) :=
  ⟨⟨domState, 0, { msg0 dmRead with srcModule := 1, destModule := 3 }, by decide, by decide, by decide, by decide⟩,
    ⟨domState, { msg0 dmRead with srcModule := 3, destModule := 7 }, by decide, by decide, by decide⟩,
    ⟨domState, msg0 dmRead, by decide, by decide, by decide⟩,
    ⟨rdy, by decide⟩⟩

/-- States and operands that meet the hypotheses of `Obligations.TargetsCheckAndServeRequests`. -/
theorem witness_TargetsCheckAndServeRequests :
    (∃ (s : State) (k : LinkIx) (m : DomMsg), m.opcode = dmRead ∧ s.domain.id = some m.destModule ∧ s.isStraggler m = false
      ∧ s.forwardLink m.destModule m.ctx m.srcModule = some k ∧ s.badPlace m.offset.toNat m.length = none) ∧
    (∃ (s : State) (k : LinkIx) (m : DomMsg) (h : Nat) (o : Nat), m.opcode = dmWrite ∧ s.domain.id = some m.destModule ∧
      s.isStraggler m = false ∧ s.forwardLink m.destModule m.ctx m.srcModule = some k ∧ m.data ≠ [] ∧
      m.offset.toNat % 64 + m.data.length ≤ 64 ∧ s.place m.offset.toNat = .cell h o ∧ o + m.data.length ≤ 0x10000000000 ∧
      ((m.data.length = 64 ∨ (m.poison = false ∧ s.poisoned h o = false)))) ∧
    (∃ (s : State) (k : LinkIx) (m : DomMsg), m.opcode = dmRead ∧ s.domain.id = some m.destModule ∧ s.isStraggler m = false
      ∧ s.forwardLink m.destModule m.ctx m.srcModule = some k ∧ s.badPlace m.offset.toNat m.length ≠ none ∧
      (s.context m.targetCtx.val).state = .opened ∧ m.targetGen = (s.context m.targetCtx.val).gen ∧
      (s.context m.targetCtx.val).domain = true ∧
      inRegions (s.context m.targetCtx.val).regions m.offset.toNat m.length = true) ∧
    (∃ (s : State) (k : LinkIx) (m : DomMsg) (op : AtomicOp) (h : Nat) (o : Nat), m.opcode = dmAtomic ∧
      s.domain.id = some m.destModule ∧ s.isStraggler m = false ∧ s.forwardLink m.destModule m.ctx m.srcModule = some k ∧
      messageOp m = some op ∧ m.offset.toNat % atomicBytes op = 0 ∧ s.place m.offset.toNat = .cell h o ∧
      s.poisoned h o = false ∧ o + 8 ≤ 0x10000000000) ∧
    (∃ (s : State) (m : DomMsg), s.domain.id = none ∧ m.opcode = dmWrite) :=
  ⟨⟨(domState.setContext 1 { ctx0 with domain := true }), 0, { msg0 dmRead with data := [] }, by decide, by decide,
      by decide, by decide, by decide⟩,
    ⟨(domState.setContext 1 { ctx0 with domain := true }), 0, msg0 dmWrite, 0, 0, by decide, by decide, by decide,
      by decide, by decide, by decide, by decide, by decide, by decide⟩,
    ⟨(domState.setContext 1 { ctx0 with domain := true, regions := [{ base := 47 * 0x40000000, len := 0x1000 }] }), 0,
      { msg0 dmRead with data := [], offset := 47 * 0x40000000 }, by decide, by decide, by decide, by decide, by decide,
      by decide, by decide, by decide, by decide⟩,
    ⟨(domState.setContext 1 { ctx0 with domain := true }), 0,
      { msg0 dmAtomic with length := 24, data := leBytes 8 0 ++ leBytes 8 3 ++ leBytes 8 0 }, .addU64, 0, 0, by decide,
      by decide, by decide, by decide, by decide, by decide, by decide, by decide, by decide⟩,
    ⟨rdy, msg0 dmWrite, by decide, by decide⟩⟩

/-- States and operands that meet the hypotheses of `Obligations.AnswersLandOrFailOperators`. -/
theorem witness_AnswersLandOrFailOperators :
    (∃ (s : State) (m : DomMsg) (q : Request), m.opcode = dmReadData ∧ s.domain.id = some m.destModule ∧
      s.requestOf m = some q ∧ s.acceptsGen m.ctx m.gen = true ∧ m.status = 0 ∧ s.faults.insertions = [] ∧ q.tumbler < 18432
      ∧ (s.ward (q.tumbler / 64)).owed = []) ∧
    (∃ (s : State) (m : DomMsg) (q : Request), m.opcode = dmReadData ∧ s.domain.id = some m.destModule ∧
      s.requestOf m = some q ∧ s.acceptsGen m.ctx m.gen = true ∧ m.status ≠ 0 ∧ s.faults.insertions = [] ∧ q.tumbler < 18432
      ∧ (s.ward (q.tumbler / 64)).completed.contains (q.ctx, q.opSerial) = false ∧
      s.written (q.tumbler / 1536) (q.tumbler / 64 % 24) q.ctx q.opSerial = true) ∧
    (∃ (s : State) (m : DomMsg) (q : Request) (p : WritePart), m.opcode = dmWriteAck ∧ s.domain.id = some m.destModule ∧
      s.requestOf m = some q ∧ s.acceptsGen m.ctx m.gen = true ∧ m.status = 0 ∧ s.faults.insertions = [] ∧ q.tumbler < 18432
      ∧ ((s.tumbler q.tumbler).writes.find? fun p => p.global && p.tag = q.tag) = some p ∧
      (∀ r, (s.tumbler q.tumbler).resident = some r → r.running = none) ∧ (s.ward (q.tumbler / 64)).owed = []) ∧
    (∃ (s : State) (m : DomMsg) (q : Request) (p : WritePart), m.opcode = dmAtomicResp ∧ s.domain.id = some m.destModule ∧
      s.requestOf m = some q ∧ s.acceptsGen m.ctx m.gen = true ∧ m.status = 0 ∧ s.faults.insertions = [] ∧ q.tumbler < 18432
      ∧ ((s.tumbler q.tumbler).writes.find? fun p => p.global && p.tag = q.tag) = some p ∧
      (∀ r, (s.tumbler q.tumbler).resident = some r → r.running = none) ∧ (s.ward (q.tumbler / 64)).owed = []) ∧
    (∃ (s : State) (m : DomMsg), m.opcode = dmReadData ∧ s.domain.id = some m.destModule ∧ s.requestOf m = none) :=
  ⟨⟨{ domOpen.setTumbler 0 { Tumbler.reset with loads := [load0 true] } with domain.requests := [req0 false] },
      msg0 dmReadData, req0 false, by decide, by decide, by decide, by decide, by decide, by decide, by decide, by decide⟩,
    ⟨{ withRes domOpen res0 with domain.requests := [req0 false] },
      { msg0 dmReadData with status := 3, data := [], length := 0 }, req0 false, by decide, by decide, by decide, by decide,
      by decide, by decide, by decide, by decide, by decide⟩,
    ⟨{ domOpen.setTumbler 0 { Tumbler.reset with writes := [write0 true] } with domain.requests := [req0 true] },
      msg0 dmWriteAck, req0 true, write0 true, by decide, by decide, by decide, by decide, by decide, by decide, by decide,
      by decide, by decide, by decide⟩,
    ⟨{ domOpen.setTumbler 0 { Tumbler.reset with writes := [write0 true] } with domain.requests := [req0 true] },
      msg0 dmAtomicResp, req0 true, write0 true, by decide, by decide, by decide, by decide, by decide, by decide,
      by decide, by decide, by decide, by decide⟩,
    ⟨domState, msg0 dmReadData, by decide, by decide, by decide⟩⟩

/-- States and operands that meet the hypotheses of `Obligations.ReductionsAndFences`. -/
theorem witness_ReductionsAndFences :
    (∃ (s : State) (m : DomMsg), m.opcode = dmRedOperand ∧ s.domain.id = some m.destModule ∧ s.isStraggler m = false ∧
      s.groupOf m.srcModule = none) ∧
    (∃ (s : State) (m : DomMsg) (g : Group), m.opcode = dmRedOperand ∧ s.domain.id = some m.destModule ∧
      s.isStraggler m = false ∧ s.groupOf m.srcModule = some g) ∧
    (∃ (s : State) (m : DomMsg) (h : Nat) (o : Nat), m.opcode = dmRedResult ∧ s.domain.id = some m.destModule ∧
      s.acceptsGen m.ctx m.gen = true ∧ inRegions (s.context m.ctx.val).regions m.offset.toNat m.data.length = true ∧
      m.data ≠ [] ∧ m.offset.toNat % 64 + m.data.length ≤ 64 ∧ s.place m.offset.toNat = .cell h o ∧
      o + m.data.length ≤ 0x10000000000 ∧ ((m.data.length = 64 ∨ (m.poison = false ∧ s.poisoned h o = false))) ∧
      s.protectedAt (.peer m.srcModule m.ctx m.gen) m.offset.toNat m.data.length = none) ∧
    (∃ (s : State) (m : DomMsg), m.opcode = dmFenceMsg ∧ s.domain.id = some m.destModule) ∧
    (∃ (s : State) (m : DomMsg) (g : Gen), m.opcode = dmWrite ∧ s.domain.id = some m.destModule ∧
      Store.get none s.domain.genRecord (pairKey m.srcModule m.ctx) = some g ∧ g ≠ m.gen) ∧
    (∃ (s : State) (src : ModId) (ctx : CtxId) (f : PendingFence) (k : LinkIx),
      (s.domain.fences.find? fun f => f.src = src && f.ctx = ctx) = some f ∧ s.forwardLink s.moduleId ctx src = some k) ∧
    (∃ (s : State) (m : DomMsg) (td : Teardown), m.opcode = dmFenceDoneMsg ∧ s.domain.id = some m.destModule ∧
      (s.context m.ctx.val).teardown = some td ∧ m.srcModule ∈ td.fences ∧ m.gen = (s.context m.ctx.val).gen) :=
  ⟨⟨domState, msg0 dmRedOperand, by decide, by decide, by decide, by decide⟩,
    ⟨{ domState with domain.groups := [(0, { members := [2, 3], rank := 0 })] }, msg0 dmRedOperand,
      { members := [2, 3], rank := 0 }, by decide, by decide, by decide, by decide⟩,
    ⟨(domState.setContext 1 ctx0), msg0 dmRedResult, 0, 0, by decide, by decide, by decide, by decide, by decide, by decide,
      by decide, by decide, by decide, by decide⟩,
    ⟨domState, { msg0 dmFenceMsg with gen := 1, data := [], length := 0 }, by decide, by decide⟩,
    ⟨{ domState with domain.genRecord := [(3 * 1024 + 1, some 1)] }, msg0 dmWrite, 1, by decide, by decide, by decide,
      by decide⟩,
    ⟨{ domState with domain.fences := [{ src := 3, ctx := 1, gen := 1 }] }, 3, 1, { src := 3, ctx := 1, gen := 1 }, 0,
      by decide, by decide⟩,
    ⟨(domState.setContext 1 { ctx0 with state := .draining, gen := 1, teardown := some { td0 with fences := [3] } }),
      { msg0 dmFenceDoneMsg with gen := 1 }, { td0 with fences := [3] }, by decide, by decide, by decide, by decide,
      by decide⟩⟩

/-- States and operands that meet the hypotheses of `Obligations.Bar2AccessesServedOrRefused`. -/
theorem witness_Bar2AccessesServedOrRefused :
    (∃ (s : State) (p : HostPort) (off : Nat) (n : Nat),
      let a := (s.segment (off / gib)).gib.toNat * gib + off % gib; (s.port p).serves = true ∧ (s.port p).active = true ∧
      (s.port p).inBar2 off n = true ∧ s.ready = true ∧ (s.segment (off / gib)).valid = true ∧
      inRegions (s.context (s.segment (off / gib)).ctx.val).regions a n = true ∧ s.badPlace a n = none) ∧
    (∃ (s : State) (p : HostPort) (off : Nat) (n : Nat), (s.port p).serves = true ∧ (s.port p).active = true ∧
      (s.port p).inBar2 off n = true ∧ ((s.ready = false ∨ (s.segment (off / gib)).valid = false))) ∧
    (∃ (s : State) (p : HostPort) (off : Nat) (n : Nat), (s.port p).serves = true ∧ (s.port p).active = false ∧
      (s.port p).inBar2 off n = true) ∧
    (∃ (s : State) (p : HostPort) (off : Nat) (data : List Byte) (ep : Bool) (h : Nat) (o : Nat),
      let a := (s.segment (off / gib)).gib.toNat * gib + off % gib; (s.port p).serves = true ∧ (s.port p).active = true ∧
      (s.port p).inBar2 off data.length = true ∧ s.ready = true ∧ (s.segment (off / gib)).valid = true ∧
      (s.context (s.segment (off / gib)).ctx.val).state = .opened ∧
      inRegions (s.context (s.segment (off / gib)).ctx.val).regions a data.length = true ∧ data ≠ [] ∧
      a % 64 + data.length ≤ 64 ∧ s.place a = .cell h o ∧ o + data.length ≤ 0x10000000000 ∧
      ((data.length = 64 ∨ (ep = false ∧ s.poisoned h o = false))) ∧
      s.protectedAt (.host p (s.segment (off / gib)).ctx) a data.length = none) ∧
    (∃ (s : State) (p : HostPort) (off : Nat) (data : List Byte), (s.port p).serves = true ∧
      (s.port p).inBar2 off data.length = true ∧
      (((s.port p).active = false ∨ s.ready = false ∨ (s.segment (off / gib)).valid = false ∨ (s.context (s.segment (off / gib)).ctx.val).state ≠ .opened))) ∧
    (∃ (s : State) (p : HostPort) (op : AtomicOp) (off : Nat) (h : Nat) (o : Nat),
      let a := (s.segment (off / gib)).gib.toNat * gib + off % gib; (s.port p).serves = true ∧ (s.port p).active = true ∧
      (s.port p).inBar2 off 8 = true ∧ s.ready = true ∧ (s.segment (off / gib)).valid = true ∧
      (s.context (s.segment (off / gib)).ctx.val).state = .opened ∧ ((op = .addU64 ∨ op = .swap ∨ op = .cas)) ∧ off % 8 = 0
      ∧ inRegions (s.context (s.segment (off / gib)).ctx.val).regions a 8 = true ∧ s.place a = .cell h o ∧
      s.poisoned h o = false ∧ o + 8 ≤ 0x10000000000 ∧ s.protectedAt (.host p (s.segment (off / gib)).ctx) a 8 = none) ∧
    (∃ (s : State) (p : HostPort) (off : Nat) (n : Nat), (s.port p).serves = true ∧ (s.port p).active = true ∧
      (s.port p).inBar2 off n = true) ∧
    (∃ (s : State) (p : HostPort) (off : Nat) (data : List Byte), (s.port p).serves = true ∧ off + data.length ≤ 0x4000000) :=
  ⟨⟨{ rdy.setContext 1 ctx0 with host.segments := [(0, { valid := true, ctx := 1, gib := 0 })] }, .a, 0xFF8, 8, by decide⟩,
    ⟨rdy, .a, 0, 4, by decide, by decide, by decide, by decide⟩,
    ⟨rdy, .b, 0, 4, by decide, by decide, by decide⟩,
    ⟨{ rdy.setContext 1 ctx0 with host.segments := [(0, { valid := true, ctx := 1, gib := 0 })] }, .a, 0xFF8, [1, 2], false,
      0, 0xFF8, by decide⟩,
    ⟨rdy, .b, 0, [1], by decide, by decide, by decide⟩,
    ⟨{ rdy.setContext 1 ctx0 with host.segments := [(0, { valid := true, ctx := 1, gib := 0 })] }, .a, .cas, 0xFF8, 0,
      0xFF8, by decide⟩,
    ⟨{ rdy.setContext 1 ctx0 with host.segments := [] }, .a, 4, 4, by decide, by decide, by decide⟩,
    ⟨rdy, .a, 0x3FFFFF8, [1, 2, 3, 4], by decide, by decide⟩⟩

/-- States and operands that meet the hypotheses of `Obligations.PortsFailOverAndVectorsWait`. -/
theorem witness_PortsFailOverAndVectorsWait :
    (∃ (s : State) (p : HostPort), (s.port p).up = true ∧ (s.port p).active = true ∧ s.host.mode = 1 ∧
      s.keeper.idore = true) ∧
    (∃ (s : State) (p : HostPort), (s.port p).up = false) ∧
    (∃ (s : State) (p : HostPort), (s.port p).released = true ∧ (s.port p).perst = false ∧ (s.port p).up = false ∧
      s.portOn p = true) ∧
    (∃ (s : State) (p : HostPort), ((s.port p).released = false ∨ (s.port p).perst = true ∨ s.portOn p = false)) ∧
    (∃ (s : State) (p : HostPort) (v : Byte), (s.port p).pending.getLsbD v.toNat = true ∧ (s.port p).canSend v.toNat = true) ∧
    (∃ (s : State) (p : HostPort), (s.port p).released = true ∧ (s.port p).up = true) ∧
    (∃ (s : State) (p : HostPort), (s.port p).released = true ∧ (s.port p).up = true) :=
  ⟨⟨rdy, .a, by decide, by decide, by decide, by decide⟩,
    ⟨State.reset, .b, by decide⟩,
    ⟨{ rdy with host.portB := { Port.reset with released := true } }, .b, by decide, by decide, by decide, by decide⟩,
    ⟨State.reset, .b, by decide⟩,
    ⟨{ rdy with host.portA := { Port.reset with released := true, up := true, active := true, pending := 1 <<< 69 } }, .a,
      69, by decide, by decide⟩,
    ⟨rdy, .a, by decide, by decide⟩,
    ⟨rdy, .a, by decide, by decide⟩⟩

/-- States and operands that meet the hypotheses of `Obligations.ManagementAnswersAndUpdates`. -/
theorem witness_ManagementAnswersAndUpdates :
    (∃ (s : State) (b : Fin 3), s.bindingUp b = true) ∧
    (∃ (s : State) (b : Fin 3), s.bindingUp b = true) ∧
    (∃ (s : State) (b : Fin 3), s.bindingUp b = true) ∧
    (∃ (s : State) (b : Fin 3), s.bindingUp b = true) ∧
    (∃ (s : State) (b : Fin 3), s.bindingUp b = true) ∧
    (∃ (s : State) (b : Fin 3), s.bindingUp b = true) ∧
    (∃ (s : State) (b : Fin 3), s.bindingUp b = true ∧ s.keeper.update = none ∧
      s.keeper.longOps.any (fun o => isUpdate o.code) = false ∧ (s.part 0).out = false ∧ (s.part 1).out = false) ∧
    (∃ (s : State) (b : Fin 3), s.bindingUp b = true ∧ s.keeper.update.isSome = true) ∧
    (∃ (s : State) (b : Fin 3) (e : Byte) (n : Nat), s.bindingUp b = true ∧
      s.keeper.update = some { holder := .pldm b e, written := n } ∧ (s.part s.idlePart).slotValid = false) ∧
    (∃ (s : State) (b : Fin 3) (e : Byte) (n : Nat), s.bindingUp b = true ∧
      s.keeper.update = some { holder := .pldm b e, written := n } ∧ (s.part s.idlePart).verified = true ∧
      s.flash.partA.out = false ∧ s.flash.partA.formatted = true) ∧
    (∃ (s : State) (b : Fin 3) (e : Byte) (n : Nat), s.bindingUp b = true ∧
      s.keeper.update = some { holder := .pldm b e, written := n }) ∧
    (∃ (s : State), s.keeper.update.isSome = true ∧ s.keeper.longOps.any (fun o => isUpdate o.code) = false) ∧
    (∃ (s : State), s.keeper.update = none) :=
  ⟨⟨rdy, 2, by decide⟩,
    ⟨rdy, 2, by decide⟩,
    ⟨rdy, 2, by decide⟩,
    ⟨rdy, 2, by decide⟩,
    ⟨rdy, 2, by decide⟩,
    ⟨rdy, 2, by decide⟩,
    ⟨rdy, 2, by decide, by decide, by decide, by decide, by decide⟩,
    ⟨{ rdy with keeper.update := some { holder := .host, written := 0 } }, 2, by decide, by decide⟩,
    ⟨{ rdy with keeper.update := some { holder := .pldm 2 9, written := 0 }, flash.partB.slotValid := false }, 2, 9, 0,
      by decide, by decide, by decide⟩,
    ⟨{ rdy with keeper.update := some { holder := .pldm 2 9, written := 0 }, flash.partB.verified := true }, 2, 9, 0,
      by decide, by decide, by decide, by decide, by decide⟩,
    ⟨{ rdy with keeper.update := some { holder := .pldm 2 9, written := 0 } }, 2, 9, 0, by decide, by decide⟩,
    ⟨{ rdy with keeper.update := some { holder := .host, written := 0 } }, by decide, by decide⟩,
    ⟨rdy, by decide⟩⟩

/-- States and operands that meet the hypotheses of `Obligations.TelemetryLatchesAndRegistersAnswer`. -/
theorem witness_TelemetryLatchesAndRegistersAnswer :
    (∃ (s : State), (s.base 0).pllLocked = true) ∧
    (∃ (s : State) (a : Agent), (a = .keeper ∨ ∃ p, a = .host p ∧ (s.port p).serves = true ∧ (s.port p).active = true)) ∧
    (∃ (s : State) (p : HostPort) (n : Nat), (s.port p).serves = true ∧ 8 ≤ n) ∧
    (∃ (s : State) (p : HostPort), (s.port p).serves = true) ∧
    (∃ (r : Reg), r ≠ .dblMbxLost ∧ isRc r = true) ∧
    (∃ (r : Reg), isRc r = false) ∧
    (∃ (s : State) (p : HostPort) (r : Reg), (s.port p).serves = true ∧ hostVisible r = false) ∧
    (∃ (r : Reg),
      (r = .mbxStatus ∨ r = .mbxStart ∨ r = .dblMbxBusy ∨ r = .dblFwcHead ∨ r = .dblFwrTail ∨ r = .dblEvtTail ∨ r = .telTimestamp ∨ r = .telStat)) ∧
    (∃ (n : Nat), 8 ≤ n) ∧
    (∃ (s : State) (m : MbxIx), s.mbxBusy m.val = false) ∧
    (∃ (s : State) (m : MbxIx), s.mbxBusy m.val = true) ∧
    (∃ (s : State) (p : HostPort) (c : W32), (s.port p).serves = true ∧ (s.port p).active = true ∧
      (c - s.keeper.fwrHead).toNat ≤ (s.keeper.fwrTail - s.keeper.fwrHead).toNat) :=
  ⟨⟨rdy, by decide⟩,
    ⟨rdy, .host .a, .inr ⟨.a, rfl, by decide, by decide⟩⟩,
    ⟨rdy, .b, 8, by decide, by decide⟩,
    ⟨rdy, .b, by decide⟩,
    ⟨.telStat, by decide, by decide⟩,
    ⟨.mbxStatus, by decide⟩,
    ⟨rdy, .b, .fltPolicy, by decide, by decide⟩,
    ⟨.telStat, by decide⟩,
    ⟨8, by decide⟩,
    ⟨State.reset, 0, by decide⟩,
    ⟨(rdy.setMailbox 15 { Mailbox.reset with cstat := cstat .running 1 0 0 }), 15, by decide⟩,
    ⟨{ rdy with keeper.fwrTail := 3 }, .a, 3, by decide, by decide, by decide⟩⟩

/-- States and operands that meet the hypotheses of `Obligations.CommandsCheckedInOrder`. -/
theorem witness_CommandsCheckedInOrder :
    (∃ (s : State) (m : MbxIx), s.keeper.idore = true ∧ s.mbxBusy m.val = false) ∧
    (∃ (s : State) (h : CmdHdr), s.canTake h.caller = true ∧ (∀ m, callerMbx h.caller = some m → s.mbxBusy m.val = false)) ∧
    (∃ (s : State) (h : CmdHdr), s.canTake h.caller = true ∧ (∀ m, callerMbx h.caller = some m → s.mbxBusy m.val = false)) ∧
    (∃ (s : State) (h : CmdHdr), s.canTake h.caller = true ∧ (∀ m, callerMbx h.caller = some m → s.mbxBusy m.val = false) ∧
      (∀ b e, h.caller = .mctp b e → s.host.fm ≠ some (b, e))) ∧
    (∃ (s : State) (h : CmdHdr) (m : MbxIx), callerMbx h.caller = some m ∧ s.keeper.idore = true ∧ s.mbxBusy m.val = true) ∧
    (∃ (s : State) (h : CmdHdr) (m : MbxIx), callerMbx h.caller = some m ∧ s.keeper.idore = false) ∧
    (∃ (s : State) (h : CmdHdr) (p : HostPort), h.caller = .fwRing p ∧ 4096 ≤ (s.keeper.fwrTail - s.keeper.fwrHead).toNat) :=
  ⟨⟨rdy, 15, by decide, by decide⟩,
    ⟨rdy, hc, by decide, by decide⟩,
    ⟨rdy, hc, by decide, by decide⟩,
    ⟨rdy, hc, by decide, by decide, by decide⟩,
    ⟨(rdy.setMailbox 0 { Mailbox.reset with cstat := cstat .running 1 0 0 }), hc, 0, by decide, by decide, by decide⟩,
    ⟨State.reset, hc, 0, by decide, by decide⟩,
    ⟨{ rdy with keeper.fwrTail := 4096 }, { hc with caller := .fwRing .a }, .a, by decide, by decide⟩⟩

/-- States and operands that meet the hypotheses of `Obligations.KeeperCommandsActAndAnswer`. -/
theorem witness_KeeperCommandsActAndAnswer :
    (∃ (s : State) (h : CmdHdr), s.accepts h .identify = true) ∧
    (∃ (s : State) (h : CmdHdr), s.accepts h .statusAck = true) ∧
    (∃ (s : State) (h : CmdHdr), s.accepts h .cancel = true) ∧
    (∃ (s : State) (m : MbxIx) (o : LongOp) (l : LinkIx) (c : Chan) (f : Nat) (x : Nat) (b : Bool), s.longIn m = some o ∧
      o.cancelling = true ∧ ((o.kind = .fwVerify ∨ o.kind = .linkMargin l ∨ o.kind = .selftest c f x b))) ∧
    (∃ (s : State) (m : MbxIx) (o : LongOp) (q : CalQuantity) (e : EngineIx) (i : CalItem) (is : List CalItem),
      s.longIn m = some o ∧ o.cancelling = true ∧ o.kind = .calRun q e (i :: is) ∧ o.total = is.length + 1 ∧
      isOptical q = false ∧ (∀ j ∈ is, i.index ≤ j.index) ∧ i.refPresent = true ∧ i.plausible = true ∧
      wordPlausible q i.word = true ∧ calWordOk i.word = true ∧ s.calLost q i = false) ∧
    (∃ (s : State) (m : MbxIx) (o : LongOp), s.longIn m = some o ∧ o.cancelling = false) ∧
    (∃ (s : State) (h : CmdHdr), s.accepts h .fmName = true) ∧
    (∃ (s : State) (h : CmdHdr), s.accepts h .portRole = true) ∧
    (∃ (s : State) (h : CmdHdr), s.accepts h .reset = true ∧ s.faults.seqr.active = none) ∧
    (∃ (s : State) (h : CmdHdr), s.accepts h .serviceHold = true ∧ ((s.modState = .ready ∨ s.modState = .degraded)) ∧
      (s.ops.contexts.any fun p => decide (p.2.state ≠ .free)) = false ∧ s.runs isHoldOp = false) ∧
    (∃ (s : State) (h : CmdHdr), s.accepts h .serviceHold = true ∧
      (s.ops.contexts.any fun p => decide (p.2.state ≠ .free)) = true) ∧
    (∃ (s : State) (h : CmdHdr), s.accepts h .serviceHold = true ∧ s.modState = .serviceHold ∧ s.runs isCalRun = false ∧
      s.runs isHoldOp = false) ∧
    (∃ (s : State) (h : CmdHdr), s.accepts h .serviceHold = true ∧ s.modState ≠ .serviceHold) :=
  ⟨⟨rdy, hc, by decide⟩,
    ⟨rdy, hc, by decide⟩,
    ⟨rdy, hc, by decide⟩,
    ⟨longState { long0 .fwVerify with cancelling := true }, 0, { long0 .fwVerify with cancelling := true }, 0, 0, 0, 0,
      false, by decide, by decide, by decide⟩,
    ⟨longState { long0 (.calRun .railSense 0 [item0]) with cancelling := true, total := 1 }, 0,
      { long0 (.calRun .railSense 0 [item0]) with cancelling := true, total := 1 }, .railSense, 0, item0, [], by decide,
      by decide, by decide, by decide, by decide, by decide, by decide, by decide, by decide, by decide, by decide⟩,
    ⟨longState (long0 .fwVerify), 0, long0 .fwVerify, by decide, by decide⟩,
    ⟨rdy, hc, by decide⟩,
    ⟨rdy, hc, by decide⟩,
    ⟨rdy, hc, by decide, by decide⟩,
    ⟨rdy, hc, by decide, by decide, by decide, by decide⟩,
    ⟨(rdy.setContext 1 ctx0), hc, by decide, by decide⟩,
    ⟨{ rdy with keeper.status := 0x40000000 }, hc, by decide, by decide, by decide, by decide⟩,
    ⟨rdy, hc, by decide, by decide⟩⟩

/-- States and operands that meet the hypotheses of `Obligations.ContextRingAndSegmentCommands`. -/
theorem witness_ContextRingAndSegmentCommands :
    (∃ (s : State) (h : CmdHdr) (rs : List Region) (ms : Nat) (i : CtxId), s.accepts h .ctxCreate = true ∧ ms ≤ 10000 ∧
      rs.length ≤ 64 ∧ rs.all s.regionOk = true ∧ i.val ≠ 0 ∧ (s.context i.val).state = .free ∧
      (∀ j : CtxId, j.val ≠ 0 → j < i → (s.context j.val).state ≠ .free)) ∧
    (∃ (s : State) (h : CmdHdr) (rs : List Region) (ms : Nat), s.accepts h .ctxCreate = true ∧
      ((10000 < ms ∨ rs.all s.regionOk = false))) ∧
    (∃ (s : State) (h : CmdHdr) (i : CtxId), s.accepts h .ctxTeardown = true ∧ (s.context i.val).state = .opened) ∧
    (∃ (s : State) (h : CmdHdr) (i : CtxId), s.accepts h .ctxTeardown = true ∧ (s.context i.val).state = .free) ∧
    (∃ (s : State) (h : CmdHdr), s.accepts h .ctxQuery = true) ∧
    (∃ (s : State) (h : CmdHdr) (i : CtxId) (td : Teardown), s.accepts h .ctxRelease = true ∧
      (s.context i.val).state = .quarantined ∧ (s.context i.val).teardown = some td) ∧
    (∃ (s : State) (h : CmdHdr) (i : CtxId) (d : BaseDie) (n : Nat) (o : RingOwner) (r : RingIx),
      s.accepts h .ringCreate = true ∧ ringSize n = true ∧ ownerPlace d o = true ∧ (s.context i.val).state = .opened ∧
      ownerAssigned (s.context i.val) o = true ∧ (s.ring (ringKeyOf d r)).enabled = false ∧
      (∀ q : RingIx, q < r → (s.ring (ringKeyOf d q)).enabled = true)) ∧
    (∃ (s : State) (h : CmdHdr), s.accepts h .ringDelete = true) ∧
    (∃ (s : State) (h : CmdHdr), s.accepts h .bar2Map = true) ∧
    (∃ (s : State) (h : CmdHdr), s.accepts h .bar2Map = true) :=
  ⟨⟨rdy, hc, [{ base := 0, len := 4096 }], 10000, 1, by decide, by decide, by decide, by decide, by decide, by decide,
      by decide⟩,
    ⟨rdy, hc, [], 10001, by decide, by decide⟩,
    ⟨(rdy.setContext 1023 ctx0), hc, 1023, by decide, by decide⟩,
    ⟨rdy, hc, 1023, by decide, by decide⟩,
    ⟨rdy, hc, by decide⟩,
    ⟨(rdy.setContext 1 { ctx0 with state := .quarantined, gen := 1, teardown := some { td0 with fences := [3] } }), hm, 1,
      { td0 with fences := [3] }, by decide, by decide, by decide⟩,
    ⟨(rdy.setContext 1 ctx0), hc, 1, 0, 64, .host, 0, by decide, by decide, by decide, by decide, by decide, by decide,
      by decide⟩,
    ⟨rdy, hc, by decide⟩,
    ⟨(rdy.setContext 1 ctx0), hc, by decide⟩,
    ⟨rdy, hc, by decide⟩⟩

/-- States and operands that meet the hypotheses of `Obligations.CoresAndImagesManaged`. -/
theorem witness_CoresAndImagesManaged :
    (∃ (s : State) (h : CmdHdr) (k : CoreIx) (a : PAddr) (n : Nat) (i : CtxId), s.accepts h .appcoreStart = true ∧ 0 < n ∧
      n ≤ 64 * 0x100000 ∧ a.toNat % 4096 = 0 ∧ s.faults.padlocked.contains (coreChan k.val) = false ∧
      (s.context i.val).state = .opened ∧ (s.context i.val).cores.getLsbD k.val = true ∧
      inRegions (s.context i.val).regions a.toNat n = true) ∧
    (∃ (s : State) (h : CmdHdr), s.accepts h .appcoreStop = true) ∧
    (∃ (s : State) (h : CmdHdr) (i : CtxId), s.accepts h .imageInstall = true ∧ (s.context i.val).state = .opened) ∧
    (∃ (s : State) (h : CmdHdr), s.accepts h .imageRemove = true) ∧
    (∃ (s : State) (h : CmdHdr), s.accepts h .imageList = true) :=
  ⟨⟨(rdy.setContext 1 { ctx0 with cores := 1 }), hc, 0, 0, 4096, 1, by decide, by decide, by decide, by decide, by decide,
      by decide, by decide, by decide⟩,
    ⟨rdy, hc, by decide⟩,
    ⟨(rdy.setContext 1 ctx0), hc, 1, by decide, by decide⟩,
    ⟨rdy, hc, by decide⟩,
    ⟨rdy, hc, by decide⟩⟩

/-- States and operands that meet the hypotheses of `Obligations.FabricManagerFillsTables`. -/
theorem witness_FabricManagerFillsTables :
    (∃ (s : State) (h : CmdHdr) (n : Nat), s.accepts h .domainAssign = true ∧ 0 < n ∧ n ≤ 256) ∧
    (∃ (s : State) (h : CmdHdr) (e : BitVec 256), s.accepts h .windowWrite = true ∧ s.domain.id.isSome = true ∧
      winReservedOk e = true) ∧
    (∃ (s : State) (h : CmdHdr), s.accepts h .windowRemove = true) ∧
    (∃ (s : State) (h : CmdHdr) (ls : List LinkIx), s.accepts h .linksetWrite = true ∧ ls ≠ [] ∧ ls.length ≤ 8) ∧
    (∃ (s : State) (h : CmdHdr), s.accepts h .fwdWrite = true) ∧
    (∃ (s : State) (h : CmdHdr) (ms : List ModId) (r : Byte), s.accepts h .groupWrite = true ∧ r.toNat < ms.length) ∧
    (∃ (s : State) (h : CmdHdr) (l : LinkIx) (w : Option LinkIx), s.accepts h .twinSet = true ∧ w ≠ some l) ∧
    (∃ (s : State) (h : CmdHdr) (e : EngineIx), s.accepts h .f8Mode = true ∧ (s.engine e.val).f8For = none) ∧
    (∃ (s : State) (h : CmdHdr) (l : LinkIx) (tx : Bool), s.accepts h .linkKey = true ∧ s.inSession h.caller = true ∧
      s.sec.scopes = 0 ∧ (tx = true → (s.link l.val).retireAt = none)) ∧
    (∃ (s : State) (h : CmdHdr) (l : LinkIx), s.accepts h .linkRelease = true ∧
      (∀ u ∈ s.heldUnits l.val, s.unitTag u = none)) ∧
    (∃ (s : State) (h : CmdHdr), s.accepts h .peerReset = true) ∧
    (∃ (s : State) (h : CmdHdr), s.accepts h .peerReset = true) :=
  ⟨⟨rdy, hm, 256, by decide, by decide, by decide⟩,
    ⟨domState, hm, 0, by decide, by decide, by decide⟩,
    ⟨rdy, hm, by decide⟩,
    ⟨rdy, hm, [0, 1, 2, 3, 4, 5, 6, 63], by decide, by decide, by decide⟩,
    ⟨rdy, hm, by decide⟩,
    ⟨rdy, hm, [2, 3], 1, by decide, by decide⟩,
    ⟨rdy, hm, 0, some 63, by decide, by decide⟩,
    ⟨rdy, hm, 7, by decide, by decide⟩,
    ⟨{ rdy with sec.sessions := [{ id := 0, conn := .mctp 2 5, established := true, updates := 0 }] }, hm, 63, true,
      by decide, by decide, by decide, by decide⟩,
    ⟨linkState { link0 with state := .down, held := true }, hm, 0, by decide, by decide⟩,
    ⟨rdy, hm, by decide⟩,
    ⟨rdy, hm, by decide⟩⟩

/-- States and operands that meet the hypotheses of `Obligations.FirmwareAndServiceCommands`. -/
theorem witness_FirmwareAndServiceCommands :
    (∃ (s : State) (h : CmdHdr) (i : CtxId) (a : PAddr) (n : Nat), s.accepts h .fwWrite = true ∧ 0 < n ∧ n ≤ 0x1000000 ∧
      (s.context i.val).state = .opened ∧ inRegions (s.context i.val).regions a.toNat n = true ∧ (s.part 0).out = false ∧
      (s.part 1).out = false) ∧
    (∃ (s : State) (h : CmdHdr), s.accepts h .fwVerify = true ∧ (s.part s.idlePart).out = false) ∧
    (∃ (s : State) (h : CmdHdr), s.accepts h .fwActivate = true ∧ (s.part s.idlePart).out = false) ∧
    (∃ (s : State) (h : CmdHdr), s.accepts h .fwInfo = true) ∧
    (∃ (s : State) (h : CmdHdr), s.accepts h .profileWrite = true ∧ s.flash.partA.out = false ∧ s.flash.partB.out = false) ∧
    (∃ (s : State) (h : CmdHdr), s.accepts h .profileRead = true) ∧
    (∃ (s : State) (h : CmdHdr), s.accepts h .faultRead = true) ∧
    (∃ (s : State) (h : CmdHdr), s.accepts h .faultNClear = true) ∧
    (∃ (s : State) (h : CmdHdr), s.accepts h .ledgerRead = true) ∧
    (∃ (s : State) (h : CmdHdr) (k : Fin 2) (p : Fin 2) (o : Nat) (n : Nat) (i : CtxId) (a : PAddr) (d : List Byte),
      s.accepts h .dumpRead = true ∧ 0 < n ∧ o + n ≤ 0x1000000 ∧ (s.context i.val).state = .opened ∧
      inRegions (s.context i.val).regions a.toNat n = true ∧ (s.part p.val).out = false ∧ s.dump p.val k.val = .full d) ∧
    (∃ (s : State) (h : CmdHdr) (p : Fin 2), s.accepts h .dumpRelease = true ∧ (s.part p.val).out = false) ∧
    (∃ (s : State) (p : Fin 2) (k : Fin 2) (d : List Byte), s.dump p.val k.val = .released d) ∧
    (∃ (s : State) (h : CmdHdr) (c : Chan) (f : Nat) (n : Nat), s.accepts h .selftest = true ∧ testable c = true ∧ f ≤ n) ∧
    (∃ (s : State) (h : CmdHdr), s.accepts h .linkMargin = true) ∧
    (∃ (s : State) (h : CmdHdr) (q : CalQuantity), s.accepts h .calRun = true ∧ s.runs isCalRun = false ∧
      s.runs isHoldOp = false ∧ isOptical q = false) ∧
    (∃ (s : State) (h : CmdHdr) (key : List Byte), s.accepts h .ownerKey = true ∧ key.length = 96) ∧
    (∃ (s : State) (h : CmdHdr), s.accepts h .ownerKey = true) ∧
    (∃ (s : State) (h : CmdHdr), s.accepts h .ownerKey = true) ∧
    (∃ (s : State) (h : CmdHdr), s.accepts h .debugUnlock = true) :=
  ⟨⟨(rdy.setContext 1 ctx0), hc, 1, 0, 4096, by decide, by decide, by decide, by decide, by decide, by decide, by decide⟩,
    ⟨rdy, hc, by decide, by decide⟩,
    ⟨rdy, hc, by decide, by decide⟩,
    ⟨rdy, hc, by decide⟩,
    ⟨rdy, hc, by decide, by decide, by decide⟩,
    ⟨rdy, ho, by decide⟩,
    ⟨rdy, hc, by decide⟩,
    ⟨rdy, hc, by decide⟩,
    ⟨rdy, hc, by decide⟩,
    ⟨{ rdy.setContext 1 ctx0 with flash.partB.dump1 := .full [1, 2] }, hc, 1, 1, 0, 2, 1, 0, [1, 2], by decide, by decide,
      by decide, by decide, by decide, by decide, by decide⟩,
    ⟨rdy, hc, 1, by decide, by decide⟩,
    ⟨{ rdy with flash.partB.dump1 := .released [1] }, 1, 1, [1], by decide⟩,
    ⟨rdy, hc, laneChan 0 .up 0, 0, 8, by decide, by decide, by decide⟩,
    ⟨linkState { link0 with state := .down }, hc, by decide⟩,
    ⟨{ rdy with keeper.status := 0x40000000 }, ho, .railSense, by decide, by decide, by decide, by decide⟩,
    ⟨rdy, hc, List.replicate 96 1, by decide, by decide⟩,
    ⟨rdy, hc, by decide⟩,
    ⟨rdy, hc, by decide⟩,
    ⟨rdy, hc, by decide⟩⟩

/-- States and operands that meet the hypotheses of `Obligations.LongOperationsEnd`. -/
theorem witness_LongOperationsEnd :
    (∃ (s : State) (m : MbxIx) (o : LongOp) (i : CtxId) (a : PAddr) (n : Nat) (key : List Byte), s.longIn m = some o ∧
      o.kind = .imageInstall i a n key ∧ s.poisonLines a.toNat n = []) ∧
    (∃ (s : State) (m : MbxIx) (o : LongOp), s.longIn m = some o ∧ o.kind = .holdEnter) ∧
    (∃ (s : State) (m : MbxIx) (o : LongOp), s.longIn m = some o ∧ o.kind = .holdLeave) ∧
    (∃ (s : State) (m : MbxIx) (o : LongOp) (i : CtxId) (a : PAddr) (n : Nat), s.longIn m = some o ∧ o.kind = .fwWrite i a n
      ∧ s.poisonLines a.toNat n = []) ∧
    (∃ (s : State) (m : MbxIx) (o : LongOp), s.longIn m = some o ∧ o.kind = .fwVerify) ∧
    (∃ (s : State) (m : MbxIx) (o : LongOp) (p : Fin 2) (k : Fin 2) (f : Nat) (n : Nat) (i : CtxId) (a : PAddr) (h : Nat) (x : Nat),
      s.longIn m = some o ∧ o.kind = .dumpRead p k f n i a ∧ (s.context i.val).state = .opened ∧ 0 < n ∧
      a.toNat % 64 + n ≤ 64 ∧ s.place a.toNat = .cell h x ∧ h < 12 ∧ x + n ≤ 0x10000000000 ∧ s.poisoned h x = false) ∧
    (∃ (s : State) (m : MbxIx) (o : LongOp) (c : Chan) (n : Nat) (b : Bool), s.longIn m = some o ∧
      o.kind = .selftest c 0 n b) ∧
    (∃ (s : State) (m : MbxIx) (o : LongOp) (l : LinkIx), s.longIn m = some o ∧ o.kind = .linkMargin l) ∧
    (∃ (s : State) (m : MbxIx) (o : LongOp) (q : CalQuantity) (e : EngineIx) (i : CalItem), s.longIn m = some o ∧
      o.kind = .calRun q e [i] ∧ isOptical q = false ∧ i.refPresent = true ∧ i.plausible = true ∧
      wordPlausible q i.word = true ∧ calWordOk i.word = true ∧ s.calLost q i = false) ∧
    (∃ (s : State) (m : MbxIx) (o : LongOp) (i : CtxId), s.longIn m = some o ∧ o.kind = .teardown i) :=
  ⟨⟨{ longState (long0 (.imageInstall 1 0 64 [])) with ops.contexts := [(1, ctx0)] }, 0, long0 (.imageInstall 1 0 64 []),
      1, 0, 64, [], by decide, by decide, by decide⟩,
    ⟨longState (long0 .holdEnter), 0, long0 .holdEnter, by decide, by decide⟩,
    ⟨longState (long0 .holdLeave), 0, long0 .holdLeave, by decide, by decide⟩,
    ⟨longState (long0 (.fwWrite 1 0 64)), 0, long0 (.fwWrite 1 0 64), 1, 0, 64, by decide, by decide, by decide⟩,
    ⟨longState (long0 .fwVerify), 0, long0 .fwVerify, by decide, by decide⟩,
    ⟨{ longState (long0 (.dumpRead 1 1 0 2 1 0)) with ops.contexts := [(1, ctx0)], flash.partB.dump1 := .full [1, 2] }, 0,
      long0 (.dumpRead 1 1 0 2 1 0), 1, 1, 0, 2, 1, 0, 0, 0, by decide, by decide, by decide, by decide, by decide,
      by decide, by decide, by decide, by decide⟩,
    ⟨longState (long0 (.selftest (stackChan 0) 0 8 false)), 0, long0 (.selftest (stackChan 0) 0 8 false), stackChan 0, 8,
      false, by decide, by decide⟩,
    ⟨longState (long0 (.linkMargin 63)), 0, long0 (.linkMargin 63), 63, by decide, by decide⟩,
    ⟨longState (long0 (.calRun .railSense 0 [item0])), 0, long0 (.calRun .railSense 0 [item0]), .railSense, 0, item0,
      by decide, by decide, by decide, by decide, by decide, by decide, by decide, by decide⟩,
    ⟨longState (long0 (.teardown 1)), 0, long0 (.teardown 1), 1, by decide, by decide⟩⟩

/-- States and operands that meet the hypotheses of `Obligations.SpdmNegotiatesAndAttests`. -/
theorem witness_SpdmNegotiatesAndAttests :
    (∃ (s : State) (c : SpdmConn), s.spdmUp c = true) ∧
    (∃ (s : State) (c : SpdmConn), s.spdmUp c = true) ∧
    (∃ (s : State) (c : SpdmConn), s.spdmUp c = true) ∧
    (∃ (s : State) (c : SpdmConn) (u : BitVec 384) (k : BitVec 384), s.spdmUp c = true ∧ s.sec.uds = some u ∧
      s.sec.aliasKey = some k ∧ s.spdmPhase c = .algorithms) ∧
    (∃ (s : State) (c : SpdmConn) (u : BitVec 384) (k : BitVec 384), s.spdmUp c = true ∧ s.sec.uds = some u ∧
      s.sec.aliasKey = some k ∧ s.spdmPhase c = .algorithms) ∧
    (∃ (s : State) (c : SpdmConn) (u : BitVec 384) (k : BitVec 384), s.spdmUp c = true ∧ s.sec.uds = some u ∧
      s.sec.aliasKey = some k ∧ s.spdmPhase c = .algorithms) ∧
    (∃ (s : State) (c : SpdmConn) (u : BitVec 384) (k : BitVec 384), s.spdmUp c = true ∧ s.sec.uds = some u ∧
      s.sec.aliasKey = some k ∧ s.spdmPhase c = .algorithms) ∧
    (∃ (s : State) (c : SpdmConn), s.spdmUp c = true ∧ s.sec.uds = none) ∧
    (∃ (s : State) (c : SpdmConn), s.spdmUp c = true) ∧
    (∃ (s : State) (c : SpdmConn), s.spdmUp c = false) :=
  ⟨⟨rdy, .doe .b, by decide⟩,
    ⟨rdy, .doe .b, by decide⟩,
    ⟨rdy, .doe .b, by decide⟩,
    ⟨spdmState, .mctp 2 5, 0, 3, by decide, by decide, by decide, by decide⟩,
    ⟨spdmState, .mctp 2 5, 0, 3, by decide, by decide, by decide, by decide⟩,
    ⟨spdmState, .mctp 2 5, 0, 3, by decide, by decide, by decide, by decide⟩,
    ⟨spdmState, .mctp 2 5, 0, 3, by decide, by decide, by decide, by decide⟩,
    ⟨{ rdy with sec.uds := none }, .doe .b, by decide, by decide⟩,
    ⟨rdy, .doe .b, by decide⟩,
    ⟨State.reset, .doe .b, by decide⟩⟩

/-- States and operands that meet the hypotheses of `Obligations.SpdmSessionsOpenAndEnd`. -/
theorem witness_SpdmSessionsOpenAndEnd :
    (∃ (s : State) (c : SpdmConn) (u : BitVec 384) (k : BitVec 384), s.spdmUp c = true ∧ s.sec.uds = some u ∧
      s.sec.aliasKey = some k ∧ s.spdmPhase c = .algorithms) ∧
    (∃ (s : State) (c : SpdmConn) (i : Nat) (x : Session) (u : BitVec 384) (k : BitVec 384), s.spdmUp c = true ∧
      s.sec.uds = some u ∧ s.sec.aliasKey = some k ∧ s.spdmPhase c = .algorithms ∧ s.session c i = some x ∧
      x.established = false) ∧
    (∃ (s : State) (c : SpdmConn) (u : BitVec 384) (k : BitVec 384), s.spdmUp c = true ∧ s.sec.uds = some u ∧
      s.sec.aliasKey = some k ∧ s.spdmPhase c = .algorithms) ∧
    (∃ (s : State) (c : SpdmConn) (i : Nat) (x : Session) (u : BitVec 384) (k : BitVec 384), s.spdmUp c = true ∧
      s.sec.uds = some u ∧ s.sec.aliasKey = some k ∧ s.spdmPhase c = .algorithms ∧ s.session c i = some x ∧
      x.established = true) ∧
    (∃ (s : State) (c : SpdmConn) (u : BitVec 384) (k : BitVec 384), s.spdmUp c = true ∧ s.sec.uds = some u ∧
      s.sec.aliasKey = some k ∧ s.spdmPhase c = .algorithms) :=
  ⟨⟨spdmState, .mctp 2 5, 0, 3, by decide, by decide, by decide, by decide⟩,
    ⟨{ spdmState with sec.sessions := [{ id := 0, conn := .mctp 2 5, established := false, updates := 0 }] }, .mctp 2 5, 0,
      { id := 0, conn := .mctp 2 5, established := false, updates := 0 }, 0, 3, by decide, by decide, by decide, by decide,
      by decide, by decide⟩,
    ⟨spdmState, .mctp 2 5, 0, 3, by decide, by decide, by decide, by decide⟩,
    ⟨{ spdmState with sec.sessions := [{ id := 0, conn := .mctp 2 5, established := true, updates := 0 }] }, .mctp 2 5, 0,
      { id := 0, conn := .mctp 2 5, established := true, updates := 0 }, 0, 3, by decide, by decide, by decide, by decide,
      by decide, by decide⟩,
    ⟨spdmState, .mctp 2 5, 0, 3, by decide, by decide, by decide, by decide⟩⟩

/-- States and operands that meet the hypotheses of `Obligations.ConsoleCommandsRunAndRecover`. -/
theorem witness_ConsoleCommandsRunAndRecover :
    (∃ (s : State) (cs : List Byte) (o : Bool), s.consoleHears = true ∧ ((o = true ∨ 128 < cs.length))) ∧
    (∃ (s : State) (cs : List Byte) (k : ConsoleCmd), s.consoleHears = true ∧ cs.length ≤ 128 ∧ s.keeper.idore = true ∧
      s.ready = false ∧ earlyConsole k = false) ∧
    (∃ (s : State), s.console.busy = true) ∧
    (∃ (s : State) (cs : List Byte), s.consoleHears = true ∧ cs.length ≤ 128 ∧ s.keeper.idore = true ∧ s.mbxBusy 15 = false) ∧
    (∃ (s : State) (o : LongOp), s.longIn 15 = some o ∧ o.cancellable = true) ∧
    (∃ (s : State), s.longIn 15 = none) ∧
    (∃ (s : State), s.consoleHears = true ∧ s.keeper.idore = true ∧ s.ready = true) ∧
    (∃ (s : State) (r : Byte), s.consoleHears = true ∧ s.keeper.idore = true ∧ s.ready = true ∧
      (railSpec r.toNat).isSome = true) ∧
    (∃ (s : State) (p : Fin 2), s.consoleHears = true ∧ s.keeper.idore = true ∧ s.ready = true ∧ s.modState = .serviceHold ∧
      (s.part p.val).formatted = false ∧ (s.part p.val).out = false) ∧
    (∃ (s : State), s.consoleHears = true ∧ s.romServes = true) ∧
    (∃ (s : State) (p : Fin 2), s.consoleHears = true ∧ s.romServes = true ∧ (s.part p.val).out = false) ∧
    (∃ (s : State), s.consoleHears = true ∧ s.romServes = true) :=
  ⟨⟨rdy, [], true, by decide, by decide⟩,
    ⟨{ State.reset with keeper.rom := true, keeper.idore := true }, [65], .holdEnter, by decide, by decide, by decide,
      by decide, by decide⟩,
    ⟨{ rdy with console.busy := true }, by decide⟩,
    ⟨rdy, [65], by decide, by decide, by decide, by decide⟩,
    ⟨longState { long0 (.selftest (stackChan 0) 0 8 false) with mbx := 15, caller := .console, code := .selftest },
      { long0 (.selftest (stackChan 0) 0 8 false) with mbx := 15, caller := .console, code := .selftest }, by decide,
      by decide⟩,
    ⟨rdy, by decide⟩,
    ⟨rdy, by decide, by decide, by decide⟩,
    ⟨rdy, 0x20, by decide, by decide, by decide, by decide⟩,
    ⟨{ rdy with keeper.status := 0x40000000, flash.partB.formatted := false }, 1, by decide, by decide, by decide,
      by decide, by decide, by decide⟩,
    ⟨{ State.reset with keeper.rom := true, keeper.status := 0x60000000 }, by decide, by decide⟩,
    ⟨{ State.reset with keeper.rom := true, keeper.status := 0x60000000 }, 1, by decide, by decide, by decide⟩,
    ⟨{ State.reset with keeper.rom := true, keeper.status := 0x60000000 }, by decide, by decide⟩⟩

/-- States and operands that meet the hypotheses of `Obligations.StepRunsTheFrontCommand`. -/
theorem witness_StepRunsTheFrontCommand :
    (∃ (s : State) (c : Instr) (rest : List Instr), s.pending = c :: rest) ∧
    (∃ (s : State), s.pending = []) :=
  ⟨⟨{ State.reset with pending := [.uartBreak] }, .uartBreak, [], by decide⟩,
    ⟨State.reset, by decide⟩⟩

theorem witness_StacksClearedThenReady_digest :
    ∃ (image : List Byte) (digest : BitVec 384), Config.sha384 image ≠ digest :=
  ⟨[], Config.sha384 [] + 1, by
    intro h
    have h := congrArg BitVec.toNat h
    rw [BitVec.toNat_add] at h
    have := (Config.sha384 []).isLt
    have e : (1 : BitVec 384).toNat = 1 := by decide
    rw [e] at h
    omega⟩

/-- A ready module with a listed byte and a command that writes it. -/
def writing : State := { rdy with mem.cells := [(0, 5)], pending := [.homeWrite .keeper 0 [0] false] }

theorem witness_StepKeepsMemoryCanonical : ∃ s t : State, s.canonical = true ∧ step s = .next t :=
  ⟨writing, _, by decide, rfl⟩

/-- A ready module at its bounds: four long operations, intervals at both ends, vector 69 held, and a command that waits. -/
def brimful : State :=
  { rdy with
    keeper.longOps := List.replicate 4 (long0 .fwVerify), tel.interval := 1000000, tel.nextInterval := 100
    host.portA := { Port.reset with released := true, up := true, active := true, pending := 1 <<< 69 }
    pending := [.vectorDelivery .a 69] }

theorem witness_StepKeepsBounds :
    ∃ s t : State, s.bounded ∧ step s = .next t ∧ ∃ p v, Out.msix p v ∈ t.out.drop s.out.length :=
  ⟨brimful, _, ⟨by decide, by decide, by decide, by decide, by decide, by decide, by decide, by decide, by decide, fun v h => by
    constructor
    · show (1 <<< 69 : BitVec 256).getLsbD v = false
      have e : (1 <<< 69 : BitVec 256) = BitVec.twoPow 256 69 := by decide
      rw [e, BitVec.getLsbD_twoPow]
      simp only [Bool.and_eq_false_imp, decide_eq_true_eq, decide_eq_false_iff_not]
      omega
    · exact BitVec.getLsbD_zero⟩, rfl, .a, 69, by decide⟩

/-- A window of context 1 to module 3 over the 64 MiB from a multiple of 64 MiB, valid. -/
def window0 (base : Nat) : BitVec 256 := BitVec.ofNat 256 (1 + 3 * 2 ^ 14 + 1 * 2 ^ 22 + base * 2 ^ 74)

/-- A domain module with two windows side by side, and a command that waits. -/
def windowed : State := { domState with domain.windows := [(0, window0 0), (1, window0 1)], pending := [.cmdLinksetWrite hm 1 [0]] }

theorem witness_WindowsNeverOverlap :
    (∃ s t : State, s.windowsApart ∧ step s = .next t) ∧
    ∃ (s : State) (p q : Nat × BitVec 256) (off : Nat), s.windowsApart ∧ p ∈ s.domain.windows ∧ q ∈ s.domain.windows ∧
      winValid p.2 = true ∧ winValid q.2 = true ∧ winContext p.2 = winContext q.2 ∧ winModule p.2 = winModule q.2 ∧
      winHolds p.2 off 1 = true ∧ winHolds q.2 off 1 = true :=
  have h : windowed.windowsApart := by unfold State.windowsApart; decide
  ⟨⟨windowed, _, h, rfl⟩, windowed, (1, window0 1), (1, window0 1), 0x4000000, h, by decide, by decide, by decide, by decide,
    by decide, by decide, by decide, by decide⟩

theorem witness_TelemetryIntervalClamped :
    ∃ (s t : State) (a b : Agent) (x : W32),
      (a = .keeper ∨ ∃ p, a = .host p ∧ (s.port p).serves = true ∧ (s.port p).active = true) ∧
      (b = .keeper ∨ ∃ p, b = .host p ∧ (s.port p).serves = true ∧ (s.port p).active = true) ∧ (s.base 0).pllLocked = true ∧
      exec (.telIntervalWrite a x) s = .next t :=
  ⟨rdy, _, .host .a, .keeper, 99, .inr ⟨.a, rfl, by decide, by decide⟩, .inl rfl, by decide, rfl⟩

end Sys2Proof.Tests
end

section
/-! PROOFS. The telemetry boundary and the registers (chapter 10, R10): what measuring, latching and reporting each leave of the state, and
one equation for each register access. -/

namespace Sys2Proof.Machine

/-! ### Flag words -/

/-- A word with bit `k` replaced: that bit, and every other as it was. -/
theorem getLsbD_putBit {w : Nat} (v : BitVec w) {k : Nat} (hk : k < w) (b : Bool) (i : Nat) :
    (putBit v k b).getLsbD i = if i = k then b else v.getLsbD i := by
  have hmask : BitVec.ofNat w (2 ^ k) = BitVec.twoPow w k := by
    apply BitVec.eq_of_toNat_eq
    rw [BitVec.toNat_ofNat, BitVec.toNat_twoPow]
  by_cases hi : i = k
  · subst hi
    cases b <;> simp [putBit, putField, hmask, hk]
  · by_cases hw : i < w
    · cases b <;> simp [putBit, putField, hmask, hi, hw]
    · simp [BitVec.getLsbD_of_ge _ i (Nat.le_of_not_lt hw), hi]

/-! ### What the hardware measures at a boundary (R146, R201, R278) -/

/-- A state without what a boundary measures: the counts in progress, the lasers, and the free values taken. -/
def State.unmeasured (s : State) : State := { s with tel.live := [], optics := Optics.reset, freeIx := 0 }

@[simp] theorem State.count_unmeasured (s : State) (k c i n : Nat) : (s.count k c i n).unmeasured = s.unmeasured := by
  unfold State.unmeasured; rfl

@[simp] theorem State.spend_unmeasured (s : State) : s.spend.unmeasured = s.unmeasured := by unfold State.unmeasured; rfl

@[simp] theorem State.modEngine_unmeasured (s : State) (k : Nat) (f : Engine → Engine) :
    (s.modEngine k f).unmeasured = s.unmeasured := by unfold State.unmeasured; rfl

theorem State.readStackCounts_unmeasured (s : State) (k : Nat) : (s.readStackCounts k).unmeasured = s.unmeasured := by
  unfold State.readStackCounts
  split <;> simp

theorem State.readXoff_unmeasured (s : State) (l : Nat) : (s.readXoff l).unmeasured = s.unmeasured := by
  unfold State.readXoff
  split
  · exact foldl_keeps State.unmeasured _ (fun _ _ => by simp [State.countLink]) _ s
  · rfl

theorem State.settleLaser_unmeasured (s : State) (e k : Nat) : (s.settleLaser e k).unmeasured = s.unmeasured := by
  unfold State.settleLaser
  split <;> simp

theorem State.settleLasers_unmeasured (s : State) (e : Nat) : (s.settleLasers e).unmeasured = s.unmeasured :=
  foldl_keeps State.unmeasured _ (fun t k => t.settleLaser_unmeasured e k) _ s

/-- What a boundary measures touches nothing else. -/
theorem State.readHardware_unmeasured (s : State) : s.readHardware.unmeasured = s.unmeasured := by
  unfold State.readHardware
  rw [foldl_keeps State.unmeasured _ State.readXoff_unmeasured, foldl_keeps State.unmeasured _ State.settleLasers_unmeasured,
    foldl_keeps State.unmeasured _ State.readStackCounts_unmeasured]

@[simp] theorem State.readHardware_mem (s : State) : s.readHardware.mem = s.mem := by
  simpa [State.unmeasured] using congrArg State.mem s.readHardware_unmeasured
@[simp] theorem State.readHardware_out (s : State) : s.readHardware.out = s.out := by
  simpa [State.unmeasured] using congrArg State.out s.readHardware_unmeasured
@[simp] theorem State.readHardware_ops (s : State) : s.readHardware.ops = s.ops := by
  simpa [State.unmeasured] using congrArg State.ops s.readHardware_unmeasured
@[simp] theorem State.readHardware_compute (s : State) : s.readHardware.compute = s.compute := by
  simpa [State.unmeasured] using congrArg State.compute s.readHardware_unmeasured
@[simp] theorem State.readHardware_keeper (s : State) : s.readHardware.keeper = s.keeper := by
  simpa [State.unmeasured] using congrArg State.keeper s.readHardware_unmeasured

theorem Telemetry.eq_of_eq_beside_live {t u : Telemetry} (h : ({ t with live := [] } : Telemetry) = { u with live := [] }) :
    t = { u with live := t.live } := by
  cases t
  cases u
  simp_all

/-- Measuring moves no part of telemetry but the counts in progress. -/
theorem State.readHardware_tel (s : State) : s.readHardware.tel = { s.tel with live := s.readHardware.tel.live } :=
  Telemetry.eq_of_eq_beside_live (by simpa [State.unmeasured] using congrArg State.tel s.readHardware_unmeasured)

theorem State.count_live_other (s : State) {n kind src k : Nat} (x : Nat) (h : n ≠ counterKey kind src 0 k) :
    Store.get 0 (s.count kind src k x).tel.live n = Store.get 0 s.tel.live n := Store.get_put_other _ _ _ h

theorem State.readStackCounts_live_other (s : State) {n k : Nat} (h3 : n ≠ counterKey 4 k 0 3) (h4 : n ≠ counterKey 4 k 0 4) :
    Store.get 0 (s.readStackCounts k).tel.live n = Store.get 0 s.tel.live n := by
  unfold State.readStackCounts
  split
  · exact (State.count_live_other _ _ h4).trans (State.count_live_other _ _ h3)
  · rfl

theorem State.settleLaser_tel (s : State) (e k : Nat) : (s.settleLaser e k).tel = s.tel := by
  unfold State.settleLaser
  split <;> rfl

theorem State.settleLasers_tel (s : State) (e : Nat) : (s.settleLasers e).tel = s.tel :=
  foldl_keeps State.tel _ (fun t k => t.settleLaser_tel e k) _ s

theorem State.readXoff_live_other (s : State) {n l : Nat} (h : ∀ i < 9, n ≠ counterKey 2 l 0 (8 + i)) :
    Store.get 0 (s.readXoff l).tel.live n = Store.get 0 s.tel.live n := by
  unfold State.readXoff
  split
  · exact List.foldlRecOn (motive := fun t : State => Store.get 0 t.tel.live n = Store.get 0 s.tel.live n) _ _ rfl
      fun t ht i hi => (t.count_live_other _ (h i (List.mem_range.mp hi))).trans ht
  · rfl

/-- A counter that the hardware does not measure apart holds its running count. -/
theorem State.readHardware_live_other (s : State) {n : Nat}
    (hstack : ∀ h < 12, n ≠ counterKey 4 h 0 3 ∧ n ≠ counterKey 4 h 0 4)
    (hlink : ∀ l < 64, ∀ i < 9, n ≠ counterKey 2 l 0 (8 + i)) :
    Store.get 0 s.readHardware.tel.live n = Store.get 0 s.tel.live n := by
  unfold State.readHardware
  refine List.foldlRecOn (motive := fun t : State => Store.get 0 t.tel.live n = Store.get 0 s.tel.live n) _ _ ?_
    fun t ht l hl => (t.readXoff_live_other (hlink l (List.mem_range.mp hl))).trans ht
  rw [foldl_keeps State.tel _ State.settleLasers_tel]
  refine List.foldlRecOn (motive := fun t : State => Store.get 0 t.tel.live n = Store.get 0 s.tel.live n) _ _ rfl
    fun t ht h hh => ?_
  obtain ⟨h3, h4⟩ := hstack h (List.mem_range.mp hh)
  exact (t.readStackCounts_live_other h3 h4).trans ht

/-! ### The state at a boundary, before the keeper's part (R323, R324) -/

/-- Telemetry as a boundary leaves it: the counts latch and restart. -/
def Telemetry.atBoundary (t : Telemetry) : Telemetry :=
  { t with timestamp := BitVec.ofNat 64 (nextBoundary t.timestamp.toNat (t.interval * 1440)), latched := t.live, live := []
           index := t.index + 1, interval := t.nextInterval }

theorem Telemetry.atBoundary_latched (t : Telemetry) : t.atBoundary.latched = t.live := rfl
theorem Telemetry.atBoundary_live (t : Telemetry) : t.atBoundary.live = [] := rfl

/-- The counts latch and the clock moves to the boundary. -/
def State.latchCounts (s : State) : State := { s with tel := s.tel.atBoundary }

/-- The state at a boundary, before the keeper's part of it. -/
def State.atBoundary (s : State) : State := s.readHardware.latchCounts.restartCounts.updateStart

theorem exec_telemetryBoundary {s : State} (h : (s.base 0).pllLocked = true) :
    exec .telemetryBoundary s = .next (s.atBoundary.report (s.readHardware.tel.interval * 1440)) := by
  simp only [exec, execTelemetryBoundary, h]
  rfl

@[simp] theorem State.latchCounts_tel (s : State) : s.latchCounts.tel = s.tel.atBoundary := rfl
@[simp] theorem State.latchCounts_mem (s : State) : s.latchCounts.mem = s.mem := rfl
@[simp] theorem State.latchCounts_out (s : State) : s.latchCounts.out = s.out := rfl
@[simp] theorem State.latchCounts_ops (s : State) : s.latchCounts.ops = s.ops := rfl
@[simp] theorem State.latchCounts_compute (s : State) : s.latchCounts.compute = s.compute := rfl
@[simp] theorem State.latchCounts_keeper (s : State) : s.latchCounts.keeper = s.keeper := rfl

@[simp] theorem State.restartCounts_tel (s : State) : s.restartCounts.tel = s.tel := rfl
@[simp] theorem State.restartCounts_mem (s : State) : s.restartCounts.mem = s.mem := rfl
@[simp] theorem State.restartCounts_out (s : State) : s.restartCounts.out = s.out := rfl
@[simp] theorem State.restartCounts_ops (s : State) : s.restartCounts.ops = s.ops := rfl
@[simp] theorem State.restartCounts_compute (s : State) : s.restartCounts.compute = s.compute := rfl
@[simp] theorem State.restartCounts_keeper (s : State) : s.restartCounts.keeper = s.keeper := rfl

/-- The start's progress word is all that MBX_START's update writes. -/
theorem State.updateStart_eq (s : State) : ∃ w, s.updateStart = { s with keeper.start := w } := by
  unfold State.updateStart
  split
  · exact ⟨_, rfl⟩
  · exact ⟨s.keeper.start, rfl⟩

/-- Restarting the counts and the start's progress word leave telemetry as it was. -/
theorem State.atBoundary_tel (s : State) : s.atBoundary.tel = s.readHardware.tel.atBoundary := by
  obtain ⟨w, hw⟩ := s.readHardware.latchCounts.restartCounts.updateStart_eq
  simp [State.atBoundary, hw]

/-- Memory, contexts, rings, compute dies and what has been sent are no part of a boundary before the keeper's. -/
theorem State.atBoundary_keeps (s : State) : s.atBoundary.mem = s.mem ∧ s.atBoundary.out = s.out ∧ s.atBoundary.ops = s.ops ∧
    s.atBoundary.compute = s.compute ∧ s.atBoundary.keeper.idore = s.keeper.idore := by
  obtain ⟨w, hw⟩ := s.readHardware.latchCounts.restartCounts.updateStart_eq
  simp [State.atBoundary, hw]

/-- At a boundary the timestamp stands at the next multiple of the interval, and the interval last written is in force. -/
theorem State.atBoundary_clock (s : State) :
    s.atBoundary.tel.timestamp =
      BitVec.ofNat 64 ((s.tel.timestamp.toNat / (s.tel.interval * 1440) + 1) * (s.tel.interval * 1440)) ∧
    s.atBoundary.tel.index = s.tel.index + 1 ∧ s.atBoundary.tel.interval = s.tel.nextInterval := by
  rw [State.atBoundary_tel, State.readHardware_tel]
  exact ⟨rfl, rfl, rfl⟩

/-! ### What the keeper's part of a boundary leaves (R320, R324, R356) -/

/-- What reporting leaves as it was: the compute dies, contexts and rings, and telemetry but for the counts in progress, the
counts of dropped records and the sensors. -/
def State.unreported (s : State) : Compute × Operators × Telemetry :=
  (s.compute, s.ops, { s.tel with live := [], dropped := [], sensors := [] })

@[simp] theorem State.ringRecord_unreported (s : State) (b : List Byte) : (s.ringRecord b).1.unreported = s.unreported := by
  simp [State.unreported]

@[simp] theorem State.vector_unreported (s : State) (v : Nat) : (s.vector v).unreported = s.unreported := by
  simp [State.unreported]

@[simp] theorem State.event_unreported (s : State) (c : EventCode) (i : Nat) (p : List Byte) :
    (s.event c i p).unreported = s.unreported := by
  unfold State.event
  dsimp only
  split
  · rfl
  split
  · split
    · split
      · rw [State.vector_unreported, State.ringRecord_unreported]
      · exact s.ringRecord_unreported _
    · rfl
  · split <;> rfl

theorem State.writeRecord_unreported (s : State) (cycles : Nat) (x : Source) :
    (s.writeRecord cycles x).unreported = s.unreported := by
  unfold State.writeRecord
  dsimp only
  split
  · rfl
  split
  · exact State.ringRecord_unreported _ _
  · rfl

@[simp] theorem State.modMailbox_unreported (s : State) (m : Nat) (f : Mailbox → Mailbox) :
    (s.modMailbox m f).unreported = s.unreported := rfl

@[simp] theorem State.emit_unreported (s : State) (o : Out) : (s.emit o).unreported = s.unreported := rfl

@[simp] theorem State.vectorTo_unreported (s : State) (p : HostPort) (v : Nat) : (s.vectorTo p v).unreported = s.unreported := by
  simp [State.unreported]

/-- A publication without output stores nothing in shelf SRAM. -/
theorem State.publish_unreported (s : State) (c : Caller) (m : MbxIx) (e : EventCode) (w : W64) (rs : List W64) :
    (s.publish c m e w rs []).unreported = s.unreported := by
  unfold State.publish
  simp only [List.isEmpty_nil, Bool.not_true, Bool.and_false, Bool.false_eq_true, if_false]
  split
  · simp
  · simp
  · split <;> simp

/-- The progress of a running operation is published without output. -/
theorem State.publishLong_unreported (s : State) (o : LongOp) : (s.publishLong o).unreported = s.unreported :=
  s.publish_unreported _ _ _ _ _

theorem State.updateSensors_unreported (s : State) : s.updateSensors.unreported = s.unreported := rfl

/-- The records of a boundary and their vector, once the event ring exists. -/
def State.writeRecords (s : State) (cycles : Nat) : State :=
  if s.keeper.eventRing then (s.sources.foldl (fun t x => t.writeRecord cycles x) s).vector 67 else s

theorem State.writeRecords_unreported (s : State) (cycles : Nat) : (s.writeRecords cycles).unreported = s.unreported := by
  unfold State.writeRecords
  split
  · rw [State.vector_unreported, foldl_keeps State.unreported _ fun t x => t.writeRecord_unreported cycles x]
  · rfl

theorem State.report_before_idore {s : State} (cycles : Nat) (h : s.keeper.idore = false) : s.report cycles = s := by
  simp [State.report, h]

theorem State.report_of_idore {s : State} (cycles : Nat) (h : s.keeper.idore = true) :
    s.report cycles = (s.writeRecords cycles).updateSensors.advanceScrubs.keeper.longOps.foldl State.publishLong
      (s.writeRecords cycles).updateSensors.advanceScrubs := by
  simp only [State.report, h]
  rfl

/-! ### A running scrub (R162, R163) -/

/-- A context's scrub has moved on to `c'`: some lines further, and not beyond the context's regions. -/
def Context.scrubMovesTo (c c' : Context) : Prop :=
  c'.state = c.state ∧ c'.regions = c.regions ∧
    ∀ td, c.state = .scrubbing → c.teardown = some td → ∃ n, c'.teardown = some { td with scrubbed := n } ∧
      td.scrubbed ≤ n ∧ n ≤ max td.scrubbed (regionBytes c.regions)

theorem Context.scrubMovesTo_refl (c : Context) : c.scrubMovesTo c :=
  ⟨rfl, rfl, fun td _ h => ⟨td.scrubbed, h, Nat.le_refl _, Nat.le_max_left _ _⟩⟩

theorem Context.scrubMovesTo_trans {a b c : Context} (hab : a.scrubMovesTo b) (hbc : b.scrubMovesTo c) : a.scrubMovesTo c := by
  obtain ⟨habState, habRegions, habScrub⟩ := hab
  obtain ⟨hbcState, hbcRegions, hbcScrub⟩ := hbc
  refine ⟨hbcState.trans habState, hbcRegions.trans habRegions, fun td hs ht => ?_⟩
  obtain ⟨n, hn, hlow, hhigh⟩ := habScrub td hs ht
  obtain ⟨m, hm, hlow', hhigh'⟩ := hbcScrub _ (habState.trans hs) hn
  rw [habRegions] at hhigh'
  exact ⟨m, hm, Nat.le_trans hlow hlow', by dsimp only at hlow' hhigh'; omega⟩

/-- Lines of 64 bytes passed within what a scrub has left do not go beyond the regions. -/
theorem scrub_reach_le (done total x : Nat) : done + 64 * (x % ((total - done) / 64 + 1)) ≤ max done total := by
  have hx : x % ((total - done) / 64 + 1) < (total - done) / 64 + 1 := Nat.mod_lt _ (Nat.succ_pos _)
  omega

/-- A step of a scrub touches no ring, compute die or count. -/
theorem State.advanceScrub_keeps (s : State) (i : Nat) :
    ((s.advanceScrub i).compute, (s.advanceScrub i).ops.rings, (s.advanceScrub i).tel) = (s.compute, s.ops.rings, s.tel) := by
  unfold State.advanceScrub
  dsimp only
  split <;> rfl

@[simp] theorem State.modLong_context (s : State) (p : LongOp → Bool) (f : LongOp → LongOp) (k : Nat) :
    (s.modLong p f).context k = s.context k := rfl
@[simp] theorem State.scrubRegions_context (s : State) (rs : List Region) (k : Nat) :
    (s.scrubRegions rs).context k = s.context k := rfl
@[simp] theorem State.spend_context (s : State) (k : Nat) : s.spend.context k = s.context k := rfl

theorem State.advanceScrub_context_other (s : State) {i k : Nat} (h : k ≠ i) : (s.advanceScrub i).context k = s.context k := by
  unfold State.advanceScrub
  dsimp only
  split
  · simp [State.modContext_context_other _ _ h]
  · rfl

theorem State.advanceScrub_context_self (s : State) (k : Nat) : (s.context k).scrubMovesTo ((s.advanceScrub k).context k) := by
  unfold State.advanceScrub
  dsimp only
  split
  case h_1 td hstate htd =>
    simp only [State.modLong_context, State.modContext_context, State.scrubRegions_context, State.spend_context]
    refine ⟨rfl, rfl, fun td' _ htd' => ?_⟩
    obtain rfl : td = td' := Option.some.inj (htd.symm.trans htd')
    exact ⟨_, rfl, Nat.le_add_right _ _, scrub_reach_le _ _ _⟩
  case h_2 => exact Context.scrubMovesTo_refl _

theorem State.advanceScrub_context (s : State) (i k : Nat) : (s.context k).scrubMovesTo ((s.advanceScrub i).context k) := by
  by_cases h : k = i
  · subst h
    exact s.advanceScrub_context_self k
  · rw [s.advanceScrub_context_other h]
    exact Context.scrubMovesTo_refl _

theorem State.advanceScrubs_keeps (s : State) :
    (s.advanceScrubs.compute, s.advanceScrubs.ops.rings, s.advanceScrubs.tel) = (s.compute, s.ops.rings, s.tel) :=
  foldl_keeps (fun t : State => (t.compute, t.ops.rings, t.tel)) _ State.advanceScrub_keeps _ s

theorem State.advanceScrubs_context (s : State) (k : Nat) : (s.context k).scrubMovesTo (s.advanceScrubs.context k) :=
  List.foldlRecOn (motive := fun t : State => (s.context k).scrubMovesTo (t.context k)) _ _ (Context.scrubMovesTo_refl _)
    fun t ht i _ => Context.scrubMovesTo_trans ht (t.advanceScrub_context i k)

/-! ### The keeper's part as a whole -/

/-- The publications after the scrubs' progress leave what reporting leaves. -/
theorem State.report_unreported {s : State} (cycles : Nat) (h : s.keeper.idore = true) :
    (s.report cycles).unreported = (s.writeRecords cycles).updateSensors.advanceScrubs.unreported := by
  rw [State.report_of_idore cycles h]
  exact foldl_keeps State.unreported _ State.publishLong_unreported _ _

/-- The keeper's part of a boundary moves no compute die, no ring, and of telemetry only the counts in progress, the counts of
dropped records and the sensors. -/
theorem State.report_keeps (s : State) (cycles : Nat) :
    (s.report cycles).compute = s.compute ∧ (s.report cycles).ops.rings = s.ops.rings ∧
    (s.report cycles).tel.latched = s.tel.latched ∧ (s.report cycles).tel.timestamp = s.tel.timestamp ∧
    (s.report cycles).tel.index = s.tel.index ∧ (s.report cycles).tel.interval = s.tel.interval := by
  cases h : s.keeper.idore with
  | false => simp [State.report_before_idore cycles h]
  | true =>
    have hreport := State.report_unreported cycles h
    have hscrub := (s.writeRecords cycles).updateSensors.advanceScrubs_keeps
    have hrecord := (State.updateSensors_unreported _).trans (s.writeRecords_unreported cycles)
    simp only [State.unreported, Prod.mk.injEq, Telemetry.mk.injEq] at hreport hscrub hrecord
    simp [hreport, hscrub, hrecord]

/-- A scrub moves on with the keeper's part of a boundary. -/
theorem State.report_context (s : State) (cycles k : Nat) (h : s.keeper.idore = true) :
    (s.context k).scrubMovesTo ((s.report cycles).context k) := by
  have hafter : (s.report cycles).ops = (s.writeRecords cycles).updateSensors.advanceScrubs.ops :=
    congrArg (fun p => p.2.1) (State.report_unreported cycles h)
  have hbefore : (s.writeRecords cycles).updateSensors.ops = s.ops :=
    congrArg (fun p => p.2.1) (s.writeRecords_unreported cycles)
  have hscrub := (s.writeRecords cycles).updateSensors.advanceScrubs_context k
  simpa only [State.context, hbefore, hafter] using hscrub


/-! ### TELEMETRY_BOUNDARY as a whole -/

/-- TELEMETRY_BOUNDARY on an interval clock that runs (R323, R324, R163). -/
theorem telemetryBoundary_latches (s : State) (hpll : (s.base 0).pllLocked = true) : ∃ t, exec .telemetryBoundary s = .next t ∧
    (∀ n, (∀ h < 12, n ≠ counterKey 4 h 0 3 ∧ n ≠ counterKey 4 h 0 4) → (∀ l < 64, ∀ i < 9, n ≠ counterKey 2 l 0 (8 + i)) →
      Store.get 0 t.tel.latched n = Store.get 0 s.tel.live n) ∧
    t.tel.timestamp = BitVec.ofNat 64 ((s.tel.timestamp.toNat / (s.tel.interval * 1440) + 1) * (s.tel.interval * 1440)) ∧
    t.tel.index = s.tel.index + 1 ∧ t.tel.interval = s.tel.nextInterval ∧ t.compute = s.compute ∧ t.ops.rings = s.ops.rings ∧
    (s.keeper.idore = false → t.tel.live = [] ∧ t.mem = s.mem ∧ t.out = s.out ∧ t.ops = s.ops) ∧
    (s.keeper.idore = true → ∀ (c : CtxId) (td : Teardown), (s.context c.val).state = .scrubbing →
      (s.context c.val).teardown = some td → ∃ n, (t.context c.val).teardown = some { td with scrubbed := n } ∧
        td.scrubbed ≤ n ∧ n ≤ max td.scrubbed (regionBytes (s.context c.val).regions)) := by
  obtain ⟨hmem, hout, hops, hcompute, hidore⟩ := s.atBoundary_keeps
  obtain ⟨htime, hindex, hinterval⟩ := s.atBoundary_clock
  obtain ⟨hcompute', hrings', hlatched', htime', hindex', hinterval'⟩ :=
    s.atBoundary.report_keeps (s.readHardware.tel.interval * 1440)
  refine ⟨_, exec_telemetryBoundary hpll, fun n hstack hlink => ?_, htime'.trans htime, hindex'.trans hindex,
    hinterval'.trans hinterval, hcompute'.trans hcompute, hrings'.trans (by rw [hops]), fun hbefore => ?_,
    fun hruns c td hstate htd => ?_⟩
  · rw [hlatched', State.atBoundary_tel, Telemetry.atBoundary_latched]
    exact s.readHardware_live_other hstack hlink
  · rw [State.report_before_idore _ (hidore.trans hbefore)]
    exact ⟨by rw [State.atBoundary_tel, Telemetry.atBoundary_live], hmem, hout, hops⟩
  · have hcontext : s.atBoundary.context c.val = s.context c.val := by rw [State.context, hops]; rfl
    obtain ⟨-, -, hscrub⟩ := s.atBoundary.report_context (s.readHardware.tel.interval * 1440) c.val (hidore.trans hruns)
    rw [hcontext] at hscrub
    exact hscrub td hstate htd

/-! ### The interval and the timestamp (R322, R323) -/

/-- An agent whose writes of BAR0 act: the keeper, or the host through a port that serves and is active (R302). -/
def State.writes (s : State) (a : Agent) : Prop :=
  a = .keeper ∨ ∃ p, a = .host p ∧ (s.port p).serves = true ∧ (s.port p).active = true

theorem State.hostWrite_of_writes {s : State} {a : Agent} (h : s.writes a) (act : State → State) : s.hostWrite a act = act s := by
  obtain rfl | ⟨p, rfl, hserves, hactive⟩ := h
  · rfl
  · simp [State.hostWrite, hserves, hactive]

theorem exec_telIntervalWrite {s : State} {a : Agent} (h : s.writes a) (us : W32) :
    exec (.telIntervalWrite a us) s = .next { s with tel.nextInterval := min 1000000 (max 100 us.toNat) } :=
  congrArg Host.Outcome.next (State.hostWrite_of_writes h _)

theorem exec_telTimestampRead_whole {s : State} {p : HostPort} {n : Nat} (u : Bool) (hp : (s.port p).serves = true) (hn : 8 ≤ n) :
    exec (.telTimestampRead (.host p) n u) s = .next (s.emit (.registerRead (.host p) .telTimestamp [s.tel.timestamp.toNat])) := by
  simp [exec, execTelTimestampRead, State.reads, hp, hn]

theorem exec_telTimestampRead_lower {s : State} {p : HostPort} (hp : (s.port p).serves = true) :
    exec (.telTimestampRead (.host p) 4 false) s =
      .next ({ s with tel.upperLatch := (s.tel.timestamp >>> 32).setWidth 32 }.emit
        (.registerRead (.host p) .telTimestamp [s.tel.timestamp.toNat % 2 ^ 32])) := by
  simp [exec, execTelTimestampRead, State.reads, hp]

theorem exec_telTimestampRead_upper {s : State} {p : HostPort} (hp : (s.port p).serves = true) :
    exec (.telTimestampRead (.host p) 4 true) s =
      .next (s.emit (.registerRead (.host p) .telTimestamp [s.tel.upperLatch.toNat])) := by
  simp [exec, execTelTimestampRead, State.reads, hp]

/-- The upper half of a 64-bit word as a number. -/
theorem toNat_upper_half (v : W64) : ((v >>> 32).setWidth 32 : W32).toNat = v.toNat / 2 ^ 32 := by
  have hv := v.isLt
  rw [BitVec.toNat_setWidth, BitVec.toNat_ushiftRight, Nat.shiftRight_eq_div_pow]
  omega

/-- Two 32-bit reads answer the two halves of the count at the first of them (R322). -/
theorem telTimestampRead_halves (s : State) (p : HostPort) (hp : (s.port p).serves = true) :
    ∃ t, exec (.telTimestampRead (.host p) 4 false) s = .next t ∧
    t.out = s.out ++ [.registerRead (.host p) .telTimestamp [s.tel.timestamp.toNat % 2 ^ 32]] ∧
    exec (.telTimestampRead (.host p) 4 true) t =
      .next (t.emit (.registerRead (.host p) .telTimestamp [s.tel.timestamp.toNat / 2 ^ 32])) := by
  refine ⟨_, exec_telTimestampRead_lower hp, rfl, ?_⟩
  rw [← toNat_upper_half]
  exact exec_telTimestampRead_upper (by cases p <;> exact hp)

/-! ### Register reads (R10, R307, R325) -/

/-- Clearing counters puts each of them at 0 and leaves the others. -/
theorem get_clearLatched (m : Store Nat) (ks : List Nat) (k : Nat) :
    Store.get 0 (clearLatched m ks) k = if k ∈ ks then 0 else Store.get 0 m k := by
  unfold clearLatched
  induction ks generalizing m with
  | nil => simp
  | cons j js ih =>
    rw [List.foldl_cons, ih, Store.get_put]
    by_cases hjs : k ∈ js <;> simp [hjs]

theorem exec_rcRegisterRead_counters {s : State} {r : Reg} (hlost : r ≠ .dblMbxLost) (hrc : isRc r = true) :
    exec (.rcRegisterRead .keeper r) s = .next ({ s with tel.latched := clearLatched s.tel.latched (rcKeys r) }.emit
      (.registerRead .keeper r ((rcKeys r).map fun k => Store.get 0 s.tel.latched k))) := by
  simp [exec, execRcRegisterRead, State.reads, isHost, hlost, hrc]

/-- A read of an RC register answers its latched counters and clears those and no others (R10, R325). -/
theorem rcRegisterRead_clears (s : State) (r : Reg) (hlost : r ≠ .dblMbxLost) (hrc : isRc r = true) :
    ∃ t, exec (.rcRegisterRead .keeper r) s = .next t ∧
    t.out = s.out ++ [.registerRead .keeper r ((rcKeys r).map fun k => Store.get 0 s.tel.latched k)] ∧
    t.tel.live = s.tel.live ∧ t.mem = s.mem ∧ (∀ k ∈ rcKeys r, Store.get 0 t.tel.latched k = 0) ∧
    ∀ k, k ∉ rcKeys r → Store.get 0 t.tel.latched k = Store.get 0 s.tel.latched k :=
  ⟨_, exec_rcRegisterRead_counters hlost hrc, rfl, rfl, rfl, fun k hk => (get_clearLatched _ _ k).trans (if_pos hk),
    fun k hk => (get_clearLatched _ _ k).trans (if_neg hk)⟩

theorem exec_rcRegisterRead_lost (s : State) : exec (.rcRegisterRead .keeper .dblMbxLost) s =
    .next ({ s with keeper.lost := 0 }.emit (.registerRead .keeper .dblMbxLost [s.keeper.lost.toNat])) := rfl

theorem exec_rcRegisterRead_fields {s : State} {r : Reg} (h : isRc r = false) : exec (.rcRegisterRead .keeper r) s =
    .next ({ s with freeIx := s.freeIx + readFree }.emit (.registerRead .keeper r (s.regFields r))) := by
  have hlost : r ≠ .dblMbxLost := by
    rintro rfl
    simp [isRc] at h
  simp [exec, execRcRegisterRead, State.reads, isHost, hlost, h]

theorem exec_rcRegisterRead_hidden {s : State} {p : HostPort} {r : Reg} (hp : (s.port p).serves = true) (hr : hostVisible r = false) :
    exec (.rcRegisterRead (.host p) r) s = .next (s.emit (.registerRead (.host p) r [0])) := by
  simp [exec, execRcRegisterRead, State.reads, isHost, hp, hr]

/-! ### Register writes (R9, R10, R104, R347, R350, R352) -/

theorem exec_registerWrite_readOnly {r : Reg} (s : State) (v : W64) (n : Nat) (h : r = .mbxStatus ∨ r = .mbxStart ∨ r = .dblMbxBusy ∨
      r = .dblFwcHead ∨ r = .dblFwrTail ∨ r = .dblEvtTail ∨ r = .telTimestamp ∨ r = .telStat) :
    exec (.registerWrite .keeper r v n) s = .next s := by
  obtain rfl | rfl | rfl | rfl | rfl | rfl | rfl | rfl := h <;> rfl

theorem field_zero {w : Nat} (v : BitVec w) (n : Nat) : field v 0 n = v.toNat % 2 ^ n := by
  simp [field, bitsOf]

/-- FLT_POLICY takes values 0 to 2, before the lock (R10). -/
theorem registerWrite_fltPolicy (s : State) (v : W64) (n : Nat) : ∃ t, exec (.registerWrite .keeper .fltPolicy v n) s = .next t ∧
    t.mem = s.mem ∧ t.out = s.out ∧
    t.faults.policy.val = if s.keeper.locked = true ∨ v.toNat % 4 = 3 then s.faults.policy.val else v.toNat % 4 := by
  have hexec : exec (.registerWrite .keeper .fltPolicy v n) s = .next (if s.keeper.locked || decide (2 < field v 0 2) then s
      else { s with faults.policy := Fin.ofNat 3 (field v 0 2) }) := rfl
  have hkept : (s.keeper.locked || decide (2 < field v 0 2)) = true ↔ s.keeper.locked = true ∨ v.toNat % 4 = 3 := by
    rw [field_zero, Bool.or_eq_true, decide_eq_true_eq]
    exact or_congr_right (by omega)
  refine ⟨_, hexec, ?_⟩
  by_cases h : s.keeper.locked = true ∨ v.toNat % 4 = 3
  · rw [if_pos (hkept.mpr h), if_pos h]
    exact ⟨rfl, rfl, rfl⟩
  · obtain ⟨-, hvalue⟩ := not_or.mp h
    rw [if_neg (mt hkept.mp h), if_neg h, field_zero]
    exact ⟨rfl, rfl, show v.toNat % 4 % 3 = v.toNat % 4 by omega⟩

theorem exec_registerWrite_evtMask (s : State) (v : W64) {n : Nat} (h : 8 ≤ n) :
    exec (.registerWrite .keeper .dblEvtMask v n) s = .next { s with keeper.evtMask := v } := by
  calc exec (.registerWrite .keeper .dblEvtMask v n) s
      = .next { s with keeper.evtMask := narrow s.keeper.evtMask v n } := rfl
    _ = .next { s with keeper.evtMask := v } := by rw [narrow, if_pos h]

/-- MBX_CMD of a mailbox that is not busy takes a word without its reserved bits (R9, R348). -/
theorem registerWrite_mbxCmd (s : State) (m : MbxIx) (v : W64) (h : s.mbxBusy m.val = false) :
    ∃ t, exec (.registerWrite .keeper (.mbxCmd m) v 8) s = .next t ∧
    (t.mailbox m.val).cmd = putField v 8 10 0 ∧ t.mem = s.mem ∧ t.out = s.out := by
  have hexec : exec (.registerWrite .keeper (.mbxCmd m) v 8) s =
      .next (s.modMailbox m.val fun x => { x with cmd := putField v 8 10 0 }) := by
    simp [exec, execRegisterWrite, State.writeShared, State.writeKeeper, State.mailboxWrite, isHost, h, narrow]
  exact ⟨_, hexec, by rw [State.modMailbox_mailbox], rfl, rfl⟩

theorem tailOk_iff (old new head : W32) (size : Nat) :
    tailOk old new head size = true ↔ (new - old).toNat < 2 ^ 31 ∧ (new - head).toNat ≤ size := by
  simp only [tailOk, Bool.and_eq_true, decide_eq_true_eq, Nat.reducePow]

/-- DBL_FWC_TAIL moves forward, and not beyond the ring's size (R104, R352). -/
theorem registerWrite_fwcTail (s : State) (v : W64) : ∃ t, exec (.registerWrite .keeper .dblFwcTail v 4) s = .next t ∧
    let new : W32 := v.setWidth 32
    t.keeper.fwcTail = if (new - s.keeper.fwcTail).toNat < 2 ^ 31 ∧ (new - s.keeper.fwcHead).toNat ≤ 4096 then new
      else s.keeper.fwcTail := by
  have hexec : exec (.registerWrite .keeper .dblFwcTail v 4) s = .next (s.writeFwcTail v 4) := rfl
  have hok := tailOk_iff s.keeper.fwcTail (v.setWidth 32) s.keeper.fwcHead 4096
  refine ⟨_, hexec, ?_⟩
  dsimp only
  cases h : tailOk s.keeper.fwcTail (v.setWidth 32) s.keeper.fwcHead 4096 with
  | true =>
    rw [if_pos (hok.mp h)]
    simp [State.writeFwcTail, h]
  | false =>
    rw [if_neg (mt hok.mpr (by simp [h]))]
    simp [State.writeFwcTail, h]

/-- A write to a busy mailbox marks it in DBL_MBX_LOST, and no other (R350). -/
theorem mailboxWriteWhileBusy_marks (s : State) (m : MbxIx) (h : s.mbxBusy m.val = true) :
    ∃ t, exec (.mailboxWriteWhileBusy m) s = .next t ∧
    t.keeper.lost.getLsbD m.val = true ∧ t.keeper.mailboxes = s.keeper.mailboxes ∧ t.out = s.out ∧
    ∀ i, i ≠ m.val → t.keeper.lost.getLsbD i = s.keeper.lost.getLsbD i := by
  have hexec : exec (.mailboxWriteWhileBusy m) s = .next (s.markLost m.val) := by
    simp [exec, execMailboxWriteWhileBusy, h]
  exact ⟨_, hexec, (getLsbD_putBit _ m.isLt _ _).trans (if_pos rfl), rfl, rfl,
    fun i hi => (getLsbD_putBit _ m.isLt _ _).trans (if_neg hi)⟩

/-- FWR_HEAD_WRITE within the responses written frees their slots (R352). -/
theorem exec_fwrHeadWrite {s : State} {p : HostPort} {c : W32} (h : s.writes (.host p))
    (hc : (c - s.keeper.fwrHead).toNat ≤ (s.keeper.fwrTail - s.keeper.fwrHead).toNat) :
    exec (.fwrHeadWrite p c) s = .next { s with keeper.fwrHead := c } := by
  have hok : headOk s.keeper.fwrHead c s.keeper.fwrTail = true := decide_eq_true hc
  simp [exec, execFwrHeadWrite, State.hostWrite_of_writes h, hok]

/-- Settles O43: the boundary by what measuring, latching and reporting each leave, and each register access by its own equation. -/
theorem telemetryLatchesAndRegistersAnswer : Obligations.TelemetryLatchesAndRegistersAnswer := by
  unfold Obligations.TelemetryLatchesAndRegistersAnswer
  refine ⟨telemetryBoundary_latches, fun s a us h => ⟨_, exec_telIntervalWrite h us, rfl, rfl, rfl, rfl⟩,
    fun s p n u hp hn => exec_telTimestampRead_whole u hp hn, telTimestampRead_halves, rcRegisterRead_clears,
    fun s => ⟨_, exec_rcRegisterRead_lost s, rfl, rfl⟩, fun s r h => ⟨_, exec_rcRegisterRead_fields h, rfl, rfl, rfl, rfl⟩,
    fun s p r hp hr => exec_rcRegisterRead_hidden hp hr, fun s r v n => rfl, fun s r v n h => exec_registerWrite_readOnly s v n h,
    registerWrite_fltPolicy, fun s v n h => exec_registerWrite_evtMask s v h, registerWrite_mbxCmd, registerWrite_fwcTail,
    mailboxWriteWhileBusy_marks, fun s p c hp ha hc => exec_fwrHeadWrite (.inr ⟨p, rfl, hp, ha⟩) hc⟩

end Sys2Proof.Machine
end
